-- ==== Sys2Proof/Word.lean ====
section
/-! DEFINITION. The names of the part's things (ports, slots, functions, channels, inputs, gauge slots, sample
sources, event kinds) and the octets that cross a link. Numbers the manual counts are natural numbers; only what the
links carry as bits is a bit vector. -/

namespace Sys2Proof

/-- One octet on a link (R169). -/
abbrev Byte := BitVec 8

/-- The two link ports (R169). -/
inductive Port where
  | link1 | link2
deriving DecidableEq, Repr

/-- The three master slots (R18). -/
inductive SlotId where
  | a | b | c
deriving DecidableEq, Repr

/-- The four claimants of the claim table: the master slots and the local inputs L (R5). -/
inductive Claimant where
  | a | b | c | l
deriving DecidableEq, Repr

/-- The four local inputs (R187). -/
inductive InputId where
  | ign | brake | hazard | start
deriving DecidableEq, Repr

/-- The three gauge slots G1 to G3 (R138). -/
inductive GaugeId where
  | g1 | g2 | g3
deriving DecidableEq, Repr

/-- The three sender inputs S1 to S3 (R125). -/
inductive Sender where
  | s1 | s2 | s3
deriving DecidableEq, Repr

/-- The fifteen body functions, identities 1 to 15 in this order (R1). -/
inductive Fn where
  | side | headDip | headMain | flashPass | fog | stop | reverse | turnL | turnR | hazard
  | panel | interior | fan | aux1 | aux2
deriving DecidableEq, Repr

/-- A channel, numbered 1 to 16 by the manual: the value is the number less 1. -/
abbrev Channel := Fin 16

/-- The channel's number, 1 to 16. -/
abbrev Channel.number (c : Channel) : Nat := c.val + 1

/-- The twenty sample sources of R125. -/
inductive Source where
  | bus
  | channel (c : Channel)
  | sender (x : Sender)
deriving DecidableEq, Repr

/-- The nine event kinds, in the order of the status digest's bits (R183). -/
inductive EventKind where
  | trip | bulb | shed | crank | gauge | master | flashFast | configDefaulted | reset
deriving DecidableEq, Repr

/-- A set of event kinds, bit by bit as the status digest and the CLEAR of events carry it (R183). -/
abbrev EventSet := BitVec 9

/-- One value for each port. -/
structure PerPort (α : Type) where
  link1 : α
  link2 : α
deriving DecidableEq, Repr

/-- One value for each master slot. -/
structure PerSlot (α : Type) where
  a : α
  b : α
  c : α
deriving DecidableEq, Repr

/-- One value for each claimant. -/
structure PerClaimant (α : Type) where
  a : α
  b : α
  c : α
  l : α
deriving DecidableEq, Repr

/-- One value for each local input. -/
structure PerInput (α : Type) where
  ign : α
  brake : α
  hazard : α
  start : α
deriving DecidableEq, Repr

/-- One value for each gauge slot. -/
structure PerGauge (α : Type) where
  g1 : α
  g2 : α
  g3 : α
deriving DecidableEq, Repr

def PerPort.get {α : Type} (t : PerPort α) : Port → α
  | .link1 => t.link1
  | .link2 => t.link2

def PerPort.set {α : Type} (t : PerPort α) (p : Port) (v : α) : PerPort α :=
  match p with
  | .link1 => { t with link1 := v }
  | .link2 => { t with link2 := v }

def PerSlot.get {α : Type} (t : PerSlot α) : SlotId → α
  | .a => t.a
  | .b => t.b
  | .c => t.c

def PerSlot.set {α : Type} (t : PerSlot α) (i : SlotId) (v : α) : PerSlot α :=
  match i with
  | .a => { t with a := v }
  | .b => { t with b := v }
  | .c => { t with c := v }

def PerClaimant.get {α : Type} (t : PerClaimant α) : Claimant → α
  | .a => t.a
  | .b => t.b
  | .c => t.c
  | .l => t.l

def PerClaimant.set {α : Type} (t : PerClaimant α) (i : Claimant) (v : α) : PerClaimant α :=
  match i with
  | .a => { t with a := v }
  | .b => { t with b := v }
  | .c => { t with c := v }
  | .l => { t with l := v }

def PerInput.get {α : Type} (t : PerInput α) : InputId → α
  | .ign => t.ign
  | .brake => t.brake
  | .hazard => t.hazard
  | .start => t.start

def PerInput.set {α : Type} (t : PerInput α) (i : InputId) (v : α) : PerInput α :=
  match i with
  | .ign => { t with ign := v }
  | .brake => { t with brake := v }
  | .hazard => { t with hazard := v }
  | .start => { t with start := v }

def PerGauge.get {α : Type} (t : PerGauge α) : GaugeId → α
  | .g1 => t.g1
  | .g2 => t.g2
  | .g3 => t.g3

def PerGauge.set {α : Type} (t : PerGauge α) (i : GaugeId) (v : α) : PerGauge α :=
  match i with
  | .g1 => { t with g1 := v }
  | .g2 => { t with g2 := v }
  | .g3 => { t with g3 := v }

/-- The claimant a master slot is (R5). -/
def SlotId.claimant : SlotId → Claimant
  | .a => .a
  | .b => .b
  | .c => .c

/-- The place of a function in the fifteen (its identity less 1). -/
def Fn.idx : Fn → Fin 15
  | .side => 0 | .headDip => 1 | .headMain => 2 | .flashPass => 3 | .fog => 4 | .stop => 5
  | .reverse => 6 | .turnL => 7 | .turnR => 8 | .hazard => 9 | .panel => 10 | .interior => 11
  | .fan => 12 | .aux1 => 13 | .aux2 => 14

/-- The fifteen functions in the order of their identities. -/
def Fn.all : List Fn :=
  [.side, .headDip, .headMain, .flashPass, .fog, .stop, .reverse, .turnL, .turnR, .hazard,
   .panel, .interior, .fan, .aux1, .aux2]

/-- The function of an identity, where it exists: identity 0 and identities above 15 do not (R1). -/
def Fn.ofNat? (n : Nat) : Option Fn :=
  if n = 0 then none else Fn.all[n - 1]?

/-- The channel of a number, where it exists (1 to 16). -/
def Channel.ofNat? (n : Nat) : Option Channel :=
  if h : 1 ≤ n ∧ n ≤ 16 then some ⟨n - 1, by omega⟩ else none

/-- The sixteen channels in increasing number. -/
def allChannels : List Channel := [0, 1, 2, 3, 4, 5, 6, 7, 8, 9, 10, 11, 12, 13, 14, 15]

def allSlots : List SlotId := [.a, .b, .c]
def allPorts : List Port := [.link1, .link2]
def allGauges : List GaugeId := [.g1, .g2, .g3]
def allInputs : List InputId := [.ign, .brake, .hazard, .start]

/-- The master slots other than one (R19, R20). -/
def SlotId.others : SlotId → List SlotId
  | .a => [.b, .c]
  | .b => [.a, .c]
  | .c => [.a, .b]

/-- The sender's place, 0 to 2: S1 triggers at step 200, S2 at 201, S3 at 202 (R130). -/
def Sender.idx : Sender → Nat
  | .s1 => 0
  | .s2 => 1
  | .s3 => 2

/-- The fixed source numbers of R125: bus 0, channels 1 to 16, senders 17 to 19. -/
def Source.number : Source → Fin 20
  | .bus => 0
  | .channel c => ⟨c.val + 1, by omega⟩
  | .sender .s1 => 17
  | .sender .s2 => 18
  | .sender .s3 => 19

/-- The bit of an event kind in an event set (R183). -/
def EventKind.bit : EventKind → EventSet
  | .trip => 1#9
  | .bulb => 2#9
  | .shed => 4#9
  | .crank => 8#9
  | .gauge => 16#9
  | .master => 32#9
  | .flashFast => 64#9
  | .configDefaulted => 128#9
  | .reset => 256#9

/-- A number brought into a range: it becomes the nearest end (00_scope.md, "Clamping and refusal"). -/
def clampTo (lo hi n : Nat) : Nat := min hi (max lo n)

end Sys2Proof
end

