-- ==== Sys2Proof/Syntax.lean ====
section
/-! DEFINITION. The commands of the part: one constructor for each row of spec/opcode_table.json, with the row's
operands. -/

namespace Sys2Proof

/-- What ends the assembly of a frame as a framing fault (R169, R170): an octet whose stop bit is not found, or a
body length octet above 56. -/
inductive FramingFault where
  | noStopBit
  | bodyLength (n : Byte)
deriving DecidableEq, Repr

/-- A drive step that begins (R48): its number, and the current on the fan channel's sense line in that step, in mA,
which the averaging stage follows (R129; log 28). -/
structure StepStart where
  n : Fin 250
  sense : Nat
deriving DecidableEq, Repr

/-- The two cases in which a port abandons its reply (R180): the line becomes active before the reply's sync octet
has begun, or an octet read back differs from the one driven. -/
inductive AbandonCause where
  | lineActive
  | readBack (driven got : Byte)
deriving DecidableEq, Repr

/-- The events that wake the part (R192): the start of an octet on a link line, or a change of an input's raw
level. -/
inductive WakeCause where
  | octetStart (p : Port)
  | rawChange (i : InputId)
deriving DecidableEq, Repr

/-- The commands. An item command (CLAIM to RESET in the table) names only its port: the item is the next one of the
frame in execution there, with the content the frame brought (log 8). -/
inductive Instr where
  | powerOn
  | brownOutRestart
  | startingComplete
  /-- `lines`: the electrical level of each local input at this start, `true` for high. -/
  | drivePeriodStart (lines : PerInput Bool)
  | inrushExpiry (c : Channel)
  | runCountReached (c : Channel)
  /-- `current`: the current on the channel's sense line at the present drive step, in mA. -/
  | overcurrentTrip (c : Channel) (current : Nat)
  | coolOffExpiry (c : Channel)
  | bulbOutSet (c : Channel)
  | bulbOutClear (c : Channel)
  | flashStart
  | offPhaseEntry
  | onPhaseEntry
  | tickEnd
  /-- `quantity`: what the converter measures, before R125's limit of the range. -/
  | conversionDone (src : Source) (quantity : Nat)
  | requestAbandon (src : Source)
  | crankEntry
  | crankExit
  | shedRise
  | shedFall
  | stallReport
  | faultHoldEntry (g : GaugeId)
  | faultHoldExpiry (g : GaugeId)
  | gaugeRecovery (g : GaugeId)
  | inputSeed (i : InputId)
  | filteredLevelChange (i : InputId)
  | silenceExpiry (m : SlotId)
  | holdExpiry (m : SlotId) (f : Fn)
  /-- `octets`: the frame's octets after its sync, from the destination address to the second check octet. -/
  | frameReceived (p : Port) (octets : List Byte)
  /-- `idle`: the octet times of idle line since the last octet of the frame. -/
  | frameAbandonIdle (p : Port) (idle : Nat)
  | framingFault (p : Port) (fault : FramingFault)
  | frameExecute (p : Port)
  | frameError (p : Port)
  | claim (p : Port)
  | claimAll (p : Port)
  | readChannel (p : Port)
  | readTrip (p : Port)
  | readFunction (p : Port)
  | readSlots (p : Port)
  | readGauge (p : Port)
  | readSupply (p : Port)
  | readFlasher (p : Port)
  | readFan (p : Port)
  | readInputs (p : Port)
  | readResetCause (p : Port)
  | readConfigurationRecord (p : Port)
  | configUnit (p : Port)
  | configInputs (p : Port)
  | configSlot (p : Port)
  | configFunction (p : Port)
  | configChannel (p : Port)
  | configMap (p : Port)
  | configGauge (p : Port)
  | configFlasher (p : Port)
  | configSupply (p : Port)
  | configFan (p : Port)
  | storeWriteDone
  | clearChannels (p : Port)
  | clearEvents (p : Port)
  | reset (p : Port)
  /-- `delay`: the time in us from the last octet of the request to the reply's sync octet. -/
  | replyStart (p : Port) (delay : Nat)
  | replySent (p : Port)
  | replyAbandon (p : Port) (cause : AbandonCause)
  | dormantEntry
  | wake (cause : WakeCause)
  /-- `octet`: an octet on the line; `idle`: the octet times of idle line counted before it since the port's idle
  count was last set. -/
  | sync (p : Port) (octet : Byte) (idle : Nat)
  | driveStep (x : StepStart)
  | toneHalfPeriod
deriving DecidableEq, Repr

end Sys2Proof
end

