-- ==== Sys2Proof/WellFormed.lean ====
section
/-! DEFINITION. Which commands are well formed. Every operand type is already the range the manual gives, but for the
octets of a received frame: they must have the shape of R170 and R183. -/

namespace Sys2Proof

/-- The greatest body length of a frame (R170). -/
abbrev maxBody : Nat := 56

/-- The octets from the destination address on form a frame (R170, R183): four header octets whose last is the body
length, at most 56, that many body octets, and two check octets. -/
def frameShape (octets : List Byte) : Bool :=
  match octets with
  | _dst :: _src :: _kind :: len :: rest => decide (len.toNat ≤ maxBody) && decide (rest.length = len.toNat + 2)
  | _ => false

/-- A well-formed command. -/
def Instr.wellFormed : Instr → Bool
  | .frameReceived _ octets => frameShape octets
  | .powerOn | .brownOutRestart | .startingComplete | .drivePeriodStart _ | .inrushExpiry _ | .runCountReached _
  | .overcurrentTrip _ _ | .coolOffExpiry _ | .bulbOutSet _ | .bulbOutClear _ | .flashStart | .offPhaseEntry
  | .onPhaseEntry | .tickEnd | .conversionDone _ _ | .requestAbandon _ | .crankEntry | .crankExit | .shedRise
  | .shedFall | .stallReport | .faultHoldEntry _ | .faultHoldExpiry _ | .gaugeRecovery _ | .inputSeed _
  | .filteredLevelChange _ | .silenceExpiry _ | .holdExpiry _ _ | .frameAbandonIdle _ _ | .framingFault _ _
  | .frameExecute _ | .frameError _ | .claim _ | .claimAll _ | .readChannel _ | .readTrip _ | .readFunction _
  | .readSlots _ | .readGauge _ | .readSupply _ | .readFlasher _ | .readFan _ | .readInputs _ | .readResetCause _
  | .readConfigurationRecord _ | .configUnit _ | .configInputs _ | .configSlot _ | .configFunction _
  | .configChannel _ | .configMap _ | .configGauge _ | .configFlasher _ | .configSupply _ | .configFan _
  | .storeWriteDone | .clearChannels _ | .clearEvents _ | .reset _ | .replyStart _ _ | .replySent _
  | .replyAbandon _ _ | .dormantEntry | .wake _ | .sync _ _ _ | .driveStep _ | .toneHalfPeriod => true

end Sys2Proof
end

