-- ==== Sys2Proof/Machine/Records.lean ====
section
/-! DEFINITION. The configuration records as the working copy and the store hold them, with their defaults; the same
records as a CONFIG item writes them; the items, statuses and read records of a frame. -/

namespace Sys2Proof.Machine
open Sys2Proof

/-! ### Enumerations of the records -/

inductive Gate where | any | ign
deriving DecidableEq, Repr
inductive OrphanPolicy where | keep | drop | hold
deriving DecidableEq, Repr
inductive ShedRank where | r1 | r2 | r3 | never
deriving DecidableEq, Repr
inductive Combine where | any | highest | priority
deriving DecidableEq, Repr
inductive ChKind where | none | lamp | gauge | motor
deriving DecidableEq, Repr
inductive Protect where | latch | retry
deriving DecidableEq, Repr
inductive GaugeMode where | stabilised | table
deriving DecidableEq, Repr
inductive VClass where | c6 | c12
deriving DecidableEq, Repr
inductive BitRate where | b9600 | b19200 | b38400
deriving DecidableEq, Repr
inductive Polarity where | activeLow | activeHigh
deriving DecidableEq, Repr

/-- What a map entry gives its channel (R26). -/
inductive Contribution where
  | full
  | dim (level : Nat)
  | level
  | flash
deriving DecidableEq, Repr

/-- The bit rate in bit/s (R169). -/
def BitRate.bps : BitRate → Nat
  | .b9600 => 9600
  | .b19200 => 19200
  | .b38400 => 38400

/-- Whether a shed level suppresses a rank: NEVER is above every level (R15). -/
def ShedRank.suppressedAt (r : ShedRank) (shed : Nat) : Bool :=
  match r with
  | .r1 => decide (1 ≤ shed)
  | .r2 => decide (2 ≤ shed)
  | .r3 => decide (3 ≤ shed)
  | .never => false

/-! ### Records of the working copy and the store -/

/-- The UNIT record (R107, R182, R184). -/
structure UnitRec where
  address : Nat
  group1 : Nat
  group2 : Nat
  rates : PerPort BitRate
  cls : VClass
  dormantDelay : Nat
deriving DecidableEq, Repr

/-- One input's part of the INPUTS record (R187). -/
structure InputRec where
  polarity : Polarity
  debounce : Nat
deriving DecidableEq, Repr

/-- The rights of a slot (R18). -/
structure Rights where
  claim : Bool
  clear : Bool
  config : Bool
  reset : Bool
deriving DecidableEq, Repr

/-- A SLOT record (R18). -/
structure SlotRec where
  port : Port
  source : Nat
  rights : Rights
  timeout : Nat
  mask : EventSet
deriving DecidableEq, Repr

/-- A FUNCTION record (R2). -/
structure FunctionRec where
  gate : Gate
  policy : OrphanPolicy
  hold : Nat
  rank : ShedRank
  combine : Combine
  order : List Claimant
deriving DecidableEq, Repr

/-- A CHANNEL record (R43). -/
structure ChannelRec where
  kind : ChKind
  phase : Nat
  rated : Nat
  inrushFactor : Nat
  window : Nat
  runLimit : Nat
  inrushLimit : Nat
  openThreshold : Nat
  blanking : Nat
  protect : Protect
  retryLimit : Nat
  coolOff : Nat
  signalLamp : Bool
deriving DecidableEq, Repr

/-- A map entry that is not empty (R25). -/
structure MapEntry where
  fn : Fn
  chan : Channel
  contrib : Contribution
deriving DecidableEq, Repr

/-- A GAUGE record (R138). -/
structure GaugeRec where
  enabled : Bool
  bound : Option Channel
  mode : GaugeMode
  target : Nat
  sender : Sender
  table : List (Nat × Nat)
  ringLength : Nat
  divisor : Nat
  validLow : Nat
  validHigh : Nat
  faultHold : Nat
  tag : VClass
deriving DecidableEq, Repr

/-- The FLASHER record (R103). -/
structure FlasherRec where
  period : Nat
  tone : Nat
  tick : Nat
  enable : Bool
deriving DecidableEq, Repr

/-- The SUPPLY record (R107). -/
structure SupplyRec where
  shed1 : Nat
  shed2 : Nat
  shed3 : Nat
  hysteresis : Nat
  dwell : Nat
  crankThreshold : Nat
  crankMargin : Nat
  allowance : Nat
  tag : VClass
deriving DecidableEq, Repr

/-- The FAN record (R156). -/
structure FanRec where
  duty1 : Nat
  duty2 : Nat
  duty3 : Nat
  kickDuty : Nat
  kickTime : Nat
  rampRate : Nat
  stallThreshold : Nat
  stallSamples : Nat
  cap0 : Nat
  cap1 : Nat
  cap2 : Nat
  cap3 : Nat
deriving DecidableEq, Repr

/-- The working copy: the configuration every block uses (R184, R185). -/
structure Working where
  unit : UnitRec
  inputs : PerInput InputRec
  slots : PerSlot SlotRec
  functions : Vector FunctionRec 15
  channels : Vector ChannelRec 16
  map : Vector (Option MapEntry) 32
  gauges : PerGauge GaugeRec
  flasher : FlasherRec
  supply : SupplyRec
  fan : FanRec
deriving DecidableEq, Repr

/-- The stored records (R184). `none` is a record whose stored contents fail their check: one never written since the
store was new, or one whose store write was cut short (R186). -/
structure Store where
  unit : Option UnitRec
  inputs : Option (PerInput InputRec)
  slots : PerSlot (Option SlotRec)
  functions : Vector (Option FunctionRec) 15
  channels : Vector (Option ChannelRec) 16
  map : Vector (Option (Option MapEntry)) 32
  gauges : PerGauge (Option GaugeRec)
  flasher : Option FlasherRec
  supply : Option SupplyRec
  fan : Option FanRec
deriving DecidableEq, Repr

/-- One configuration record with its index: what a store write persists (R185) and what a READ of a configuration
record returns (R176). -/
inductive ConfigRecord where
  | unit (r : UnitRec)
  | inputs (r : PerInput InputRec)
  | slot (m : SlotId) (r : SlotRec)
  | function (f : Fn) (r : FunctionRec)
  | channel (c : Channel) (r : ChannelRec)
  | map (i : Fin 32) (e : Option MapEntry)
  | gauge (g : GaugeId) (r : GaugeRec)
  | flasher (r : FlasherRec)
  | supply (r : SupplyRec)
  | fan (r : FanRec)
deriving DecidableEq, Repr

/-! ### Defaults -/

def UnitRec.default : UnitRec :=
  { address := 32, group1 := 0, group2 := 0, rates := ⟨.b19200, .b19200⟩, cls := .c12, dormantDelay := 6000 }

def InputRec.default : InputRec := { polarity := .activeLow, debounce := 4 }

def inputsDefault : PerInput InputRec :=
  ⟨InputRec.default, InputRec.default, InputRec.default, InputRec.default⟩

/-- All nine event kinds: the default mask (R181). -/
def EventSet.all : EventSet := 511#9

/-- The SLOT defaults (00_scope.md, R18). -/
def SlotRec.default : SlotId → SlotRec
  | .a => { port := .link1, source := 16, rights := ⟨true, true, false, false⟩, timeout := 100, mask := EventSet.all }
  | .b => { port := .link2, source := 17, rights := ⟨true, true, false, false⟩, timeout := 100, mask := EventSet.all }
  | .c => { port := .link2, source := 18, rights := ⟨true, true, true, true⟩, timeout := 100, mask := EventSet.all }

/-- The FUNCTION defaults: gate, orphan policy, shed rank and combine rule by function; hold time 2,000 and rank
order A, B, C, L for all (chapter 1, section 1.1). -/
def FunctionRec.default (f : Fn) : FunctionRec :=
  let mk (g : Gate) (p : OrphanPolicy) (r : ShedRank) (cb : Combine) : FunctionRec :=
    { gate := g, policy := p, hold := 2000, rank := r, combine := cb, order := [.a, .b, .c, .l] }
  match f with
  | .side => mk .any .keep .never .any
  | .headDip => mk .any .keep .never .any
  | .headMain => mk .any .keep .never .any
  | .flashPass => mk .any .drop .never .any
  | .fog => mk .ign .hold .r2 .any
  | .stop => mk .ign .drop .never .any
  | .reverse => mk .ign .drop .r3 .any
  | .turnL => mk .ign .drop .never .any
  | .turnR => mk .ign .drop .never .any
  | .hazard => mk .any .keep .never .any
  | .panel => mk .any .keep .r3 .priority
  | .interior => mk .any .hold .r2 .any
  | .fan => mk .ign .hold .r2 .priority
  | .aux1 => mk .ign .drop .r1 .any
  | .aux2 => mk .ign .drop .r1 .any

/-- The CHANNEL defaults (R43); the default phase is (channel − 1) × 15. -/
def ChannelRec.default (c : Channel) : ChannelRec :=
  { kind := .none, phase := c.val * 15, rated := 1000, inrushFactor := 8, window := 30, runLimit := 2000,
    inrushLimit := 16000, openThreshold := 0, blanking := 10, protect := .retry, retryLimit := 3, coolOff := 200,
    signalLamp := false }

/-- The default stabilised target of a class (R138, R140). -/
def VClass.target : VClass → Nat
  | .c12 => 10000
  | .c6 => 5000

/-- The GAUGE defaults (R138). -/
def GaugeRec.default (cls : VClass) (g : GaugeId) : GaugeRec :=
  { enabled := false, bound := none, mode := .stabilised, target := cls.target,
    sender := match g with
      | .g1 => .s1
      | .g2 => .s2
      | .g3 => .s3,
    table := [(100, 10000), (4000, 3000)],
    ringLength := match g with
      | .g1 => 32
      | .g2 => 8
      | .g3 => 8,
    divisor := 4, validLow := 50, validHigh := 4000, faultHold := 400, tag := cls }

def FlasherRec.default : FlasherRec := { period := 134, tone := 1200, tick := 6, enable := true }

/-- The SUPPLY defaults of each class (R107). -/
def SupplyRec.default : VClass → SupplyRec
  | .c12 => { shed1 := 12000, shed2 := 11500, shed3 := 11000, hysteresis := 300, dwell := 400, crankThreshold := 9000,
              crankMargin := 500, allowance := 30000, tag := .c12 }
  | .c6 => { shed1 := 6000, shed2 := 5750, shed3 := 5500, hysteresis := 150, dwell := 400, crankThreshold := 4500,
             crankMargin := 250, allowance := 30000, tag := .c6 }

def FanRec.default : FanRec :=
  { duty1 := 90, duty2 := 160, duty3 := 250, kickDuty := 250, kickTime := 60, rampRate := 2, stallThreshold := 12000,
    stallSamples := 20, cap0 := 3, cap1 := 1, cap2 := 0, cap3 := 0 }

def functionsDefault : Vector FunctionRec 15 :=
  ⟨(Fn.all.map FunctionRec.default).toArray, rfl⟩

def channelsDefault : Vector ChannelRec 16 :=
  ⟨(allChannels.map ChannelRec.default).toArray, rfl⟩

/-- The working copy of a part whose every record is at its default (class 12). -/
def Working.default : Working :=
  { unit := UnitRec.default, inputs := inputsDefault,
    slots := ⟨SlotRec.default .a, SlotRec.default .b, SlotRec.default .c⟩,
    functions := functionsDefault, channels := channelsDefault, map := Vector.replicate 32 none,
    gauges := ⟨GaugeRec.default .c12 .g1, GaugeRec.default .c12 .g2, GaugeRec.default .c12 .g3⟩,
    flasher := FlasherRec.default, supply := SupplyRec.default .c12, fan := FanRec.default }

/-- A store in which no record has ever been written: every record fails its check (R186). -/
def Store.new : Store :=
  { unit := none, inputs := none, slots := ⟨none, none, none⟩, functions := Vector.replicate 15 none,
    channels := Vector.replicate 16 none, map := Vector.replicate 32 none, gauges := ⟨none, none, none⟩,
    flasher := none, supply := none, fan := none }

/-! ### Records as a CONFIG item writes them

Numbers are as written, before any clamping; an enumerated field holds `none` where the octets give no listed value. -/

structure WUnit where
  address : Nat
  group1 : Nat
  group2 : Nat
  rate1 : Option BitRate
  rate2 : Option BitRate
  cls : Option VClass
  dormantDelay : Nat
deriving DecidableEq, Repr

structure WInput where
  polarity : Option Polarity
  debounce : Nat
deriving DecidableEq, Repr

structure WSlot where
  slot : Option SlotId
  port : Option Port
  source : Nat
  rights : Rights
  timeout : Nat
  mask : EventSet
deriving DecidableEq, Repr

structure WFunction where
  fn : Nat
  gate : Option Gate
  policy : Option OrphanPolicy
  hold : Nat
  rank : Option ShedRank
  combine : Option Combine
  order : List (Option Claimant)
deriving DecidableEq, Repr

structure WChannel where
  channel : Nat
  kind : Option ChKind
  phase : Nat
  rated : Nat
  inrushFactor : Nat
  window : Nat
  runLimit : Nat
  inrushLimit : Nat
  openThreshold : Nat
  blanking : Nat
  protect : Option Protect
  retryLimit : Nat
  coolOff : Nat
  signalLamp : Bool
deriving DecidableEq, Repr

/-- The kinds of contribution a MAP record names (R26, R29). -/
inductive ContribKind where | full | dim | level | flash
deriving DecidableEq, Repr

structure WEntry where
  fn : Nat
  channel : Nat
  contrib : Option ContribKind
  level : Nat
deriving DecidableEq, Repr

structure WMap where
  idx : Nat
  entry : Option WEntry
deriving DecidableEq, Repr

structure WGauge where
  gauge : Option GaugeId
  enabled : Option Bool
  bound : Option Nat
  mode : Option GaugeMode
  target : Nat
  sender : Option Sender
  table : List (Nat × Nat)
  ringLength : Nat
  divisor : Nat
  validLow : Nat
  validHigh : Nat
  faultHold : Nat
deriving DecidableEq, Repr

structure WFlasher where
  period : Nat
  tone : Nat
  tick : Nat
  enable : Option Bool
deriving DecidableEq, Repr

structure WSupply where
  shed1 : Nat
  shed2 : Nat
  shed3 : Nat
  hysteresis : Nat
  dwell : Nat
  crankThreshold : Nat
  crankMargin : Nat
  allowance : Nat
deriving DecidableEq, Repr

/-- The FAN record has no enumerated field, so it is written as it is held. -/
abbrev WFan := FanRec

/-- The kinds of configuration record (R184). -/
inductive ConfigKind where
  | unit | inputs | slot | function | channel | map | gauge | flasher | supply | fan
deriving DecidableEq, Repr

/-- What the content of a CONFIG item says: a record kind that does not exist, a record of the wrong length for its
kind (R174), or a record. -/
inductive ConfigContent where
  | unknown
  | wrongLength (k : ConfigKind)
  | unit (w : WUnit)
  | inputs (w : PerInput WInput)
  | slot (w : WSlot)
  | function (w : WFunction)
  | channel (w : WChannel)
  | map (w : WMap)
  | gauge (w : WGauge)
  | flasher (w : WFlasher)
  | supply (w : WSupply)
  | fan (w : WFan)
deriving DecidableEq, Repr, Inhabited

/-- The record kind of a CONFIG item's content, where it is known. -/
def ConfigContent.kind : ConfigContent → Option ConfigKind
  | .unknown => none
  | .wrongLength k => some k
  | .unit _ => some .unit
  | .inputs _ => some .inputs
  | .slot _ => some .slot
  | .function _ => some .function
  | .channel _ => some .channel
  | .map _ => some .map
  | .gauge _ => some .gauge
  | .flasher _ => some .flasher
  | .supply _ => some .supply
  | .fan _ => some .fan

/-! ### Items, statuses and read records -/

/-- The readable records (R176). A configuration record is of a kind different from the status record of the same
name. -/
inductive ReadKind where
  | channel | trip | function | gauge | supply | flasher | fan | slots | inputs | resetCause
  | config (k : ConfigKind)
deriving DecidableEq, Repr

/-- A request item of a parsed body (R174). `read none` names no known record kind; `clearOther` is a CLEAR whose
content is neither a list of channels nor an event set of two octets. -/
inductive Item where
  | claim (pairs : List (Byte × Byte))
  | claimAll (pairs : List (Byte × Byte))
  | read (kind : Option ReadKind) (idx : Byte)
  | config (content : ConfigContent)
  | clearChannels (list : List Byte)
  | clearEvents (low high : Byte)
  | clearOther (content : List Byte)
  | reset
deriving DecidableEq, Repr

/-- The statuses of a reply item (R183). -/
inductive Status where
  | ok | clamped | notPermitted | badItem | badValue | inUse | busy | ignitionOn | noRoom | frameError
deriving DecidableEq, Repr, Inhabited

def Status.code : Status → Byte
  | .ok => 0 | .clamped => 1 | .notPermitted => 2 | .badItem => 3 | .badValue => 4 | .inUse => 5 | .busy => 6
  | .ignitionOn => 7 | .noRoom => 8 | .frameError => 9

/-- The states of a channel (R52). -/
inductive ChState where | off | waiting | inrush | run | cooling | latched
deriving DecidableEq, Repr

/-- The demand source (R38). -/
inductive DemandSource where | steady | flash
deriving DecidableEq, Repr

/-- The urgency of a place in the admission queue (R57). -/
inductive Urgency where | urgent | normal
deriving DecidableEq, Repr

/-- The cause of a trip (R72). -/
inductive TripCause where | short | overcurrent | stall
deriving DecidableEq, Repr

/-- A trip record (R74). `inInrush` is the state at the trip: INRUSH, or else RUN. -/
structure TripRec where
  cause : TripCause
  inInrush : Bool
  periods : Nat
  step : Nat
  count : Nat
deriving DecidableEq, Repr

/-- The mark of a sample source (R134). -/
inductive Mark where | none | fresh | held
deriving DecidableEq, Repr

inductive SlotState where | unheard | live | silent
deriving DecidableEq, Repr
inductive CrankState where | normal | crank
deriving DecidableEq, Repr
inductive Speed where | configured | fast
deriving DecidableEq, Repr
inductive GaugeState where | off | active | held | faultHold | faultRest
deriving DecidableEq, Repr
inductive FanState where | stopped | starting | kick | ramp | running | suspended | faulted
deriving DecidableEq, Repr
inductive ResetKind where | powerOn | brownOut | commanded
deriving DecidableEq, Repr

/-- The last value of a sample source and the mark of its most recent request (R134). -/
structure SourceValue where
  value : Option Nat
  mark : Mark
deriving DecidableEq, Repr

/-- A claim (R5). -/
structure Claim where
  value : Nat
  orphaned : Bool
  hold : Option Nat
deriving DecidableEq, Repr

/-- The CHANNEL read record (R42, R69, R89, R134, R183). -/
structure ChannelReport where
  channel : Channel
  kind : ChKind
  st : ChState
  applied : Nat
  demand : Nat
  source : DemandSource
  stop : Bool
  present : Bool
  following : Bool
  inWindow : Bool
  opening : Bool
  bulbOut : Bool
  hasTrip : Bool
  place : Nat
  urgent : Bool
  inrushTimer : Nat
  coolOff : Nat
  trips : Nat
  low : Nat
  high : Nat
  current : SourceValue
deriving DecidableEq, Repr

/-- One entry of the SLOTS record (R24). -/
structure SlotReport where
  st : SlotState
  timer : Option Nat
  claims : Nat
  orphaned : Nat
  held : Nat
deriving DecidableEq, Repr

/-- The GAUGE status record (R154). -/
structure GaugeReport where
  st : GaugeState
  mode : GaugeMode
  bound : Option Channel
  readings : Nat
  average : Option Nat
  vt : Option Nat
  duty : Nat
  underdrive : Bool
  faultRun : Nat
  recoveryRun : Nat
  timer : Option Nat
  sender : SourceValue
deriving DecidableEq, Repr

/-- The SUPPLY status record (R124). `counter` is the crank entry counter in NORMAL, the exit counter in CRANK. -/
structure SupplyReport where
  cls : VClass
  raw : SourceValue
  vf : Option Nat
  crank : CrankState
  counter : Nat
  shed : Nat
  rise : Option Nat
  fall : Option Nat
  allowance : Nat
  windowSum : Nat
deriving DecidableEq, Repr

/-- The flash state as reports and the digest name it (R106, R183). -/
inductive FlashState where | idle | onPhase | offPhase
deriving DecidableEq, Repr

/-- One cycle's counter and lengths: present in ON_PHASE and OFF_PHASE (R90). -/
structure Cycle where
  counter : Nat
  period : Nat
  onLength : Nat
  offLength : Nat
deriving DecidableEq, Repr

/-- The FLASHER status record (R106). -/
structure FlasherReport where
  st : FlashState
  startPending : Bool
  cycle : Option Cycle
  speed : Speed
  demand : Bool
  left : Bool
  right : Bool
  ticking : Bool
deriving DecidableEq, Repr

/-- The FAN status record (R168). -/
structure FanReport where
  st : FanState
  channel : Option Channel
  requested : Nat
  capped : Nat
  target : Nat
  capDuty : Nat
  ramp : Nat
  stallRun : Nat
deriving DecidableEq, Repr

/-- One input of the INPUTS status record (R187). `filtered` is `none` while unseeded. -/
structure InputReport where
  raw : Bool
  filtered : Option Bool
  run : Nat
deriving DecidableEq, Repr

/-- The record a READ returns (R176). -/
inductive ReadRecord where
  | channel (r : ChannelReport)
  | trip (r : Option TripRec)
  | function (result : Nat) (cells : PerClaimant (Option Claim))
  | slots (r : PerSlot SlotReport)
  | gauge (r : GaugeReport)
  | supply (r : SupplyReport)
  | flasher (r : FlasherReport)
  | fan (r : FanReport)
  | inputs (r : PerInput InputReport)
  | resetCause (last : ResetKind) (brownOuts : Nat)
  | config (r : ConfigRecord)
deriving DecidableEq, Repr

/-- One item's answer: its status, and the record of an OK read (R179). -/
structure Answer where
  status : Status
  record : Option ReadRecord
deriving DecidableEq, Repr

end Sys2Proof.Machine
end

