-- ==== Sys2Proof/Config.lean ====
section
/-! DEFINITION. What the manual leaves to the implementation: constants with no body, so that nothing can evaluate
them or rest on a value of them. -/

namespace Sys2Proof
open Sys2Proof.Machine

/-- Which record kind the first octet of a READ content names. R183 gives the codes of items and statuses and none of
record kinds: free value, log 9 (DESIGN CHOICE, safe). -/
opaque Config.readKind : Byte → Option ReadKind

/-- What record the content of a CONFIG item writes. The manual gives no layout of a configuration record: free value,
log 9 (DESIGN CHOICE, safe). -/
opaque Config.configContent : List Byte → ConfigContent

/-- The octets of a read record other than CHANNEL, whose layout alone R183 gives: free value, log 10 (DESIGN CHOICE,
safe). -/
opaque Config.recordOctets : ReadRecord → List Byte

/-- The master slot an index octet names in a READ of a SLOT configuration record: R184 names the indices A, B and C
and no octets for them: free value, log 11 (DESIGN CHOICE, safe). -/
opaque Config.slotOfIndex : Byte → Option SlotId

/-- The status of a CLEAR item whose content is neither a list of channels nor an event set of two octets: free value,
log 12 (DESIGN CHOICE, safe). -/
opaque Config.malformedClear : List Byte → Status

/-- Whether the averaging stage reads a mean that is no whole number of mA as the whole number above it. R129 states no
rounding: free value, log 42 (DESIGN CHOICE, safe). The argument is the sum of the 250 currents. -/
opaque Config.averageRoundsUp : Nat → Bool

end Sys2Proof
end

