-- ==== Sys2Proof/Machine/State.lean ====
section
/-! DEFINITION. The state of the part as plain data, its reset state, and the reasons a command can be refused.
INVENTORY.md lists every field with the rule that names it. -/

namespace Sys2Proof.Machine
open Sys2Proof

/-- The part has no fault that stops it: a trip, a brown-out, a refused item, a discarded frame and an abandoned reply
are effects on the state (INVENTORY.md, Faults). No meaning answers a fault. -/
inductive Fault where
deriving DecidableEq, Repr

/-- Why a command is refused. -/
inductive Refusal where
  /-- A command whose row has no meaning yet. Raised by exec's arms only. Safe: the machine stops. -/
  | notModelled (mnemonic : String)
  /-- A FRAME_RECEIVED command whose octets are no frame (R170, R183): no line can bring it. Raised by
  execFrameReceived. Safe: the machine stops (log 31). -/
  | noFrame
deriving DecidableEq, Repr

/-! ### Request handler and ports -/

/-- The volatile fields of a slot record, and its pending event set (R18, R181). `silencedNow` is the model's own: the
slot has taken the coming drive period start, for its silence expiry was taken ahead of it (log 3). -/
structure Slot where
  st : SlotState
  timer : Option Nat
  pending : EventSet
  silencedNow : Bool
deriving DecidableEq, Repr

/-- The receive assembly (R170). In DORMANT it only watches its line for activity (R191). -/
inductive Assembly where | hunt | assembling | watching
deriving DecidableEq, Repr

/-- An accepted frame in a request queue (R172): whether it is answered, the slot it is accepted for, its source
address, kind octet and body. -/
structure Frame where
  answered : Bool
  slot : SlotId
  source : Byte
  kind : Byte
  body : List Byte
deriving DecidableEq, Repr

/-- The execution of the frame at the head of a queue: items still to execute, answers given, the unit address before
a UNIT record of this frame (R182), whether new bit rates or a COMMANDED reset follow the reply (R182, R178), and
whether the reply has been abandoned before it was built (R180, log 21). -/
structure Run where
  items : List Item
  answers : List Answer
  oldAddress : Option Nat
  rateAfter : Bool
  resetAfter : Bool
  lost : Bool
deriving DecidableEq, Repr

/-- A reply (R179): destination and source address, the digest, the answers, whether the digest showed an overrun, and
what follows. -/
structure Reply where
  dest : Byte
  source : Byte
  digest : List Byte
  answers : List Answer
  showedOverrun : Bool
  rateAfter : Bool
  resetAfter : Bool
deriving DecidableEq, Repr

/-- The reply sender: quiet, a reply built whose sync octet has not begun, or a reply being sent (R179, R180). -/
inductive ReplySender where
  | quiet
  | built (r : Reply)
  | sending (r : Reply)
deriving DecidableEq, Repr

/-- A link port (R169 to R180). `rate` is the bit rate in force, which follows the UNIT record (R182). -/
structure PortState where
  assembly : Assembly
  idle : Nat
  queue : List Frame
  run : Option Run
  reply : ReplySender
  overrun : Bool
  rate : BitRate
deriving DecidableEq, Repr

/-! ### Local inputs -/

/-- A local input (R187): `filtered` is `none` while unseeded. `sampledNow` is the model's own: the sample of the
coming drive period start was taken ahead of it, by a change of level (log 3). -/
structure Input where
  raw : Bool
  filtered : Option Bool
  run : Nat
  sampledNow : Bool
deriving DecidableEq, Repr

/-! ### Output stage, composer and protection -/

/-- The volatile fields of a channel record (R46) with the protection unit's (R74, R82, R83). `prevDuty` is the on-time
of the period before, whose wrapped part may still run (R48, R49), and `prevEdge` says whether that period had an
on-edge, whose blanking may pass step 249 (R50). -/
structure Chan where
  st : ChState
  demand : Nat
  source : DemandSource
  stop : Bool
  present : Bool
  onEdge : Bool
  applied : Nat
  prevDuty : Nat
  prevEdge : Bool
  inrushTimer : Option Nat
  opening : Bool
  coolOff : Option Nat
  trips : Nat
  bulbOut : Bool
  low : Nat
  high : Nat
  tripRec : Option TripRec
  admCount : Option Nat
  runCount : Option Nat
deriving DecidableEq, Repr

def Chan.reset : Chan :=
  { st := .off, demand := 0, source := .steady, stop := false, present := false, onEdge := false, applied := 0,
    prevDuty := 0, prevEdge := false, inrushTimer := none, opening := false, coolOff := none, trips := 0,
    bulbOut := false, low := 0, high := 0, tripRec := none, admCount := none, runCount := none }

/-! ### Flash generator -/

/-- The flash state with what is present in it (R90). In IDLE, `pending` is the start pending mark and `startCame` the
model's own mark that a drive period start has come since it was set (log 3). -/
inductive FlashPhase where
  | idle (pending startCame : Bool)
  | onPhase (c : Cycle)
  | offPhase (c : Cycle)
deriving DecidableEq, Repr

/-- A clicker tick: half a tone period, the tick length and the time since the tick began, in us (R100). -/
structure Tick where
  half : Nat
  length : Nat
  elapsed : Nat
deriving DecidableEq, Repr

/-- The flash generator (R90). `uncounted`: the generator has taken the coming drive period start, for a phase was
entered ahead of it: that start neither counts the phase nor begins a new cycle (R92, R95; model, log 3). `ended`: a
start has come at which the counter would reach its phase's length, and the
entry to the next phase has not been taken yet (R92; model, log 2). `tone` is the tone output. -/
structure Flash where
  phase : FlashPhase
  speed : Speed
  uncounted : Bool
  ended : Bool
  tick : Option Tick
  tone : Bool
deriving DecidableEq, Repr

/-! ### Supply supervisor -/

/-- The supply supervisor (R111). Its last raw sample is the bus source of the sequencer. `inHand` is the model's own: within
the handling of a bus sample, the sample that makes the return to NORMAL and is then filtered (R116; log 26); `none`
between commands. -/
structure Supervisor where
  vf : Option Nat
  crank : CrankState
  crankIn : Nat
  crankOut : Nat
  shed : Nat
  rise : Option Nat
  fall : Option Nat
  inHand : Option Nat
deriving DecidableEq, Repr

def Supervisor.reset : Supervisor :=
  { vf := none, crank := .normal, crankIn := 0, crankOut := 0, shed := 0, rise := some 0, fall := none,
    inHand := none }

/-! ### Measurement sequencer -/

/-- A sample request (R125): source, trigger step, and for a sender the gauge slots it serves. -/
structure Request where
  src : Source
  trigger : Nat
  slots : List GaugeId
deriving DecidableEq, Repr

/-- The sequencer (R125). `served` is the step of the last conversion of this period: the converter is busy for that
one step. `sense` is the averaging stage of the fan channel: the currents of its sense line in the most recent drive
steps, the latest first, at most 250 (R129). -/
structure Sequencer where
  requests : List Request
  served : Option Nat
  sense : List Nat
  periodCount : Nat
  values : Vector SourceValue 20
deriving DecidableEq, Repr

def Sequencer.reset : Sequencer :=
  { requests := [], served := none, sense := [], periodCount := 0, values := Vector.replicate 20 ⟨none, .none⟩ }

/-! ### Gauge and fan units -/

/-- A gauge slot's volatile state (R141). -/
structure GaugeSlot where
  st : GaugeState
  ring : List Nat
  average : Option Nat
  vt : Option Nat
  duty : Nat
  under : Bool
  faultRun : Nat
  recoveryRun : Nat
  timer : Option Nat
deriving DecidableEq, Repr

def GaugeSlot.reset : GaugeSlot :=
  { st := .off, ring := [], average := none, vt := none, duty := 0, under := false, faultRun := 0, recoveryRun := 0,
    timer := none }

/-- The fan unit's volatile state (R158). `report`: a stall of the channel has been reported to the protection unit,
which has not taken the report yet (R166, R75). -/
structure Fan where
  st : FanState
  requested : Nat
  capped : Nat
  target : Nat
  ramp : Nat
  stallRun : Nat
  report : Option Channel
deriving DecidableEq, Repr

def Fan.reset : Fan :=
  { st := .stopped, requested := 0, capped := 0, target := 0, ramp := 0, stallRun := 0, report := none }

/-! ### Power controller and clock -/

/-- The part state (R189, R190), and `held`: held in reset after a brown-out (R188). -/
inductive Part where | held | starting | active | dormant
deriving DecidableEq, Repr

/-- The power controller. `starts` counts the drive period starts of STARTING (R189). `resetDue`: a RESET item has been
answered OK and its reset has not followed yet (R178). `wakeStart` is the model's own: the first drive period start
after a wake has not come yet (R23, R105; log 20). -/
structure Power where
  part : Part
  quiet : Nat
  starts : Nat
  resetDue : Bool
  wakeStart : Bool
  lastReset : ResetKind
  brownOuts : Nat
deriving DecidableEq, Repr

/-- Where the drive period stands (R47): a start is awaited (after a reset or a wake), a start has been taken and no
drive step has begun, or a drive step has begun. -/
inductive Clock where
  | awaiting
  | started
  | step (n : Nat)
deriving DecidableEq, Repr

/-- The gate outputs at the present drive step (R48), and how many fine ticks of the step, of 125, the fan channel's
gate is asserted for (R51). -/
structure Gates where
  out : Vector Bool 16
  fanTicks : Nat
deriving DecidableEq, Repr

/-- The whole state of the part, and the queue of commands waiting, first in, first out. -/
structure State where
  pending : List Instr
  power : Power
  clock : Clock
  cfg : Working
  store : Store
  storeWrite : Option ConfigRecord
  ports : PerPort PortState
  slots : PerSlot Slot
  inputs : PerInput Input
  claims : Vector (PerClaimant (Option Claim)) 15
  results : Vector Nat 15
  chans : Vector Chan 16
  queue : List (Channel × Urgency)
  window : List (Channel × Nat)
  gates : Gates
  flash : Flash
  sup : Supervisor
  seq : Sequencer
  gauges : PerGauge GaugeSlot
  fan : Fan
deriving DecidableEq, Repr

def PortState.reset (rate : BitRate) : PortState :=
  { assembly := .hunt, idle := 0, queue := [], run := none, reply := .quiet, overrun := false, rate := rate }

def Slot.reset (pending : EventSet) : Slot :=
  { st := .unheard, timer := none, pending := pending, silencedNow := false }

def Input.reset : Input := { raw := false, filtered := none, run := 0, sampledNow := false }

/-- Every block at the reset values stated with its state (R188), over a working copy, a store and a power state; `ev`
is what is raised as STARTING begins, which enters the pending sets whose masks hold it (R181). -/
def State.fresh (pending : List Instr) (cfg : Working) (store : Store) (power : Power) (ev : EventSet) : State :=
  { pending := pending, power := power, clock := .awaiting, cfg := cfg, store := store, storeWrite := none,
    ports := ⟨PortState.reset cfg.unit.rates.link1, PortState.reset cfg.unit.rates.link2⟩,
    slots := ⟨Slot.reset (ev &&& cfg.slots.a.mask), Slot.reset (ev &&& cfg.slots.b.mask),
              Slot.reset (ev &&& cfg.slots.c.mask)⟩,
    inputs := ⟨Input.reset, Input.reset, Input.reset, Input.reset⟩,
    claims := Vector.replicate 15 ⟨none, none, none, none⟩, results := Vector.replicate 15 0,
    chans := Vector.replicate 16 Chan.reset, queue := [], window := [],
    gates := ⟨Vector.replicate 16 false, 0⟩,
    flash := { phase := .idle false false, speed := .configured, uncounted := false, ended := false, tick := none, tone := false },
    sup := Supervisor.reset, seq := Sequencer.reset,
    gauges := ⟨GaugeSlot.reset, GaugeSlot.reset, GaugeSlot.reset⟩, fan := Fan.reset }

/-- The power state as STARTING begins (R189). -/
def Power.starting (kind : ResetKind) (brownOuts : Nat) : Power :=
  { part := .starting, quiet := 0, starts := 0, resetDue := false, wakeStart := false, lastReset := kind,
    brownOuts := brownOuts }

/-- The state right after a POWER_ON reset of a part with a new store (log 5): STARTING has begun, every record is at
its default, RESET and CONFIG_DEFAULTED are raised (R186, R188, R189), and no command waits. -/
def State.reset : State :=
  State.fresh [] Working.default Store.new (Power.starting .powerOn 0)
    (EventKind.reset.bit ||| EventKind.configDefaulted.bit)

end Sys2Proof.Machine
end

