-- ==== Sys2Proof/Machine/Ops.lean ====
section
/-! DEFINITION. Named operations over the state: access to each table, raising events, writing a demand, abandoning a
sample request, and the facts of the map and the clock that several blocks read. -/

namespace Sys2Proof.Machine
open Sys2Proof

/-! ### Access -/

def State.chan (s : State) (c : Channel) : Chan := s.chans[c]

def State.setChan (s : State) (c : Channel) (v : Chan) : State := { s with chans := s.chans.set c v }

def State.modChan (s : State) (c : Channel) (f : Chan → Chan) : State := s.setChan c (f (s.chan c))

/-- The working CHANNEL record of a channel. -/
def State.chRec (s : State) (c : Channel) : ChannelRec := s.cfg.channels[c]

/-- The working FUNCTION record of a function. -/
def State.fnRec (s : State) (f : Fn) : FunctionRec := s.cfg.functions[f.idx]

def State.result (s : State) (f : Fn) : Nat := s.results[f.idx]

def State.setResult (s : State) (f : Fn) (v : Nat) : State := { s with results := s.results.set f.idx v }

/-- The result of a function is on: a value rather than off, which the model holds as 0 (R1). -/
def State.resultOn (s : State) (f : Fn) : Bool := s.result f != 0

/-- A cell of the claim table (R5). -/
def State.cell (s : State) (f : Fn) (k : Claimant) : Option Claim := (s.claims[f.idx]).get k

def State.setCell (s : State) (f : Fn) (k : Claimant) (v : Option Claim) : State :=
  { s with claims := s.claims.set f.idx ((s.claims[f.idx]).set k v) }

def State.port (s : State) (p : Port) : PortState := s.ports.get p

def State.setPort (s : State) (p : Port) (v : PortState) : State := { s with ports := s.ports.set p v }

def State.slot (s : State) (m : SlotId) : Slot := s.slots.get m

def State.setSlot (s : State) (m : SlotId) (v : Slot) : State := { s with slots := s.slots.set m v }

def State.slotRec (s : State) (m : SlotId) : SlotRec := s.cfg.slots.get m

def State.input (s : State) (i : InputId) : Input := s.inputs.get i

def State.setInput (s : State) (i : InputId) (v : Input) : State := { s with inputs := s.inputs.set i v }

def State.gauge (s : State) (g : GaugeId) : GaugeSlot := s.gauges.get g

def State.setGauge (s : State) (g : GaugeId) (v : GaugeSlot) : State := { s with gauges := s.gauges.set g v }

def State.gaugeRec (s : State) (g : GaugeId) : GaugeRec := s.cfg.gauges.get g

def State.setFan (s : State) (v : Fan) : State := { s with fan := v }

def State.setSup (s : State) (v : Supervisor) : State := { s with sup := v }

def State.setFlash (s : State) (v : Flash) : State := { s with flash := v }

def State.setSeq (s : State) (v : Sequencer) : State := { s with seq := v }

def State.setPower (s : State) (v : Power) : State := { s with power := v }

def State.setClock (s : State) (v : Clock) : State := { s with clock := v }

def State.setQueue (s : State) (v : List (Channel × Urgency)) : State := { s with queue := v }

def State.setWindow (s : State) (v : List (Channel × Nat)) : State := { s with window := v }

def State.setGates (s : State) (v : Gates) : State := { s with gates := v }

def State.setCfg (s : State) (v : Working) : State := { s with cfg := v }

def State.setStore (s : State) (v : Store) : State := { s with store := v }

/-- A store write of a record begins, or none is in flight (R185). -/
def State.setStoreWrite (s : State) (v : Option ConfigRecord) : State := { s with storeWrite := v }

/-- The last value and mark of a sample source (R134). -/
def State.value (s : State) (x : Source) : SourceValue := s.seq.values[x.number]

/-! ### Facts read by several blocks -/

/-- The part runs: it is in STARTING or ACTIVE, so that the drive period, the converter and the ports run (R189,
R191). -/
def State.running (s : State) : Bool := s.power.part == .starting || s.power.part == .active

/-- A filtered level, read as inactive while unseeded (R187). -/
def State.filtered (s : State) (i : InputId) : Bool := (s.input i).filtered == some true

def State.cranking (s : State) : Bool := s.sup.crank == .crank

/-- The number of the present drive step; a period whose steps have not begun stands at its first
(the step of a stall trip taken there: log 51). -/
def State.stepNow (s : State) : Nat :=
  match s.clock with
  | .awaiting => 0
  | .started => 0
  | .step n => n

/-- The entries of the map that are not empty, in the order of their indices (R25). -/
def State.entries (s : State) : List MapEntry := s.cfg.map.toList.filterMap id

/-- The entries that target a channel. -/
def State.entriesOn (s : State) (c : Channel) : List MapEntry := s.entries.filter (fun e => e.chan == c)

/-- The fan channel: the channel of the entry that holds FAN, if there is one (R27, R43). -/
def State.fanChannel (s : State) : Option Channel := (s.entries.find? (fun e => e.fn == .fan)).map MapEntry.chan

def State.isFan (s : State) (c : Channel) : Bool := s.fanChannel == some c

/-- The left flash side is active (R32). -/
def State.leftSide (s : State) : Bool := s.resultOn .turnL || s.resultOn .hazard

/-- The right flash side is active (R32). -/
def State.rightSide (s : State) : Bool := s.resultOn .turnR || s.resultOn .hazard

/-- The demand for flashing holds (R91). -/
def State.flashDemand (s : State) : Bool := s.resultOn .turnL || s.resultOn .turnR || s.resultOn .hazard

/-- An entry is active (R33): a TURN_L or TURN_R FLASH entry follows its side, every other its function's result. -/
def State.entryActive (s : State) (e : MapEntry) : Bool :=
  match e.contrib, e.fn with
  | .flash, .turnL => s.leftSide
  | .flash, .turnR => s.rightSide
  | _, f => s.resultOn f

/-- A channel follows the generator: it has an active FLASH entry (R34). -/
def State.follows (s : State) (c : Channel) : Bool :=
  (s.entriesOn c).any (fun e => e.contrib == .flash && s.entryActive e)

def State.onPhase (s : State) : Bool :=
  match s.flash.phase with
  | .onPhase _ => true
  | .offPhase _ => false
  | .idle _ _ => false

/-- The generator is active: its start pending mark is set or it is in ON_PHASE or OFF_PHASE (R90). -/
def State.flashActive (s : State) : Bool :=
  match s.flash.phase with
  | .idle p _ => p
  | .onPhase _ => true
  | .offPhase _ => true

/-- Do `f` where a step is due. -/
def State.whenDue (s : State) (due : Bool) (f : State → State) : State := if due then f s else s

/-! ### Events -/

/-- An event kind enters one slot's pending set if the slot's mask holds it (R181). -/
def State.raiseTo (s : State) (k : EventKind) (m : SlotId) : State :=
  s.setSlot m { s.slot m with pending := (s.slot m).pending ||| (k.bit &&& (s.slotRec m).mask) }

/-- A block raises an event: it enters the pending set of every slot whose mask holds it (R181). -/
def State.raise (s : State) (k : EventKind) : State := allSlots.foldl (fun t m => t.raiseTo k m) s

/-- MASTER is raised to the slots other than the one whose state changed (R19, R20, R181). -/
def State.raiseOthers (s : State) (m : SlotId) : State := m.others.foldl (fun t n => t.raiseTo .master n) s

/-! ### Demands, gates and sample requests -/

/-- A pending demand is written (R38, R40). A write of 250 with source FLASH where the demand was 0 sets the flash
on-edge mark; one that leaves it at 250 FLASH keeps the mark; any other write clears it (R39). -/
def State.writeDemand (s : State) (c : Channel) (d : Nat) (src : DemandSource) : State :=
  s.modChan c fun ch =>
    { ch with
      demand := d, source := src,
      onEdge := if d = 250 ∧ src = .flash then ch.demand == 0 || ch.onEdge else false }

/-- A channel's gate is negated at once (R49). -/
def State.negateGate (s : State) (c : Channel) : State :=
  s.setGates { out := s.gates.out.set c false, fanTicks := if s.isFan c then 0 else s.gates.fanTicks }

/-- A request on the list, if there is one for the source. -/
def State.request? (s : State) (x : Source) : Option Request := s.seq.requests.find? (fun r => r.src == x)

/-- A source's request is abandoned: it leaves the list, the value stays and its mark becomes HELD (R132). Nothing
happens where the source has no request. -/
def State.abandon (s : State) (x : Source) : State :=
  if (s.request? x).isSome then
    s.setSeq { s.seq with
      requests := s.seq.requests.filter (fun r => r.src != x),
      values := s.seq.values.set x.number { s.value x with mark := .held } }
  else s

/-- Every request on the list is abandoned (R136). -/
def State.abandonAll (s : State) : State := s.seq.requests.foldl (fun t r => t.abandon r.src) s

end Sys2Proof.Machine
end

