-- ==== Sys2Proof/Machine/FanOps.lean ====
section
/-! DEFINITION. The fan unit (chapter 9): target duty, states and what it writes as the fan channel's demand, and its
action on each change of the fan channel's state. -/

namespace Sys2Proof.Machine
open Sys2Proof

/-- The step duty of a step: 0 for step 0 (R156). -/
def FanRec.stepDuty (r : FanRec) : Nat → Nat
  | 0 => 0
  | 1 => r.duty1
  | 2 => r.duty2
  | _ => r.duty3

/-- The shed cap of a shed level (R156). -/
def FanRec.cap (r : FanRec) : Nat → Nat
  | 0 => r.cap0
  | 1 => r.cap1
  | 2 => r.cap2
  | _ => r.cap3

/-- The cap duty: the step duty of the shed cap for the current shed level (R156). -/
def State.capDuty (s : State) : Nat := s.cfg.fan.stepDuty (s.cfg.fan.cap s.sup.shed)

/-- A duty moved toward a target by at most the ramp rate (R163). -/
def moveToward (d target rate : Nat) : Nat := if d < target then min target (d + rate) else max target (d - rate)

/-- The fan unit writes the fan channel's pending demand, with source STEADY (R160). -/
def State.fanWrite (s : State) (d : Nat) : State :=
  match s.fanChannel with
  | some c => s.writeDemand c d .steady
  | none => s

/-- What a FAULTED fan writes: the kick duty while T is above 0 and the crank state is NORMAL, else 0 (R167). -/
def State.faultedDemand (s : State) : Nat :=
  if s.fan.target ≠ 0 ∧ s.cranking = false then s.cfg.fan.kickDuty else 0

/-- The fan enters STOPPED: ramp duty and stall run 0, demand 0 (R161). -/
def State.fanStop (s : State) : State := (s.setFan { s.fan with st := .stopped, ramp := 0, stallRun := 0 }).fanWrite 0

/-- The fan enters SUSPENDED: ramp duty and stall run 0, demand 0 (R165). -/
def State.fanSuspend (s : State) : State :=
  (s.setFan { s.fan with st := .suspended, ramp := 0, stallRun := 0 }).fanWrite 0

/-- The fan enters STARTING and writes the kick duty (R160, R162). -/
def State.fanStarting (s : State) : State :=
  (s.setFan { s.fan with st := .starting, stallRun := 0 }).fanWrite s.cfg.fan.kickDuty

/-- The fan enters KICK, still writing the kick duty (R162). -/
def State.fanKick (s : State) : State :=
  (s.setFan { s.fan with st := .kick, stallRun := 0 }).fanWrite s.cfg.fan.kickDuty

/-- The fan enters RAMP with a ramp duty, which it writes (R162, R163). -/
def State.fanRamp (s : State) (d : Nat) : State := (s.setFan { s.fan with st := .ramp, ramp := d }).fanWrite d

/-- The fan enters FAULTED: ramp duty and stall run 0, and the demand of R167. -/
def State.fanFault (s : State) : State :=
  let t := s.setFan { s.fan with st := .faulted, ramp := 0, stallRun := 0 }
  t.fanWrite t.faultedDemand

/-- The fan is started: it enters the state that matches the fan channel's state (R160). With no fan channel it stays
STOPPED (R159). A fan stopped and started again before its channel has taken up the demand of its entry to RAMP finds
the channel in RUN with the kick duty applied, which may lie above the cap duty; there the model writes what the table of
R160 says, applied moved toward T, although R163 has no applied duty above the cap duty outside the kick (log 44). -/
def State.fanStart (s : State) : State :=
  match s.fanChannel with
  | none => s
  | some c =>
    match (s.chan c).st with
    | .off | .waiting => s.fanStarting
    | .inrush => s.fanKick
    | .run => s.fanRamp (moveToward (s.chan c).applied s.fan.target s.cfg.fan.rampRate)
    | .cooling | .latched => s.fanFault

/-- The events that start the fan start it in NORMAL and suspend it in CRANK (R160). -/
def State.fanStartOrSuspend (s : State) : State := if s.cranking then s.fanSuspend else s.fanStart

/-- The requested step, the capped step and T are recomputed (R159), and a change of T acts on the fan by its state
(R160, R161, R163, R167). In RAMP the duty written before stands until it is taken up (log 44). -/
def State.fanRetarget (s : State) : State :=
  let requested := min 3 (s.result .fan)
  let capped := min requested (s.cfg.fan.cap s.sup.shed)
  let target := s.cfg.fan.stepDuty capped
  let old := s.fan.target
  let t := s.setFan { s.fan with requested := requested, capped := capped, target := target }
  match s.fanChannel with
  | none => t
  | some _ =>
    match s.fan.st with
    | .stopped => if old = 0 ∧ target ≠ 0 then t.fanStartOrSuspend else t
    | .starting | .kick | .ramp | .suspended => if target = 0 then t.fanStop else t
    | .running =>
      if target = 0 then t.fanStop
      else if target = old then t
      else t.setFan { t.fan with st := .ramp }
    | .faulted => t.fanWrite t.faultedDemand

/-- The fan channel has entered INRUSH: a STARTING fan enters KICK (R162). -/
def State.fanSawInrush (s : State) : State := if s.fan.st = .starting then s.fanKick else s

/-- The fan channel has entered RUN: a fan in KICK, or in STARTING where the kick time is 0, enters RAMP with the
lesser of the kick duty and the cap duty (R162). -/
def State.fanSawRun (s : State) : State :=
  if s.fan.st = .kick ∨ s.fan.st = .starting then s.fanRamp (min s.cfg.fan.kickDuty s.capDuty) else s

/-- The fan channel has left COOLING or LATCHED: a FAULTED fan leaves FAULTED by T and the crank state (R167; the cases
its table does not list, log 34). -/
def State.fanSawRelease (s : State) : State :=
  if s.fan.st = .faulted then
    if s.fan.target = 0 then s.fanStop
    else if s.cranking then s.fanSuspend
    else s.fanStarting
  else s

/-- The crank state has become CRANK (R165). -/
def State.fanCrankEntry (s : State) : State :=
  match s.fan.st with
  | .starting | .kick | .ramp | .running => s.fanSuspend
  | .faulted => s.fanWrite s.faultedDemand
  | .stopped | .suspended => s

/-- The crank state has returned to NORMAL (R165, R167). -/
def State.fanCrankExit (s : State) : State :=
  match s.fan.st with
  | .suspended => if s.fan.target = 0 then s else s.fanStart
  | .faulted => s.fanWrite s.faultedDemand
  | .stopped | .starting | .kick | .ramp | .running => s

/-- Do `f` if the channel is the fan channel: the fan unit follows its channel alone. -/
def State.ifFan (s : State) (c : Channel) (f : State → State) : State := if s.isFan c then f s else s

/-- The ramp step of R163, at a drive period start at which the fan channel has taken up a demand in RUN with the fan in
RAMP: at T the fan enters RUNNING, else it moves the duty taken up toward T and writes it. -/
def State.fanRampStep (s : State) : State :=
  match s.fanChannel with
  | none => s
  | some c =>
    if s.fan.st = .ramp ∧ (s.chan c).st = .run then
      if (s.chan c).applied = s.fan.target then s.setFan { s.fan with st := .running, ramp := s.fan.target }
      else
        let d := moveToward (s.chan c).applied s.fan.target s.cfg.fan.rampRate
        (s.setFan { s.fan with ramp := d }).fanWrite d
    else s

/-- The fan after a counted sample of its channel (R166): above the stall threshold the sample raises the run, at or
below it sets it to 0. The sample that brings the run to the stall samples reports a stall and sets the run to 0; the
report stands until the protection unit takes it (R75). -/
def Fan.countStall (x : Fan) (r : FanRec) (c : Channel) (mA : Nat) : Fan :=
  if mA ≤ r.stallThreshold then { x with stallRun := 0 }
  else if x.stallRun + 1 < r.stallSamples then { x with stallRun := x.stallRun + 1 }
  else { x with stallRun := 0, report := some c }

/-- A fresh sample of the fan channel (R166): counted in RAMP or RUNNING with the channel in RUN. -/
def State.fanSample (s : State) (c : Channel) (mA : Nat) : State :=
  if s.isFan c ∧ (s.fan.st = .ramp ∨ s.fan.st = .running) ∧ (s.chan c).st = .run then
    s.setFan (s.fan.countStall s.cfg.fan c mA)
  else s

end Sys2Proof.Machine
end

