-- ==== Sys2Proof/Machine/Service.lean ====
section
/-! DEFINITION. The service of sample requests (chapter 7): their windows, and which one the present step serves. -/

namespace Sys2Proof.Machine
open Sys2Proof

/-! ### Service windows -/

/-- The last step of a channel's service window; `none` where it is empty (R128). On the fan channel it is step 249
(R129). -/
def State.chanWindowEnd (s : State) (c : Channel) (trigger : Nat) : Option Nat :=
  let ch := s.chan c
  let phase := (s.chRec c).phase
  if s.isFan c then some 249
  else if phase ≤ trigger then
    if trigger < phase + ch.applied then some (min 249 (phase + ch.applied - 1)) else none
  else if trigger + 250 < phase + ch.prevDuty then
    if ch.prevDuty = 250 ∧ 0 < ch.applied then some (min 249 (phase + ch.applied - 1))
    else some (min 249 (phase + ch.prevDuty - 251))
  else none

/-- The last step of a request's service window (R127 to R130). -/
def State.windowEnd (s : State) (r : Request) : Option Nat :=
  match r.src with
  | .bus => some 249
  | .channel c => s.chanWindowEnd c r.trigger
  | .sender _ => some 249

/-- A request may be served at a step: at or after its trigger and within its window (R131). -/
def State.servableAt (s : State) (n : Nat) (r : Request) : Bool :=
  decide (r.trigger ≤ n) && (match s.windowEnd r with
    | some e => decide (n ≤ e)
    | none => false)

/-- The order of service: by trigger step, then by source number (R131). -/
def Request.before (r q : Request) : Bool :=
  decide (r.trigger < q.trigger) || (r.trigger == q.trigger && decide (r.src.number < q.src.number))

/-- A request is served at the present step: the converter is free, the request may be served, and no request that may
be served comes before it (R131). -/
def State.servesNow (s : State) (r : Request) : Bool :=
  match s.clock with
  | .awaiting => false
  | .started => false
  | .step n =>
    s.running && s.seq.served != some n && s.servableAt n r &&
      !(s.seq.requests.any fun q => s.servableAt n q && q.before r)

/-- The conversion of the present step is still to come (R131): its time is over only then. -/
def State.conversionDue (s : State) : Bool := s.seq.requests.any s.servesNow

/-! ### The end of a period -/

/-- The period is at its end, or a start is awaited after a reset or a wake: the events of the coming drive period start
may be taken ahead of it (log 3). In step 249 that is once the conversion of the step is done, for a request is served
within its period and the list is empty at every start (R125, R131). -/
def State.boundary (s : State) : Bool :=
  match s.clock with
  | .awaiting => true
  | .started => false
  | .step n => n == 249 && !s.conversionDue

end Sys2Proof.Machine
end

