-- ==== Sys2Proof/Machine/Output.lean ====
section
/-! DEFINITION. The output stage and the protection unit (chapters 3 and 4): the admission queue and the in-window set,
take-up at a drive period start, gates within the period, trips, cool-off, latches and lamp health. -/

namespace Sys2Proof.Machine
open Sys2Proof

/-! ### Queue and in-window set -/

/-- The expected inrush of a channel: rated current times inrush factor (R43). -/
def State.expected (s : State) (c : Channel) : Nat := (s.chRec c).rated * (s.chRec c).inrushFactor

/-- The in-window sum (R61). -/
def State.windowSum (s : State) : Nat := (s.window.map Prod.snd).sum

def State.inWindow (s : State) (c : Channel) : Bool := s.window.any (fun w => w.1 == c)

/-- The place in the queue, counted from 1 at the head; 0 where the channel has none (R69, R183). -/
def State.placeOf (s : State) (c : Channel) : Nat :=
  match s.queue.findIdx? (fun q => q.1 == c) with
  | some i => i + 1
  | none => 0

def State.isUrgent (s : State) (c : Channel) : Bool := s.queue.any (fun q => q.1 == c && q.2 == .urgent)

/-- A channel's place leaves the queue; the places behind it move forward (R60). -/
def State.dequeue (s : State) (c : Channel) : State := s.setQueue (s.queue.filter (fun q => q.1 != c))

/-- A channel leaves the in-window set (R61). -/
def State.leaveWindow (s : State) (c : Channel) : State := s.setWindow (s.window.filter (fun w => w.1 != c))

/-- A channel joins the in-window set with its expected inrush (R61). -/
def State.joinWindow (s : State) (c : Channel) : State := s.setWindow (s.window ++ [(c, s.expected c)])

/-- An URGENT place just behind the last URGENT place, ahead of every NORMAL place (R58, R59). -/
def placeUrgent (q : List (Channel × Urgency)) (c : Channel) : List (Channel × Urgency) :=
  q.takeWhile (fun x => x.2 == .urgent) ++ (c, .urgent) :: q.dropWhile (fun x => x.2 == .urgent)

/-- The inrush time of a channel: the fan record's kick time on the fan channel, else the channel's inrush window
(R63, R67). -/
def State.inrushTime (s : State) (c : Channel) : Nat :=
  if s.isFan c then s.cfg.fan.kickTime else (s.chRec c).window

/-- The admission test of R62 on a channel at the head. -/
def State.admissible (s : State) (c : Channel) : Bool :=
  s.window.isEmpty || decide (s.windowSum + s.expected c ≤ s.cfg.supply.allowance)

/-- The head is admitted (R63): it leaves the queue and enters INRUSH with its timer set and its expected inrush in the
set; with an inrush time of 0 it enters RUN and does not join the set. Its run count is then 0 from this drive period
start (R82), and from the coming one where it is admitted once drive steps have begun (log 43). -/
def State.admitOne (s : State) (c : Channel) : State :=
  let t := s.dequeue c
  if s.inrushTime c = 0 then
    (t.modChan c fun ch => { ch with
      st := .run, inrushTimer := none, admCount := none,
      runCount := if s.clock = .started then some 0 else none }).ifFan c
      State.fanSawRun
  else
    ((t.modChan c fun ch =>
        { ch with st := .inrush, inrushTimer := some (s.inrushTime c), admCount := none, runCount := none }).joinWindow
      c).ifFan c State.fanSawInrush

/-- Admissions go on until a head fails the test or the queue is empty (R62, R63). The first argument bounds their
number by the places of the queue. -/
def admitLoop : Nat → State → State
  | 0, s => s
  | n + 1, s =>
    match s.queue with
    | [] => s
    | (c, _) :: _ => if s.admissible c then admitLoop n (s.admitOne c) else s

/-- The admission test is applied to the head (R62). -/
def State.admitHeads (s : State) : State := admitLoop s.queue.length s

/-- The admission test is applied if the head is not the one before (R62). -/
def State.admitIfNewHead (s : State) (head : Option (Channel × Urgency)) : State :=
  if s.queue.head? = head then s else s.admitHeads

/-- A channel enters WAITING and joins the queue: URGENT behind the last URGENT place if its stop mark is set, else
NORMAL at the tail (R58). -/
def State.join (s : State) (c : Channel) : State :=
  let q := if (s.chan c).stop then placeUrgent s.queue c else s.queue ++ [(c, .normal)]
  ((s.modChan c fun ch => { ch with st := .waiting }).setQueue q).admitIfNewHead s.queue.head?

/-- A NORMAL place is promoted: just behind the last URGENT place, and URGENT (R59). -/
def State.promote (s : State) (c : Channel) : State :=
  if s.queue.any (fun q => q.1 == c && q.2 == .normal) then
    (s.setQueue (placeUrgent (s.queue.filter (fun q => q.1 != c)) c)).admitIfNewHead s.queue.head?
  else s

/-! ### Stopping, tripping and releasing -/

/-- A channel's record as its drive stops: applied duty 0, no wrapped part, inrush timer, opening period mark, admission
count and run count discarded (R49, R66, R71, R74, R82). -/
def Chan.stopped (ch : Chan) (st : ChState) : Chan :=
  { ch with
    st := st, applied := 0, prevDuty := 0, prevEdge := false, inrushTimer := none, opening := false, admCount := none,
    runCount := none }

/-- A LATCHED channel is released to OFF with trip count 0 (R81). -/
def State.release (s : State) (c : Channel) : State :=
  (s.modChan c fun ch => { ch with st := .off, trips := 0 }).ifFan c State.fanSawRelease

/-- The release condition of R79: no entry presence; on a GAUGE channel, a pending demand of 0. -/
def State.releasable (s : State) (c : Channel) : Bool :=
  match (s.chRec c).kind with
  | .gauge => (s.chan c).demand == 0
  | .none | .lamp | .motor => !(s.chan c).present

/-- A LATCHED channel whose release condition holds is released (R79). -/
def State.releaseIfDue (s : State) (c : Channel) : State :=
  if (s.chan c).st = .latched ∧ s.releasable c = true then s.release c else s

/-- The trip count after a trip of a cause (R72). -/
def tripCount (ch : Chan) (cause : TripCause) : Nat :=
  match cause with
  | .short => ch.trips
  | .overcurrent | .stall => ch.trips + 1

/-- A trip latches: a SHORT in either mode, any trip in LATCH mode, or one whose count reaches the retry limit
(R72). -/
def tripLatches (r : ChannelRec) (ch : Chan) (cause : TripCause) : Bool :=
  cause == .short || r.protect == .latch || decide (r.retryLimit ≤ tripCount ch cause)

/-- The record a trip writes (R74). -/
def State.tripRecord (s : State) (c : Channel) (cause : TripCause) : TripRec :=
  { cause := cause, inInrush := (s.chan c).st == .inrush, periods := (s.chan c).admCount.getD 0, step := s.stepNow,
    count := tripCount (s.chan c) cause }

/-- The channel's record after a trip: drive stopped, COOLING with its timer or LATCHED, the count and the trip record
(R71, R72, R74). The demand and its marks stay. -/
def State.trippedChan (s : State) (c : Channel) (cause : TripCause) : Chan :=
  let ch := s.chan c
  let r := s.chRec c
  { ch.stopped (if tripLatches r ch cause then .latched else .cooling) with
    coolOff := if tripLatches r ch cause then none else some r.coolOff,
    trips := tripCount ch cause,
    tripRec := some (s.tripRecord c cause) }

/-- A channel trips (R71): its drive stops at once, it leaves the in-window set, its record is written, TRIP is raised,
its sample request of the period is abandoned (R132), the fan unit is told (R167), a release condition that already
holds releases it (R79), and if it was in INRUSH the admission test is applied (R66). -/
def State.trip (s : State) (c : Channel) (cause : TripCause) : State :=
  let t := ((((s.setChan c (s.trippedChan c cause)).negateGate c).leaveWindow c).raise .trip).abandon (.channel c)
  let u := (t.ifFan c State.fanFault).releaseIfDue c
  if (s.chan c).st = .inrush then u.admitHeads else u

/-- The cut of R164: the fan channel in RUN goes to OFF at once, its gate negated, its run count discarded, its trip
count kept, and its sample request abandoned. -/
def State.cut (s : State) (c : Channel) : State :=
  (((s.modChan c fun ch => ch.stopped .off).negateGate c).abandon (.channel c))

/-- The fan unit's part in a change of the shed level (R121, R159, R164): T is recomputed, and where the cap duty has
fallen below the fan channel's applied duty in RUN the channel is cut and the fan restarts or stops. A ramp duty
written before and not yet taken up stands (log 44). -/
def State.fanShed (s : State) (oldCapDuty : Nat) : State :=
  let t := s.fanRetarget
  match t.fanChannel with
  | none => t
  | some c =>
    if (t.chan c).st = .run ∧ t.capDuty < oldCapDuty ∧ t.capDuty < (t.chan c).applied then
      let u := t.cut c
      if u.fan.target = 0 then u.fanStop else u.fanStarting
    else t

/-! ### Gates within the period -/

/-- The gate of a channel at a drive step (R48, R49): within the on-time that begins at its phase, or within the
wrapped part of the on-time of the period before. -/
def gateOn (phase : Nat) (ch : Chan) (n : Nat) : Bool :=
  (decide (phase ≤ n) && decide (n < phase + ch.applied)) || decide (n + 250 < phase + ch.prevDuty)

/-- The fan channel's gate at a drive step, as the comparator sees it (R51): at every even step with a duty above 0, and
at an odd step with a duty above 125. -/
def fanGateOn (ch : Chan) (n : Nat) : Bool :=
  if n % 2 = 0 then decide (0 < ch.applied) else decide (125 < ch.applied)

/-- The fine ticks, of the 125 of a drive step, at which the fan gate is asserted (R51): the first d of the 250 ticks of
an interval of two steps. -/
def fanTicksAt (d n : Nat) : Nat := if n % 2 = 0 then min d 125 else d - 125

/-- The gate of a channel at a drive step. -/
def State.gateAt (s : State) (c : Channel) (n : Nat) : Bool :=
  if s.isFan c then fanGateOn (s.chan c) n else gateOn (s.chRec c).phase (s.chan c) n

/-- This period has an on-edge, at the channel's phase: it is driven, and not continuously since before (R50). -/
def hasEdge (ch : Chan) : Bool := decide (0 < ch.applied) && decide (ch.prevDuty ≠ 250)

/-- A drive step lies within an edge-blanking interval (R50, R51): `blanking` steps from the on-edge at the phase of
this period or of the period before; on the fan channel, from the first step of a period after one with the gate
negated throughout. -/
def State.blanked (s : State) (c : Channel) (n : Nat) : Bool :=
  let ch := s.chan c
  let r := s.chRec c
  if s.isFan c then ch.prevDuty == 0 && decide (n < r.blanking)
  else
    (hasEdge ch && decide (r.phase ≤ n) && decide (n < r.phase + r.blanking)) ||
      (ch.prevEdge && decide (n + 250 < r.phase + r.blanking))

/-- The active threshold (R70): the inrush limit in INRUSH, the run limit in RUN, none elsewhere. Where an expiry taken
ahead of its start (log 3) is followed by a trip at the end of step 249, the two have come together and the run limit
judges it (R66). -/
def State.threshold? (s : State) (c : Channel) : Option Nat :=
  match (s.chan c).st with
  | .inrush => some (s.chRec c).inrushLimit
  | .run => some (s.chRec c).runLimit
  | .off | .waiting | .cooling | .latched => none

/-- The comparator takes an overcurrent at the present drive step (R70): the channel is in INRUSH or RUN, its gate is
asserted, the step lies outside edge blanking, and the current exceeds the active threshold. R76 does not say which step
a trip belongs to that comes at the same moment as a drive period start: one taken before the take-up is judged by the
gate and the blanking of step 249 and records step 249, one taken after it is an overcurrent of step 0, and none is
taken between the start and step 0. DESIGN CHOICE, unsafe: log 51. -/
def State.overcurrent (s : State) (c : Channel) (mA : Nat) : Bool :=
  match s.clock, s.threshold? c with
  | .step n, some limit => s.gateAt c n && !s.blanked c n && decide (limit < mA)
  | _, _ => false

/-- OVERCURRENT_TRIP (R70 to R73): an overcurrent trips the channel, as a SHORT while its opening period mark is
set. -/
def execOvercurrentTrip (c : Channel) (current : Nat) (s : State) : Host.Outcome State Fault Refusal :=
  .next (if s.running ∧ s.overcurrent c current then
      s.trip c (if (s.chan c).opening then .short else .overcurrent)
    else s)

/-! ### Take-up at a drive period start -/

/-- The admission count at a start the channel takes up in INRUSH or RUN: 0 in the first driven period, then one more,
staying at 65,535 (R74). -/
def countAdmission : Option Nat → Option Nat
  | none => some 0
  | some n => some (min 65535 (n + 1))

/-- The run count at a start the channel takes up in RUN: 0 at the first, then one more, stopping at 2,000 (R82). -/
def countRun : Option Nat → Option Nat
  | none => some 0
  | some n => some (min 2000 (n + 1))

/-- A nonzero demand becomes the applied duty of the period; the on-time before it may have a wrapped part (R47, R49,
R55). -/
def Chan.driven (ch : Chan) : Chan :=
  { ch with
    applied := ch.demand, prevDuty := ch.applied, prevEdge := hasEdge ch, onEdge := false,
    admCount := countAdmission ch.admCount }

/-- Take-up in INRUSH of a nonzero demand (R55, R65): the opening period's start sets the opening period mark; at each
later start the mark is cleared and the timer falls by 1. -/
def Chan.takeInrush (ch : Chan) : Chan :=
  { ch.driven with
    opening := ch.admCount.isNone,
    inrushTimer := if ch.admCount.isNone then ch.inrushTimer else ch.inrushTimer.map (· - 1) }

/-- Take-up in RUN of a nonzero demand (R55, R82). -/
def Chan.takeRun (ch : Chan) : Chan := { ch.driven with opening := false, runCount := countRun ch.runCount }

/-- A GAUGE channel in OFF enters RUN directly and is driven in this period (R56). -/
def Chan.startRun (ch : Chan) : Chan :=
  { ch with
    st := .run, applied := ch.demand, prevDuty := 0, prevEdge := false, onEdge := false, inrushTimer := none,
    opening := false, admCount := some 0, runCount := some 0 }

/-- The flash on-edge bypass (R64): INRUSH with its timer set and the set joined, driven at 250 in this period, which is
its opening period; with an inrush window of 0, RUN. -/
def State.bypass (s : State) (c : Channel) : State :=
  let w := s.inrushTime c
  let t := (s.dequeue c).modChan c fun ch =>
    { ch with
      st := if w = 0 then .run else .inrush, applied := 250, prevDuty := 0, prevEdge := false, onEdge := false,
      inrushTimer := if w = 0 then none else some w, opening := decide (w ≠ 0), admCount := some 0,
      runCount := if w = 0 then some 0 else none }
  if w = 0 then t else t.joinWindow c

/-- A channel goes to OFF at a take-up (R54, R55): it leaves the queue or the in-window set, and its gate is negated. -/
def State.takeOff (s : State) (c : Channel) : State :=
  (((s.modChan c fun ch => { ch.stopped .off with onEdge := false }).dequeue c).leaveWindow c).negateGate c

/-- One channel takes up its pending demand by its state (R52 to R56, R77, R79). A channel that is to join the queue is
left in OFF here: the joins follow in channel order (R58). -/
def State.takeUp (s : State) (c : Channel) : State :=
  let ch := s.chan c
  match ch.st with
  | .off =>
    if ch.demand = 0 then s
    else
      match (s.chRec c).kind with
      | .none => s
      | .gauge => s.setChan c ch.startRun
      | .lamp | .motor => if ch.source = .flash ∧ ch.onEdge = true then s.bypass c else s
  | .waiting =>
    if ch.demand = 0 then s.takeOff c
    else if ch.source = .flash ∧ ch.onEdge = true then s.bypass c
    else s
  | .inrush => if ch.demand = 0 then s.takeOff c else s.setChan c ch.takeInrush
  | .run => if ch.demand = 0 then s.takeOff c else s.setChan c ch.takeRun
  | .cooling => s.setChan c { ch with onEdge := false, coolOff := ch.coolOff.map (· - 1) }
  | .latched => s.setChan c { ch with onEdge := false }

/-- The channel takes up, in OFF, a demand with which it enters WAITING (R53): nonzero and STEADY, on a LAMP or MOTOR
channel. -/
def State.joins (s : State) (c : Channel) : Bool :=
  let ch := s.chan c
  ch.st == .off && ch.demand != 0 && ch.source == .steady &&
    ((s.chRec c).kind == .lamp || (s.chRec c).kind == .motor)

/-- The take-up of every channel at a drive period start (R47): each channel on its own record, the fan's ramp step on
what its channel took up (R163), the admission test where the head changed or a channel left the in-window set, which
makes its sum fall (R61, R62), and then the joins in increasing channel number (R58). The order within the start:
log 25. -/
def State.takeUpAll (s : State) : State :=
  let joiners := allChannels.filter s.joins
  let t := (allChannels.foldl State.takeUp s).fanRampStep
  let u := if t.queue.head? = s.queue.head? ∧ (s.window.all fun w => t.inWindow w.1) = true then t else t.admitHeads
  joiners.foldl State.join u

/-! ### Timers that reach their end -/

/-- The inrush timer has reached 0 at the last start (R65). -/
def State.inrushDue (s : State) (c : Channel) : Bool :=
  s.running && (s.chan c).st == .inrush && (s.chan c).inrushTimer == some 0

/-- The inrush timer reaches 0 at the coming start, and the expiry may be taken ahead of it; not on the fan channel,
which takes the kick duty up at that start first (R162; log 3, 27). -/
def State.inrushEarly (s : State) (c : Channel) : Bool :=
  s.running && s.boundary && (s.chan c).st == .inrush && (s.chan c).inrushTimer == some 1 &&
    (s.chan c).admCount.isSome && !s.isFan c

/-- A channel's inrush timer expires (R65): it enters RUN and leaves the in-window set, the fan unit is told (R162), and
the admission test is applied. The run count is 0 at the start at which it enters RUN (R82). -/
def State.inrushExpire (s : State) (c : Channel) : State :=
  ((((s.modChan c fun ch =>
        { ch with
          st := .run, inrushTimer := none, opening := false,
          runCount := if ch.inrushTimer = some 0 then some 0 else none }).leaveWindow c).ifFan c
      State.fanSawRun).admitHeads)

/-- INRUSH_EXPIRY (R65). -/
def execInrushExpiry (c : Channel) (s : State) : Host.Outcome State Fault Refusal :=
  .next (if s.inrushDue c || s.inrushEarly c then s.inrushExpire c else s)

/-- The run count stands at 2,000 and the trip count is not yet 0 (R82). -/
def State.runCountDue (s : State) (c : Channel) : Bool :=
  s.running && (s.chan c).st == .run && (s.chan c).runCount == some 2000 && (s.chan c).trips != 0

/-- RUN_COUNT_REACHED (R82): the trip count becomes 0. -/
def State.runCountReach (s : State) (c : Channel) : State := s.modChan c fun ch => { ch with trips := 0 }

def execRunCountReached (c : Channel) (s : State) : Host.Outcome State Fault Refusal :=
  .next (if s.runCountDue c then s.runCountReach c else s)

/-- The cool-off timer has reached 0 (R78). -/
def State.coolOffDue (s : State) (c : Channel) : Bool :=
  s.running && (s.chan c).st == .cooling && (s.chan c).coolOff == some 0

/-- The cool-off timer reaches 0 at the coming start; the expiry may come before the channel's own take-up (R78). -/
def State.coolOffEarly (s : State) (c : Channel) : Bool :=
  s.running && s.boundary && (s.chan c).st == .cooling && (s.chan c).coolOff == some 1

/-- A cool-off expires (R78): a LAMP or MOTOR channel with a nonzero STEADY demand joins the queue, any other goes to
OFF; the fan unit is told (R167). -/
def State.coolOffExpire (s : State) (c : Channel) : State :=
  let ch := s.chan c
  let t := s.modChan c fun ch => { ch with st := .off, coolOff := none }
  let rejoins := ch.demand != 0 && ch.source == .steady && ((s.chRec c).kind == .lamp || (s.chRec c).kind == .motor)
  if rejoins then (t.ifFan c State.fanSawRelease).join c else t.ifFan c State.fanSawRelease

/-- COOL_OFF_EXPIRY (R78). -/
def execCoolOffExpiry (c : Channel) (s : State) : Host.Outcome State Fault Refusal :=
  .next (if s.coolOffDue c || s.coolOffEarly c then s.coolOffExpire c else s)

/-! ### Lamp health -/

/-- A counted sample acts on a channel's two counters (R83). -/
def Chan.sampled (ch : Chan) (openThreshold mA : Nat) : Chan :=
  if mA < openThreshold then { ch with low := min 3 (ch.low + 1), high := 0 }
  else { ch with low := 0, high := min 3 (ch.high + 1) }

/-- Open-load detection takes a fresh sample: counted in RUN where the open threshold is not 0 (R83). -/
def State.openLoad (s : State) (c : Channel) (mA : Nat) : State :=
  if (s.chan c).st = .run ∧ (s.chRec c).openThreshold ≠ 0 then
    s.modChan c fun ch => ch.sampled (s.chRec c).openThreshold mA
  else s

/-- The low counter stands at 3 with the flag clear (R84). -/
def State.bulbSetDue (s : State) (c : Channel) : Bool :=
  s.running && (s.chan c).low == 3 && !(s.chan c).bulbOut

/-- BULB_OUT is set and BULB raised (R84). -/
def State.bulbSet (s : State) (c : Channel) : State := (s.modChan c fun ch => { ch with bulbOut := true }).raise .bulb

/-- BULB_OUT_SET (R84). -/
def execBulbOutSet (c : Channel) (s : State) : Host.Outcome State Fault Refusal :=
  .next (if s.bulbSetDue c then s.bulbSet c else s)

/-- The high counter stands at 3 with the flag set (R84). -/
def State.bulbClearDue (s : State) (c : Channel) : Bool :=
  s.running && (s.chan c).high == 3 && (s.chan c).bulbOut

/-- BULB_OUT is cleared and BULB raised (R84). -/
def State.bulbClear (s : State) (c : Channel) : State :=
  (s.modChan c fun ch => { ch with bulbOut := false }).raise .bulb

/-- BULB_OUT_CLEAR (R84). -/
def execBulbOutClear (c : Channel) (s : State) : Host.Outcome State Fault Refusal :=
  .next (if s.bulbClearDue c then s.bulbClear c else s)

/-- A stall has been reported and the report has not been taken (R166, R75). -/
def State.stallDue (s : State) : Bool := s.running && s.fan.report.isSome

/-- The protection unit takes the report of a stall (R75): it accepts the report of the fan channel only while that is
in RUN, and then trips it with cause STALL; any other report is discarded. What the fan has done since it reported does
not matter to it. A run count that the start before the report has brought to 2,000 acts first (R82; log 2). -/
def State.stallReport (s : State) : State :=
  let t := s.setFan { s.fan with report := none }
  match s.fan.report with
  | none => t
  | some c =>
    if s.isFan c ∧ (s.chan c).st = .run then
      (t.whenDue (s.runCountDue c) fun u => u.runCountReach c).trip c .stall
    else t

/-- STALL_REPORT (R166, R75). -/
def execStallReport (s : State) : Host.Outcome State Fault Refusal :=
  .next (if s.stallDue then s.stallReport else s)

end Sys2Proof.Machine
end

