-- ==== Sys2Proof/Machine/Composer.lean ====
section
/-! DEFINITION. The channel composer (chapter 2): each channel's pending demand, source, stop mark and entry presence
from the active entries of the map and the flash phase. -/

namespace Sys2Proof.Machine
open Sys2Proof

/-- The steady duty an active entry gives (R26). -/
def State.steadyDuty (s : State) (e : MapEntry) : Nat :=
  match e.contrib with
  | .full => 250
  | .dim l => l
  | .level => s.result e.fn
  | .flash => 0

/-- The largest duty of the active entries of a channel with no active FLASH entry; 0 with none (R35). -/
def State.steadyDemand (s : State) (c : Channel) : Nat :=
  ((s.entriesOn c).filter s.entryActive).foldl (fun m e => max m (s.steadyDuty e)) 0

/-- The composed demand and source of a channel: flash precedence first, else steady (R34, R35). -/
def State.composed (s : State) (c : Channel) : Nat × DemandSource :=
  if s.follows c then (if s.onPhase then 250 else 0, .flash) else (s.steadyDemand c, .steady)

/-- A channel carries an active STOP entry (R38). -/
def State.stopActive (s : State) (c : Channel) : Bool := (s.entriesOn c).any (fun e => e.fn == .stop && s.entryActive e)

/-- A channel carries an active entry of any contribution (R38). -/
def State.anyActive (s : State) (c : Channel) : Bool := (s.entriesOn c).any s.entryActive

/-- The stop mark and the entry presence are written and handed to the output stage, which acts at once: a stop mark
set on a NORMAL waiting channel promotes it (R59), and a release condition that comes to hold releases a latch (R79). -/
def State.writeMarks (s : State) (c : Channel) (stop present : Bool) : State :=
  let was := (s.chan c).stop
  let t := s.modChan c fun ch => { ch with stop := stop, present := present }
  (if stop && !was then t.promote c else t).releaseIfDue c

/-- An enabled gauge slot is bound to the channel (R36). -/
def State.gaugeBound (s : State) (c : Channel) : Bool :=
  allGauges.any (fun g => (s.gaugeRec g).enabled && (s.gaugeRec g).bound == some c)

/-- One channel's recomputation (R34 to R38): the fan channel's demand is the fan unit's, a GAUGE channel's its gauge
slot's (0 with no enabled slot bound), a NONE channel's 0; any other is composed from its entries. -/
def State.recompute (s : State) (c : Channel) : State :=
  if s.isFan c then s.writeMarks c false (s.anyActive c)
  else
    match (s.chRec c).kind with
    | .none => (s.writeDemand c 0 .steady).writeMarks c false false
    | .gauge => (if s.gaugeBound c then s else s.writeDemand c 0 .steady).writeMarks c false false
    | .lamp | .motor =>
      (s.writeDemand c (s.composed c).1 (s.composed c).2).writeMarks c (s.stopActive c) (s.anyActive c)

/-- The channels that hold to a condition are recomputed, in increasing number (log 15). -/
def State.recomputeWhere (s : State) (p : Channel → Bool) : State := (allChannels.filter p).foldl State.recompute s

/-- A channel carries an entry of a function (R37). -/
def State.carries (s : State) (c : Channel) (f : Fn) : Bool := (s.entriesOn c).any (fun e => e.fn == f)

/-- A channel carries a TURN_L or TURN_R FLASH entry (R37). -/
def State.carriesTurnFlash (s : State) (c : Channel) : Bool :=
  (s.entriesOn c).any (fun e => e.contrib == .flash && (e.fn == .turnL || e.fn == .turnR))

/-- The composer takes a change of a function's result (R37): every channel that carries an entry of it, and where a
side changed with it every channel that carries a TURN_L or TURN_R FLASH entry. -/
def State.composeFor (s : State) (f : Fn) (sideChanged : Bool) : State :=
  s.recomputeWhere fun c => s.carries c f || (sideChanged && s.carriesTurnFlash c)

end Sys2Proof.Machine
end

