-- ==== Sys2Proof/Machine/FlashOps.lean ====
section
/-! DEFINITION. The flash generator and the clicker (chapter 5). -/

namespace Sys2Proof.Machine
open Sys2Proof

/-- Half a tone period in us: 500,000 divided by the frequency, rounded to nearest, ties away from zero (R100). -/
def toneHalf (hz : Nat) : Nat := (2 * 500000 + hz) / (2 * hz)

/-- The fast period: the larger of half the configured period rounded down and 40 (R96). -/
def fastPeriod (p : Nat) : Nat := max (p / 2) 40

/-- A cycle of an effective period: ON length half of it rounded up, OFF length the rest, counter 0 (R96). -/
def Cycle.ofPeriod (p : Nat) : Cycle := { counter := 0, period := p, onLength := (p + 1) / 2, offLength := p - (p + 1) / 2 }

/-- A following channel has its signal lamp flag and BULB_OUT set (R97). -/
def State.failedSignal (s : State) : Bool :=
  allChannels.any fun c => s.follows c && (s.chRec c).signalLamp && (s.chan c).bulbOut

/-- The speed of a new cycle (R97). -/
def State.chosenSpeed (s : State) : Speed := if s.failedSignal then .fast else .configured

/-- The effective period of a speed (R96, R97). -/
def State.periodOf (s : State) (v : Speed) : Nat :=
  match v with
  | .fast => fastPeriod s.cfg.flasher.period
  | .configured => s.cfg.flasher.period

/-- A tick starts at a change of phase if the clicker is enabled and the crank state is NORMAL (R100, R101); one in
progress ends there (R102). -/
def State.startTick (s : State) : State :=
  if s.cfg.flasher.enable ∧ s.cranking = false then
    s.setFlash { s.flash with
      tick := some { half := toneHalf s.cfg.flasher.tone, length := s.cfg.flasher.tick * 1000, elapsed := 0 },
      tone := true }
  else s

/-- The composer takes a change of the flash state: the channels that follow the generator (R37, R92). -/
def State.composeFollowers (s : State) : State := s.recomputeWhere s.follows

/-- An entry to ON_PHASE (R91, R92, R97, R98): speed and lengths chosen, FLASH_FAST raised if the speed changed, a tick
started, the change handed to the composer. `early`: taken ahead of the start it belongs to (log 3). -/
def State.enterOn (s : State) (early : Bool) : State :=
  let v := s.chosenSpeed
  let t := s.setFlash { s.flash with
    phase := .onPhase (Cycle.ofPeriod (s.periodOf v)), speed := v, uncounted := early, ended := false }
  (if v = s.flash.speed then t else t.raise .flashFast).startTick.composeFollowers

/-- An entry to OFF_PHASE (R92). -/
def State.enterOff (s : State) (cy : Cycle) (early : Bool) : State :=
  (s.setFlash { s.flash with
    phase := .offPhase { cy with counter := 0 }, uncounted := early, ended := false }).startTick.composeFollowers

/-- The generator tests whether the demand for flashing has begun or ended (R91, R95): begun while idle, the start
pending mark is set; ended, the generator is idle at once, its speed kept, and the composer is told. A start that the
generator has taken already, with a change of phase ahead of it, stays taken: a demand that begins again waits for the
next one (R95). -/
def State.flashTest (s : State) : State :=
  if s.flashDemand then
    match s.flash.phase with
    | .idle false _ => s.setFlash { s.flash with phase := .idle true false }
    | .idle true _ | .onPhase _ | .offPhase _ => s
  else
    match s.flash.phase with
    | .idle false _ => s
    | .idle true _ | .onPhase _ | .offPhase _ =>
      (s.setFlash { s.flash with phase := .idle false false, ended := false }).composeFollowers

/-- The tick in progress ends and the tone output is negated: CRANK mutes at once (R101), and the tick length passes
(R100). -/
def State.endTick (s : State) : State := s.setFlash { s.flash with tick := none, tone := false }

/-- FLASH_START is due: a drive period start has come since the start pending mark was set (R91). -/
def State.flashStartDue (s : State) : Bool :=
  s.running && (match s.flash.phase with
    | .idle p came => p && came
    | .onPhase _ | .offPhase _ => false)

/-- FLASH_START may be taken ahead of the coming start (R91, R93; log 3), but where the generator has taken that start
already (R95). -/
def State.flashStartEarly (s : State) : Bool :=
  s.running && s.boundary && !s.flash.uncounted && (match s.flash.phase with
    | .idle p came => p && !came
    | .onPhase _ | .offPhase _ => false)

/-- FLASH_START (R91): the generator enters ON_PHASE at counter 0. -/
def execFlashStart (s : State) : Host.Outcome State Fault Refusal :=
  .next (if s.flashStartDue then s.enterOn false else if s.flashStartEarly then s.enterOn true else s)

/-- The cycle whose ON length the last start has reached (R92). -/
def State.offDue (s : State) : Option Cycle :=
  match s.flash.phase with
  | .onPhase cy => if s.running ∧ s.flash.ended = true then some cy else none
  | .offPhase _ | .idle _ _ => none

/-- The cycle whose ON length the counter reaches at the coming start (R92, R93; log 3). -/
def State.offEarly (s : State) : Option Cycle :=
  match s.flash.phase with
  | .onPhase cy =>
    if s.running ∧ s.boundary ∧ s.power.wakeStart = false ∧ s.flash.uncounted = false ∧ s.flash.ended = false ∧
        cy.counter + 1 = cy.onLength then
      some cy
    else none
  | .offPhase _ | .idle _ _ => none

/-- OFF_PHASE_ENTRY (R92). -/
def execOffPhaseEntry (s : State) : Host.Outcome State Fault Refusal :=
  .next (match s.offDue with
    | some cy => s.enterOff cy false
    | none =>
      match s.offEarly with
      | some cy => s.enterOff cy true
      | none => s)

/-- The last start has reached the OFF length (R92). -/
def State.onDue (s : State) : Bool :=
  match s.flash.phase with
  | .offPhase _ => s.running && s.flash.ended
  | .onPhase _ | .idle _ _ => false

/-- The counter reaches the OFF length at the coming start (R92, R93; log 3). -/
def State.onEarly (s : State) : Bool :=
  match s.flash.phase with
  | .offPhase cy =>
    s.running && s.boundary && !s.power.wakeStart && !s.flash.uncounted && !s.flash.ended &&
      decide (cy.counter + 1 = cy.offLength)
  | .onPhase _ | .idle _ _ => false

/-- ON_PHASE_ENTRY (R92). -/
def execOnPhaseEntry (s : State) : Host.Outcome State Fault Refusal :=
  .next (if s.onDue then s.enterOn false else if s.onEarly then s.enterOn true else s)

/-- TICK_END (R100): the tick length passes within the present half of the tone. A tick runs to its end in DORMANT too
(R105). -/
def execTickEnd (s : State) : Host.Outcome State Fault Refusal :=
  .next (match s.flash.tick with
    | some k => if k.length ≤ k.elapsed + k.half then s.endTick else s
    | none => s)

/-- TONE_HALF_PERIOD (R100): a half of the tone period ends within the tick, and the tone output changes. -/
def execToneHalfPeriod (s : State) : Host.Outcome State Fault Refusal :=
  .next (match s.flash.tick with
    | some k =>
      if k.elapsed + k.half < k.length then
        s.setFlash { s.flash with tick := some { k with elapsed := k.elapsed + k.half }, tone := !s.flash.tone }
      else s
    | none => s)

/-- The phase counter at a drive period start (R92, R105): one more, but at the start at which the phase was entered and
at the first start after a wake; a start that would bring it to the phase's length ends the phase and leaves it at the
length less 1. In IDLE with the mark set, a start has come (R91), but where the generator had taken that start with a
cycle that ended before it (R95). -/
def Flash.counted (x : Flash) (skip : Bool) : Flash :=
  match x.phase with
  | .idle p came => { x with phase := .idle p (if x.uncounted then came else p), uncounted := false }
  | .onPhase cy =>
    if skip then { x with uncounted := false }
    else if cy.counter + 1 < cy.onLength then
      { x with phase := .onPhase { cy with counter := cy.counter + 1 }, uncounted := false }
    else { x with uncounted := false, ended := true }
  | .offPhase cy =>
    if skip then { x with uncounted := false }
    else if cy.counter + 1 < cy.offLength then
      { x with phase := .offPhase { cy with counter := cy.counter + 1 }, uncounted := false }
    else { x with uncounted := false, ended := true }

/-- The flash generator at a drive period start (R92). -/
def State.countFlash (s : State) : State := s.setFlash (s.flash.counted (s.flash.uncounted || s.power.wakeStart))

end Sys2Proof.Machine
end

