-- ==== Sys2Proof/Machine/Arbiter.lean ====
section
/-! DEFINITION. The claim arbiter and the supervision of the masters' silence (chapter 1). -/

namespace Sys2Proof.Machine
open Sys2Proof

/-! ### Results -/

/-- PANEL and FAN have levels and steps; every other function is on or off (R1). -/
def Fn.isOnOff (f : Fn) : Bool := f != .panel && f != .fan

/-- The values of the present claims of a function, in an order of claimants (R13). An orphaned claim is present. -/
def State.presentValues (s : State) (f : Fn) (order : List Claimant) : List Nat :=
  order.filterMap fun k => (s.cell f k).map Claim.value

def allClaimants : List Claimant := [.a, .b, .c, .l]

/-- The combine step (R13): 0 stands for off. -/
def State.combined (s : State) (f : Fn) : Nat :=
  let r := s.fnRec f
  match r.combine with
  | .any =>
    if Fn.isOnOff f then (if (s.presentValues f allClaimants).any (fun v => v == 1) then 1 else 0)
    else ((s.presentValues f r.order).find? (fun v => v != 0)).getD 0
  | .highest => (s.presentValues f allClaimants).foldl max 0
  | .priority => ((s.presentValues f r.order).head?).getD 0

/-- The ignition gate holds a function off (R14). -/
def State.gatedOff (s : State) (f : Fn) : Bool := (s.fnRec f).gate == .ign && !s.filtered .ign

/-- The result the three steps give: combine, ignition gate, shed suppression (R13 to R15). -/
def State.evaluated (s : State) (f : Fn) : Nat :=
  if s.gatedOff f then 0 else if (s.fnRec f).rank.suppressedAt s.sup.shed then 0 else s.combined f

/-- A changed result is handed on to the blocks that read the function (R16): the fan unit for FAN, the composer, the
flash generator for TURN_L, TURN_R and HAZARD. The order among them: log 16. -/
def State.handOn (s : State) (f : Fn) (sideChanged : Bool) : State :=
  let t := (if f = .fan then s.fanRetarget else s).composeFor f sideChanged
  if f = .turnL ∨ f = .turnR ∨ f = .hazard then t.flashTest else t

/-- A function is re-evaluated (R12): a changed result replaces the old and is handed on; the same result hands nothing
on (R16). -/
def State.reevaluate (s : State) (f : Fn) : State :=
  let v := s.evaluated f
  if v = s.result f then s
  else
    let t := s.setResult f v
    t.handOn f (t.leftSide != s.leftSide || t.rightSide != s.rightSide)

/-- Functions are re-evaluated one after another (order: log 15). -/
def State.reevaluateAll (s : State) (fs : List Fn) : State := fs.foldl State.reevaluate s

/-- A cell is written; a cell left as it was is no change and re-evaluates nothing (R9, R12). -/
def State.writeCell (s : State) (f : Fn) (k : Claimant) (v : Option Claim) : State :=
  if s.cell f k = v then s else (s.setCell f k v).reevaluate f

/-- The filtered ignition level has changed: every function gated IGN is re-evaluated (R11). -/
def State.ignitionChanged (s : State) : State :=
  s.reevaluateAll (Fn.all.filter fun f => (s.fnRec f).gate == .ign)

/-- A local input's level sets or removes L's claim (R10). -/
def State.localClaim (s : State) (f : Fn) (active : Bool) : State :=
  s.writeCell f .l (if active then some { value := 1, orphaned := false, hold := none } else none)

/-! ### Claims from a link -/

/-- A wire value reduced to the function's kind (R6): the claim's value, `none` to withdraw, and whether it was
clamped. -/
def reduceWire (f : Fn) (v : Byte) : Option Nat × Bool :=
  let n := v.toNat
  if n = 255 then (none, false)
  else if Fn.isOnOff f then (some (if n = 0 then 0 else 1), false)
  else if f = .panel then (some (min n 250), decide (250 < n))
  else (some (min n 3), decide (3 < n))

/-- Every pair names a function 1 to 15 (R7, R8). -/
def pairsKnown (ps : List (Byte × Byte)) : Bool := ps.all fun p => (Fn.ofNat? p.1.toNat).isSome

/-- The status of a list of pairs whose functions exist: CLAMPED if a pair was clamped (R7, R8). -/
def pairsStatus (ps : List (Byte × Byte)) : Status :=
  if ps.any (fun p => ((Fn.ofNat? p.1.toNat).map fun f => (reduceWire f p.2).2).getD false) then .clamped else .ok

/-- One pair sets or withdraws the slot's claim (R7). -/
def State.claimPair (s : State) (m : SlotId) (p : Byte × Byte) : State :=
  match Fn.ofNat? p.1.toNat with
  | none => s
  | some f =>
    s.writeCell f m.claimant ((reduceWire f p.2).1.map fun v => { value := v, orphaned := false, hold := none })

/-- The pairs of a CLAIM are executed one after another (R7). -/
def State.claimPairs (s : State) (m : SlotId) (ps : List (Byte × Byte)) : State :=
  ps.foldl (fun t p => t.claimPair m p) s

/-- The pairs that stand last for their function (R8). -/
def lastPairs : List (Byte × Byte) → List (Byte × Byte)
  | [] => []
  | p :: ps => if ps.any (fun q => q.1 == p.1) then lastPairs ps else p :: lastPairs ps

/-- CLAIM_ALL (R8): the slot's claim on every function no pair names is removed, and every named function is set or
withdrawn as the last pair that names it says. The order of the functions: log 14. -/
def State.claimColumn (s : State) (m : SlotId) (ps : List (Byte × Byte)) : State :=
  let unnamed := Fn.all.filter fun f => !ps.any fun p => Fn.ofNat? p.1.toNat == some f
  (unnamed.foldl (fun t f => t.writeCell f m.claimant none) s).claimPairs m (lastPairs ps)

/-! ### Silence, return and hold -/

/-- A claim of a slot that has fallen silent, under a policy and hold time (R20). -/
def orphanedClaim (policy : OrphanPolicy) (hold : Nat) (c : Claim) : Option Claim :=
  match policy with
  | .keep => some { c with orphaned := true, hold := none }
  | .drop => none
  | .hold => if hold = 0 then none else some { c with orphaned := true, hold := some hold }

/-- A slot's claim on a function is handled by the function's orphan policy (R20). -/
def State.orphanCell (s : State) (m : SlotId) (f : Fn) : State :=
  match s.cell f m.claimant with
  | none => s
  | some c => s.writeCell f m.claimant (orphanedClaim (s.fnRec f).policy (s.fnRec f).hold c)

/-- A slot becomes SILENT (R20): its timer stops, each claim of its column is handled by its orphan policy, and MASTER
is raised to the other two. `early`: taken ahead of the start it belongs to (log 3). -/
def State.fallSilent (s : State) (m : SlotId) (early : Bool) : State :=
  let t := s.setSlot m { s.slot m with st := .silent, timer := none, silencedNow := early }
  (Fn.all.foldl (fun u f => u.orphanCell m f) t).raiseOthers m

/-- A slot's orphaned claim on a function is unmarked and its hold timer cancelled (R19). -/
def State.unmarkCell (s : State) (m : SlotId) (f : Fn) : State :=
  match s.cell f m.claimant with
  | none => s
  | some c => s.writeCell f m.claimant (some { c with orphaned := false, hold := none })

/-- An accepted frame acts on its slot (R19): it becomes LIVE with its silence timer at 0, and a SILENT slot returns
with its claims unmarked and MASTER raised to the other two. A start that the slot has taken already, with a silence
expiry ahead of it, stays taken: it came before the frame (R20). -/
def State.hear (s : State) (m : SlotId) : State :=
  let heard (t : State) : State := t.setSlot m { t.slot m with st := .live, timer := some 0 }
  match (s.slot m).st with
  | .unheard | .live => heard s
  | .silent => (heard (Fn.all.foldl (fun u f => u.unmarkCell m f) s)).raiseOthers m

/-- Every claim of a slot's column is removed (R22). -/
def State.clearColumn (s : State) (m : SlotId) : State :=
  Fn.all.foldl (fun t f => t.writeCell f m.claimant none) s

/-- A LIVE slot's silence timer has reached its timeout (R20). -/
def State.silenceDue (s : State) (m : SlotId) : Bool :=
  s.running && (s.slot m).st == .live && decide ((s.slotRec m).timeout ≤ (s.slot m).timer.getD 0)

/-- The timer reaches the timeout at the coming start (R20, R40; log 3). -/
def State.silenceEarly (s : State) (m : SlotId) : Bool :=
  s.running && s.boundary && !s.power.wakeStart && !(s.slot m).silencedNow && (s.slot m).st == .live &&
    decide ((s.slotRec m).timeout = (s.slot m).timer.getD 0 + 1)

/-- SILENCE_EXPIRY (R20). -/
def execSilenceExpiry (m : SlotId) (s : State) : Host.Outcome State Fault Refusal :=
  .next (if s.silenceDue m then s.fallSilent m false else if s.silenceEarly m then s.fallSilent m true else s)

/-- The hold timer of a slot's claim on a function. -/
def State.holdOf (s : State) (m : SlotId) (f : Fn) : Option Nat := (s.cell f m.claimant).bind Claim.hold

/-- A hold timer has reached 0 (R21). -/
def State.holdDue (s : State) (m : SlotId) (f : Fn) : Bool := s.running && s.holdOf m f == some 0

/-- A hold timer reaches 0 at the coming start (R21, R40; log 3). -/
def State.holdEarly (s : State) (m : SlotId) (f : Fn) : Bool :=
  s.running && s.boundary && !(s.slot m).silencedNow && s.holdOf m f == some 1

/-- HOLD_EXPIRY (R21): the held claim is removed and its function re-evaluated; no event is raised. -/
def execHoldExpiry (m : SlotId) (f : Fn) (s : State) : Host.Outcome State Fault Refusal :=
  .next (if s.holdDue m f || s.holdEarly m f then s.writeCell f m.claimant none else s)

/-- Hold timers of a slot's column at a drive period start: each falls by 1 (R5, R21), but at the start with which the
silence that began them came. -/
def State.countHolds (s : State) (m : SlotId) : State :=
  if (s.slot m).silencedNow then s
  else
    Fn.all.foldl (fun t f =>
      match t.cell f m.claimant with
      | some { value := v, orphaned := o, hold := some n } =>
        t.setCell f m.claimant (some { value := v, orphaned := o, hold := some (n - 1) })
      | _ => t) s

/-- A slot's timers at a drive period start: the silence timer of a LIVE slot rises by 1, but at the first start after a
wake (R18, R23; log 20) and at a start the slot has taken already (R20; log 3), and the hold timers of its column fall,
at the first start after a wake too (log 20). -/
def State.countSlot (s : State) (m : SlotId) : State :=
  let t := s.countHolds m
  let v := t.slot m
  t.setSlot m { v with
    timer := if v.st = .live ∧ t.power.wakeStart = false ∧ v.silencedNow = false then v.timer.map (· + 1) else v.timer,
    silencedNow := false }

end Sys2Proof.Machine
end

