-- ==== Sys2Proof/Machine/GaugeOps.lean ====
section
/-! DEFINITION. The gauge unit (chapter 8): target voltage, compensated duty, sender readings and the states of a gauge
slot. -/

namespace Sys2Proof.Machine
open Sys2Proof

/-! ### Arithmetic -/

/-- A quotient rounded to nearest, with a tie rounded away from zero (R149). -/
def roundDiv (n : Int) (d : Nat) : Int := n.sign * (((2 * n.natAbs + d) / (2 * d) : Nat) : Int)

/-- The target of an average on one segment of a table (R149). -/
def segmentTarget (x0 y0 x1 y1 a : Nat) : Nat :=
  ((y0 : Int) + roundDiv (((y1 : Int) - y0) * ((a : Int) - x0)) (x1 - x0)).toNat

/-- The target a table gives an average: clamped to the first and the last point, interpolated between (R149). -/
def tableTarget (a : Nat) : List (Nat × Nat) → Nat
  | [] => 0
  | [(_, y)] => y
  | (x0, y0) :: (x1, y1) :: rest =>
    if a ≤ x0 then y0
    else if a < x1 then segmentTarget x0 y0 x1 y1 a
    else tableTarget a ((x1, y1) :: rest)

/-- UNDERDRIVE: the bus cannot give the gauge its target (R150). -/
def gaugeUnder (vt vf : Nat) : Bool := decide (vf ≤ vt)

/-- The computed duty for a target and a filtered bus voltage (R150). -/
def gaugeDuty (vt vf : Nat) : Nat := if vf ≤ vt then 250 else (250 * vt ^ 2 + vf ^ 2 / 2) / vf ^ 2

/-- The average of a ring: its mean rounded to nearest, halves up (R145). -/
def ringAverage (ring : List Nat) : Nat := (ring.sum + ring.length / 2) / ring.length

/-- A reading enters a ring of a length at its tail; the oldest leaves a full ring first (R145). -/
def ringEnter (length : Nat) (ring : List Nat) (v : Nat) : List Nat :=
  (if length ≤ ring.length then ring.drop 1 else ring) ++ [v]

/-! ### Duty of a slot -/

/-- A slot's computed duty is set and written as its bound channel's demand, STEADY, with stop mark and entry presence
clear (R152); a LATCHED GAUGE channel whose demand becomes 0 is released (R79). -/
def State.gaugeWrite (s : State) (g : GaugeId) (d : Nat) : State :=
  let t := s.setGauge g { s.gauge g with duty := d }
  match (s.gaugeRec g).bound with
  | none => t
  | some c =>
    ((t.writeDemand c d .steady).modChan c fun ch => { ch with stop := false, present := false }).releaseIfDue c

/-- The target of a slot: its stabilised target, or its average through the table (R148). -/
def State.gaugeTarget (s : State) (g : GaugeId) : Option Nat :=
  match (s.gaugeRec g).mode with
  | .stabilised => some (s.gaugeRec g).target
  | .table => (s.gauge g).average.map fun a => tableTarget a (s.gaugeRec g).table

/-- A slot in ACTIVE recomputes its target, duty and UNDERDRIVE; GAUGE is raised if the mark changed. With no target or
no Vf it computes nothing (R150, R151). -/
def State.gaugeRecompute (s : State) (g : GaugeId) : State :=
  match s.gaugeTarget g, s.sup.vf with
  | some vt, some vf =>
    if (s.gauge g).st = .active then
      let t := (s.setGauge g { s.gauge g with vt := some vt, under := gaugeUnder vt vf }).gaugeWrite g (gaugeDuty vt vf)
      if gaugeUnder vt vf = (s.gauge g).under then t else t.raise .gauge
    else s
  | _, _ => s

/-- Every slot in ACTIVE recomputes: a change of Vf is handed over (R114, R151). -/
def State.gaugesRecompute (s : State) : State := allGauges.foldl State.gaugeRecompute s

/-! ### Faults and recovery -/

/-- Entry to FAULT_REST (R146): duty 0 written, UNDERDRIVE clear, GAUGE raised. -/
def State.gaugeRest (s : State) (g : GaugeId) : State :=
  ((s.setGauge g { s.gauge g with st := .faultRest, timer := none, under := false }).gaugeWrite g 0).raise .gauge

/-- Entry to FAULT_HOLD (R146): the duty and UNDERDRIVE stand, the recovery run is 0, the timer starts at the fault hold
and GAUGE is raised; with a fault hold of 0 the slot passes straight to FAULT_REST. -/
def State.gaugeFault (s : State) (g : GaugeId) : State :=
  let t := (s.setGauge g { s.gauge g with
    st := .faultHold, recoveryRun := 0, timer := some (s.gaugeRec g).faultHold }).raise .gauge
  if (s.gaugeRec g).faultHold = 0 then t.gaugeRest g else t

/-- The return to ACTIVE (R147): the timer discarded, both runs 0, the reading that completed the recovery run the only
one of the ring, a recomputation, GAUGE raised. That reading is the last value of the slot's sender input (R134). -/
def State.gaugeRecover (s : State) (g : GaugeId) : State :=
  let v := (s.value (.sender (s.gaugeRec g).sender)).value
  ((s.setGauge g { s.gauge g with
    st := .active, timer := none, faultRun := 0, recoveryRun := 0, ring := v.toList,
    average := v.map fun x => ringAverage [x] }).gaugeRecompute g).raise .gauge

/-- The fault run of an ACTIVE slot has reached 4 (R146). -/
def State.faultEntryDue (s : State) (g : GaugeId) : Bool :=
  s.running && (s.gauge g).st == .active && decide (4 ≤ (s.gauge g).faultRun)

/-- A slot is in FAULT_HOLD or FAULT_REST. -/
def GaugeState.isFault (x : GaugeState) : Bool := x == .faultHold || x == .faultRest

/-- The recovery run of a slot in FAULT_HOLD or FAULT_REST has reached 4 (R147). Readings are counted in NORMAL only
(R143). -/
def State.recoveryDue (s : State) (g : GaugeId) : Bool :=
  s.running && (s.gauge g).st.isFault && decide (4 ≤ (s.gauge g).recoveryRun) && !s.cranking

/-- The fault hold timer has reached 0 (R146). -/
def State.faultExpiryDue (s : State) (g : GaugeId) : Bool :=
  s.running && (s.gauge g).st == .faultHold && (s.gauge g).timer == some 0

/-- The fault hold timer reaches 0 at the coming start (R146, R147; log 3). -/
def State.faultExpiryEarly (s : State) (g : GaugeId) : Bool :=
  s.running && s.boundary && (s.gauge g).st == .faultHold && (s.gauge g).timer == some 1

/-- What a reading already taken brings a slot is done before the crank state or the ignition acts on it (R144). -/
def State.gaugeFinishReading (s : State) (g : GaugeId) : State :=
  if s.faultEntryDue g then s.gaugeFault g else if s.recoveryDue g then s.gaugeRecover g else s

/-- FAULT_HOLD_ENTRY (R146). -/
def execFaultHoldEntry (g : GaugeId) (s : State) : Host.Outcome State Fault Refusal :=
  .next (if s.faultEntryDue g then s.gaugeFault g else s)

/-- FAULT_HOLD_EXPIRY (R146). -/
def execFaultHoldExpiry (g : GaugeId) (s : State) : Host.Outcome State Fault Refusal :=
  .next (if s.faultExpiryDue g || s.faultExpiryEarly g then s.gaugeRest g else s)

/-- GAUGE_RECOVERY (R147). -/
def execGaugeRecovery (g : GaugeId) (s : State) : Host.Outcome State Fault Refusal :=
  .next (if s.recoveryDue g then s.gaugeRecover g else s)

/-- A fault hold timer falls by 1 at a drive period start (R146). -/
def State.countFaultHold (s : State) (g : GaugeId) : State :=
  s.setGauge g { s.gauge g with timer := (s.gauge g).timer.map (· - 1) }

/-! ### Sender readings -/

/-- A reading lies within a slot's valid range (R144). -/
def GaugeRec.validReading (r : GaugeRec) (v : Nat) : Bool := decide (r.validLow ≤ v) && decide (v ≤ r.validHigh)

/-- A valid reading enters the ring of an ACTIVE slot, whose fault run becomes 0, and the slot recomputes (R145). -/
def State.gaugeEnter (s : State) (g : GaugeId) (v : Nat) : State :=
  let ring := ringEnter (s.gaugeRec g).ringLength (s.gauge g).ring v
  (s.setGauge g { s.gauge g with ring := ring, average := some (ringAverage ring), faultRun := 0 }).gaugeRecompute g

/-- A fresh sender reading reaches a slot (R143, R144): discarded in CRANK, in OFF and in HELD, entered or counted
else. -/
def State.gaugeReading (s : State) (g : GaugeId) (v : Nat) : State :=
  if s.cranking then s
  else
    match (s.gauge g).st with
    | .off | .held => s
    | .active =>
      if (s.gaugeRec g).validReading v then s.gaugeEnter g v
      else s.setGauge g { s.gauge g with faultRun := min 4 ((s.gauge g).faultRun + 1) }
    | .faultHold | .faultRest =>
      s.setGauge g { s.gauge g with
        recoveryRun := if (s.gaugeRec g).validReading v then min 4 ((s.gauge g).recoveryRun + 1) else 0 }

/-! ### Ignition and crank state -/

/-- Filtered IGN has become active: an enabled and bound slot leaves OFF, for ACTIVE in NORMAL, where a STABILISED slot
computes at once, and for HELD in CRANK (R142, R143). -/
def State.gaugeStart (s : State) (g : GaugeId) : State :=
  if (s.gauge g).st = .off ∧ (s.gaugeRec g).enabled = true ∧ (s.gaugeRec g).bound.isSome = true then
    if s.cranking then s.setGauge g { s.gauge g with st := .held }
    else (s.setGauge g { s.gauge g with st := .active, ring := [], faultRun := 0, recoveryRun := 0 }).gaugeRecompute g
  else s

/-- Filtered IGN has become inactive: a slot enters OFF from whichever state it is in, its volatile state discarded and
duty 0 written; GAUGE is raised if UNDERDRIVE was set or a fault state left (R142). -/
def State.gaugeStop (s : State) (g : GaugeId) : State :=
  let t := s.gaugeFinishReading g
  if (t.gauge g).st = .off then t
  else
    let u := (t.setGauge g { GaugeSlot.reset with duty := (t.gauge g).duty }).gaugeWrite g 0
    if (t.gauge g).under || (t.gauge g).st.isFault then u.raise .gauge else u

/-- The gauge unit takes a change of filtered IGN (R142). -/
def State.gaugesIgnition (s : State) (active : Bool) : State :=
  allGauges.foldl (fun t g => if active then t.gaugeStart g else t.gaugeStop g) s

/-- The crank state has become CRANK: an ACTIVE slot enters HELD with everything kept (R143). -/
def State.gaugeHold (s : State) (g : GaugeId) : State :=
  if (s.gauge g).st = .active then s.setGauge g { s.gauge g with st := .held } else s

/-- The crank state has returned to NORMAL: a HELD slot enters ACTIVE and recomputes (R143). -/
def State.gaugeRelease (s : State) (g : GaugeId) : State :=
  if (s.gauge g).st = .held then (s.setGauge g { s.gauge g with st := .active }).gaugeRecompute g else s

end Sys2Proof.Machine
end

