-- ==== Sys2Proof/Machine/StoreOps.lean ====
section
/-! DEFINITION. The configuration store (chapter 11): the checks a record meets in its write rule, the load at start-up,
store writes, and the resets. -/

namespace Sys2Proof.Machine
open Sys2Proof

/-! ### The checks of the records' write rules -/

/-- A nonzero group address equals the unit address or the other group address (R182). -/
def UnitRec.groupsClash (r : UnitRec) : Bool :=
  (r.group1 != 0 && (r.group1 == r.address || r.group1 == r.group2)) || (r.group2 != 0 && r.group2 == r.address)

/-- A record gives its slot the port and source address of another slot (R22). -/
def SlotRec.clashes (r : SlotRec) (others : List SlotRec) : Bool :=
  others.any fun o => o.port == r.port && o.source == r.source

/-- A rank order names each of A, B, C and L exactly once (R3). -/
def rankOrderOk (order : List Claimant) : Bool :=
  order.length == 4 && allClaimants.all fun k => order.contains k

/-- The entries of a map at indices other than one (R29). -/
def Working.otherEntries (cfg : Working) (i : Fin 32) : List MapEntry := (cfg.map.set i none).toList.filterMap id

/-- A contribution is given for a function it is not allowed for (R26; check 4 of R29). -/
def MapEntry.contribBad (e : MapEntry) : Bool :=
  (match e.contrib with
    | .full => false
    | .dim _ => e.fn == .fan
    | .level => e.fn != .panel
    | .flash => e.fn != .turnL && e.fn != .turnR && e.fn != .hazard)

/-- The FAN entry and its channel stand apart (R27; check 6 of R29). -/
def MapEntry.fanBad (e : MapEntry) (kind : ChKind) (others : List MapEntry) : Bool :=
  (e.fn == .fan && (kind != .motor || others.any fun o => o.fn == .fan || o.chan == e.chan)) ||
    others.any fun o => o.fn == .fan && o.chan == e.chan

/-- Checks 4 to 8 of R29 on an entry, against the other entries and the channel kinds: the answer of the first check
that fails. -/
def mapRefusal (cfg : Working) (i : Fin 32) (e : MapEntry) : Option Status :=
  let others := cfg.otherEntries i
  let kind := cfg.channels[e.chan].kind
  if e.contribBad then some .badValue
  else if kind = .gauge ∨ kind = .none then some .badValue
  else if e.fanBad kind others then some .badValue
  else if others.any fun o => o.fn == e.fn && o.chan == e.chan then some .badValue
  else if 4 ≤ (others.filter fun o => o.chan == e.chan).length then some .noRoom
  else none

/-- The readings of a table are strictly increasing (R139). -/
def readingsRise : List (Nat × Nat) → Bool
  | [] => true
  | [_] => true
  | p :: q :: rest => decide (p.1 < q.1) && readingsRise (q :: rest)

/-- The gauge slots other than one. -/
def gaugesOther : GaugeId → List GaugeId
  | .g1 => [.g2, .g3]
  | .g2 => [.g1, .g3]
  | .g3 => [.g1, .g2]

/-- Checks 3 to 6 of R139 on a clamped GAUGE record: every one is answered BAD_VALUE. -/
def gaugeBad (cfg : Working) (g : GaugeId) (r : GaugeRec) : Bool :=
  (match r.bound with
    | none => r.enabled
    | some c => cfg.channels[c].kind != .gauge || (gaugesOther g).any fun o => (cfg.gauges.get o).bound == some c) ||
  decide (r.table.length < 2) || decide (12 < r.table.length) || !readingsRise r.table || decide (r.validHigh ≤ r.validLow)

/-- Check 3 of R44: the change of kind breaks R27 for the entries the map holds (R31). -/
def kindBreaksMap (cfg : Working) (c : Channel) (kind : ChKind) : Bool :=
  let on := (cfg.map.toList.filterMap id).filter fun e => e.chan == c
  match kind with
  | .gauge | .none => kind != cfg.channels[c].kind && !on.isEmpty
  | .lamp => on.any fun e => e.fn == .fan
  | .motor => false

/-- Check 4 of R44: the kind changes from GAUGE while a gauge slot is bound to the channel. -/
def kindLeavesGauge (cfg : Working) (c : Channel) (kind : ChKind) : Bool :=
  cfg.channels[c].kind == .gauge && kind != .gauge && allGauges.any fun g => (cfg.gauges.get g).bound == some c

/-- The three shed thresholds stand in strictly falling order (R108). -/
def SupplyRec.thresholdsFall (r : SupplyRec) : Bool := decide (r.shed2 < r.shed1) && decide (r.shed3 < r.shed2)

/-- The step duties never decrease (R157). -/
def FanRec.dutiesRise (r : FanRec) : Bool := decide (r.duty1 ≤ r.duty2) && decide (r.duty2 ≤ r.duty3)

/-! ### The load at start-up -/

/-- One record as it loads (R186): its default where its check failed or it conflicts. The second part says whether it
defaulted so. -/
def loadOne {α : Type} (stored : Option α) (conflict : α → Bool) (dflt : α) : α × Bool :=
  match stored with
  | none => (dflt, true)
  | some r => if conflict r then (dflt, true) else (r, false)

/-- The working copy as far as it is loaded, and whether a record has taken its default (R186). -/
structure Loading where
  cfg : Working
  defaulted : Bool
deriving DecidableEq, Repr

/-- The working copy before any record is loaded: no entry and no bound gauge slot, so that it conflicts with
nothing (R186). -/
def Loading.start : Loading := { cfg := Working.default, defaulted := false }

/-- A record of a MAP index is loaded (R186): it conflicts where a check of R29 would refuse it BAD_VALUE; its numbers
exist. A fifth entry on a channel is refused NO_ROOM, which is no conflict (log 18). -/
def Loading.map (st : Store) (l : Loading) (i : Fin 32) : Loading :=
  let conflict (e : Option MapEntry) : Bool :=
    match e with
    | none => false
    | some e => mapRefusal l.cfg i e == some .badValue
  let r := loadOne st.map[i] conflict none
  { cfg := { l.cfg with map := l.cfg.map.set i r.1 }, defaulted := l.defaulted || r.2 }

/-- A GAUGE record is loaded: checks of R139; a class tag unlike the working class replaces the stabilised target
(R140). -/
def Loading.gauge (st : Store) (l : Loading) (g : GaugeId) : Loading :=
  let cls := l.cfg.unit.cls
  let r := loadOne (st.gauges.get g) (gaugeBad l.cfg g) (GaugeRec.default cls g)
  let v := if r.1.tag = cls then r.1 else { r.1 with target := cls.target }
  { cfg := { l.cfg with gauges := l.cfg.gauges.set g v }, defaulted := l.defaulted || r.2 }

/-- The FUNCTION records as they load (R186, R3). -/
def loadedFunctions (st : Store) : List (FunctionRec × Bool) :=
  Fn.all.map fun f => loadOne st.functions[f.idx] (fun r => !rankOrderOk r.order) (FunctionRec.default f)

/-- The CHANNEL records as they load: with no map entry and no gauge slot loaded, none conflicts (R186, R44). -/
def loadedChannels (st : Store) : List (ChannelRec × Bool) :=
  allChannels.map fun c => loadOne st.channels[c] (fun _ => false) (ChannelRec.default c)

/-- The records that meet no other record are loaded: UNIT, INPUTS, FUNCTION, CHANNEL, FLASHER and FAN (R186). -/
def Loading.plain (st : Store) : Loading :=
  let u := loadOne st.unit UnitRec.groupsClash UnitRec.default
  let i := loadOne st.inputs (fun _ => false) inputsDefault
  let fl := loadOne st.flasher (fun _ => false) FlasherRec.default
  let fa := loadOne st.fan (fun r => !r.dutiesRise) FanRec.default
  { cfg := { Working.default with
      unit := u.1, inputs := i.1,
      functions := ⟨((loadedFunctions st).map Prod.fst).toArray, rfl⟩,
      channels := ⟨((loadedChannels st).map Prod.fst).toArray, rfl⟩,
      flasher := fl.1, fan := fa.1 },
    defaulted := u.2 || i.2 || (loadedFunctions st).any Prod.snd || (loadedChannels st).any Prod.snd || fl.2 || fa.2 }

/-- The SLOT records are loaded, A to C, each against the ones before it (R186). -/
def Loading.slots (st : Store) (l : Loading) : Loading :=
  let a := loadOne st.slots.a (fun _ => false) (SlotRec.default .a)
  let b := loadOne st.slots.b (fun r => r.clashes [a.1]) (SlotRec.default .b)
  let c := loadOne st.slots.c (fun r => r.clashes [a.1, b.1]) (SlotRec.default .c)
  { cfg := { l.cfg with slots := ⟨a.1, b.1, c.1⟩ }, defaulted := l.defaulted || a.2 || b.2 || c.2 }

/-- The SUPPLY record is loaded: a class tag unlike the working class takes the class defaults and raises nothing
(R107; before the check of the thresholds: log 19). -/
def Loading.supply (st : Store) (l : Loading) : Loading :=
  let cls := l.cfg.unit.cls
  let r := loadOne st.supply (fun r => r.tag == cls && !r.thresholdsFall) (SupplyRec.default cls)
  { cfg := { l.cfg with supply := if r.1.tag = cls then r.1 else SupplyRec.default cls },
    defaulted := l.defaulted || r.2 }

def allMapIndices : List (Fin 32) := List.finRange 32

/-- The store loads every record into the working copy (R186). -/
def loadStore (st : Store) : Loading :=
  let l := allMapIndices.foldl (Loading.map st) (Loading.slots st (Loading.plain st))
  Loading.supply st (allGauges.foldl (Loading.gauge st) l)

/-! ### Store writes -/

/-- The stored record and its check hold a content, or, with `none`, its check fails. -/
def Store.write (st : Store) (r : ConfigRecord) (good : Bool) : Store :=
  match r with
  | .unit v => { st with unit := if good then some v else none }
  | .inputs v => { st with inputs := if good then some v else none }
  | .slot m v => { st with slots := st.slots.set m (if good then some v else none) }
  | .function f v => { st with functions := st.functions.set f.idx (if good then some v else none) }
  | .channel c v => { st with channels := st.channels.set c (if good then some v else none) }
  | .map i e => { st with map := st.map.set i (if good then some e else none) }
  | .gauge g v => { st with gauges := st.gauges.set g (if good then some v else none) }
  | .flasher v => { st with flasher := if good then some v else none }
  | .supply v => { st with supply := if good then some v else none }
  | .fan v => { st with fan := if good then some v else none }

/-- The store as a reset leaves it: a write cut short leaves its record failing its check (R186). -/
def State.storeAfterReset (s : State) : Store :=
  match s.storeWrite with
  | none => s.store
  | some r => s.store.write r false

/-- STORE_WRITE_DONE (R185): the stored record and its check hold the applied contents and the store is free. -/
def execStoreWriteDone (s : State) : Host.Outcome State Fault Refusal :=
  .next (match s.storeWrite with
    | none => s
    | some r => (s.setStore (s.store.write r true)).setStoreWrite none)

/-! ### Resets -/

/-- The brown-out count after a reset of a kind (R188). -/
def brownOutsAfter (kind : ResetKind) (n : Nat) : Nat :=
  match kind with
  | .powerOn => 0
  | .brownOut => min 255 (n + 1)
  | .commanded => n

/-- STARTING begins after a reset of a kind (R188, R189): every block at its reset values, the store loaded, the reset
cause written, RESET raised, and CONFIG_DEFAULTED where a record took its default. -/
def State.begin (s : State) (kind : ResetKind) : State :=
  let l := loadStore s.storeAfterReset
  State.fresh s.pending l.cfg s.storeAfterReset (Power.starting kind (brownOutsAfter kind s.power.brownOuts))
    (if l.defaulted then EventKind.reset.bit ||| EventKind.configDefaulted.bit else EventKind.reset.bit)

/-- A brown-out (R113, R188): every block takes its reset values and the part is held in reset. The working copy stands
until the load of the next start (log 37). -/
def State.brownOut (s : State) : State :=
  State.fresh s.pending s.cfg s.storeAfterReset
    { part := .held, quiet := 0, starts := 0, resetDue := false, wakeStart := false, lastReset := s.power.lastReset,
      brownOuts := s.power.brownOuts } 0#9

/-- POWER_ON (R188): the supply rises above 4,200 mV after having been absent, whatever the part was doing (log 37). -/
def execPowerOn (s : State) : Host.Outcome State Fault Refusal := .next (s.begin .powerOn)

/-- BROWN_OUT_RESTART (R188): the supply rises above 4,200 mV while the part is held in reset. -/
def execBrownOutRestart (s : State) : Host.Outcome State Fault Refusal :=
  .next (if s.power.part = .held then s.begin .brownOut else s)

/-- 4 drive periods of STARTING have run: the fifth start has been taken (R189). -/
def State.startingDue (s : State) : Bool := s.power.part == .starting && decide (5 ≤ s.power.starts)

/-- STARTING_COMPLETE (R189): the part state becomes ACTIVE. -/
def State.startingDone (s : State) : State := s.setPower { s.power with part := .active }

/-- The fourth drive period of STARTING has run to the end of its last step: STARTING_COMPLETE may be taken ahead of the
fifth start (R189; log 3). -/
def State.startingEarly (s : State) : Bool :=
  s.power.part == .starting && s.power.starts == 4 && s.clock == .step 249 && s.boundary

def execStartingComplete (s : State) : Host.Outcome State Fault Refusal :=
  .next (if s.startingDue || s.startingEarly then s.startingDone else s)

end Sys2Proof.Machine
end

