-- ==== Sys2Proof/Machine/SupplyOps.lean ====
section
/-! DEFINITION. The supply supervisor (chapter 6): the handling of a bus sample, cranking and the shed level. -/

namespace Sys2Proof.Machine
open Sys2Proof

/-! ### Settings -/

/-- The brown-out limit, in mV (R107, R113). -/
abbrev brownOutLimit : Nat := 3600

/-- The exit level (R116). -/
def State.exitLevel (s : State) : Nat := s.cfg.supply.crankThreshold + s.cfg.supply.crankMargin

/-- The threshold of a shed level (R107). -/
def SupplyRec.threshold (r : SupplyRec) : Nat → Nat
  | 0 => 0
  | 1 => r.shed1
  | 2 => r.shed2
  | _ => r.shed3

/-- Filtered START has become active or inactive in the eyes of the supervisor (R115, R116). -/
def State.startActive (s : State) : Bool := s.filtered .start

/-! ### Shed level -/

/-- The rise counter has reached the dwell (R119). The level does not move in CRANK (R117). -/
def State.shedRiseDue (s : State) : Bool :=
  s.running && !s.cranking && decide (s.sup.shed < 3) && (match s.sup.rise with
    | some n => decide (s.cfg.supply.dwell ≤ n)
    | none => false)

/-- The fall counter has reached the dwell (R120). -/
def State.shedFallDue (s : State) : Bool :=
  s.running && !s.cranking && decide (0 < s.sup.shed) && (match s.sup.fall with
    | some n => decide (s.cfg.supply.dwell ≤ n)
    | none => false)

/-- The shed level becomes `n` (R121): the counters of the new level start at 0, SHED is raised, the claim arbiter
re-evaluates all fifteen functions (R15) and the fan unit acts on its cap (R159, R164). The order of the two: log 16. -/
def State.setShed (s : State) (n : Nat) : State :=
  let t := (s.setSup { s.sup with
    shed := n, rise := if n < 3 then some 0 else none, fall := if 0 < n then some 0 else none }).raise .shed
  (t.reevaluateAll Fn.all).fanShed s.capDuty

/-- SHED_RISE (R119, R121). The handling of the sample that brings the counter to the dwell makes the rise itself
(R112, R121; log 26); the command makes one that a state still holds. -/
def execShedRise (s : State) : Host.Outcome State Fault Refusal :=
  .next (if s.shedRiseDue then s.setShed (s.sup.shed + 1) else s)

/-- SHED_FALL (R120, R121), beside the sample as SHED_RISE is. -/
def execShedFall (s : State) : Host.Outcome State Fault Refusal :=
  .next (if s.shedFallDue then s.setShed (s.sup.shed - 1) else s)

/-- A change of the shed level that a counter at the dwell has brought is made (R121). -/
def State.finishShed (s : State) : State :=
  if s.shedRiseDue then s.setShed (s.sup.shed + 1)
  else if s.shedFallDue then s.setShed (s.sup.shed - 1)
  else s

/-! ### Filtering and dwell counting -/

/-- Vf after a sample: seeded, or moved by an eighth of the difference truncated toward zero (R114). -/
def filterStep (vf : Option Nat) (v : Nat) : Nat :=
  match vf with
  | none => v
  | some f => ((f : Int) + ((v : Int) - f).tdiv 8).toNat

/-- The rise counter after a sample with Vf (R119). -/
def Supervisor.countRise (p : Supervisor) (r : SupplyRec) (vf : Nat) : Option Nat :=
  if p.shed < 3 then p.rise.map fun n => if vf < r.threshold (p.shed + 1) then min r.dwell (n + 1) else 0 else none

/-- The fall counter after a sample with Vf (R120). -/
def Supervisor.countFall (p : Supervisor) (r : SupplyRec) (vf : Nat) : Option Nat :=
  if 0 < p.shed then p.fall.map fun n => if r.threshold p.shed + r.hysteresis < vf then min r.dwell (n + 1) else 0
  else none

/-- Steps 3 and 4 of R112: the sample is filtered, a change of Vf is handed to the gauge unit, and the dwell counters
count. -/
def State.filterSample (s : State) (v : Nat) : State :=
  let vf := filterStep s.sup.vf v
  let t := s.setSup { s.sup with vf := some vf }
  let u := if s.sup.vf = some vf then t else t.gaugesRecompute
  u.setSup { u.sup with rise := u.sup.countRise u.cfg.supply vf, fall := u.sup.countFall u.cfg.supply vf }

/-- A fresh bus sample that is no brown-out is counted (R112). In NORMAL a second low sample brings the entry counter to
2 and goes no further (R115), and any other is filtered and counted for dwell; in CRANK a sample that brings the exit
counter to 20 with filtered START inactive is kept in hand for the return it makes (R116). -/
def State.countSample (s : State) (v : Nat) : State :=
  if s.cranking then
    let n := if s.exitLevel ≤ v then min 20 (s.sup.crankOut + 1) else 0
    s.setSup { s.sup with crankOut := n, inHand := if n = 20 ∧ s.startActive = false then some v else none }
  else
    let n := if v < s.cfg.supply.crankThreshold then min 2 (s.sup.crankIn + 1) else 0
    let t := s.setSup { s.sup with crankIn := n }
    if n = 2 then t else t.filterSample v

/-! ### Crank state -/

/-- CRANK_ENTRY is due: in NORMAL, the entry counter has reached 2 or filtered START is active (R115). -/
def State.crankEntryDue (s : State) : Bool :=
  s.running && !s.cranking && (decide (2 ≤ s.sup.crankIn) || s.startActive)

/-- CRANK_EXIT is due: in CRANK, the exit counter stands at 20 and filtered START is inactive (R116). -/
def State.crankExitDue (s : State) : Bool :=
  s.running && s.cranking && decide (20 ≤ s.sup.crankOut) && !s.startActive

/-- The crank state becomes CRANK (R115, R118): both counters 0, CRANK raised, the fan suspended (R165), the gauge slots
held (R143) and the tick in progress ended (R101). A sender fault or recovery that readings already handled have
brought comes first (R144). -/
def State.crankEnter (s : State) : State :=
  let s := allGauges.foldl State.gaugeFinishReading s
  let t := (s.setSup { s.sup with crank := .crank, crankIn := 0, crankOut := 0, inHand := none }).raise .crank
  (allGauges.foldl State.gaugeHold t.fanCrankEntry).endTick

/-- The crank state returns to NORMAL (R116, R118): both counters 0, CRANK raised, the fan restarted (R165), the gauge
slots released (R143). A sample that made the return is then filtered and counted for dwell. -/
def State.crankLeave (s : State) : State :=
  let t := (s.setSup { s.sup with crank := .normal, crankIn := 0, crankOut := 0, inHand := none }).raise .crank
  let u := allGauges.foldl State.gaugeRelease t.fanCrankExit
  match s.sup.inHand with
  | none => u
  | some v => u.filterSample v

/-- CRANK_ENTRY (R115). What makes it due enters CRANK itself, the handling of a second low sample (R112) and filtered
START becoming active, at that moment; the command makes an entry that a state still holds (log 26). -/
def execCrankEntry (s : State) : Host.Outcome State Fault Refusal :=
  .next (if s.crankEntryDue then s.crankEnter else s)

/-- CRANK_EXIT (R116), beside the sample and filtered START as CRANK_ENTRY is. -/
def execCrankExit (s : State) : Host.Outcome State Fault Refusal :=
  .next (if s.crankExitDue then s.crankLeave else s)

/-- The crank state moves where it is due (R115, R116). -/
def State.settleCrank (s : State) : State :=
  let t := s.whenDue s.crankExitDue State.crankLeave
  t.whenDue t.crankEntryDue State.crankEnter

/-- The crank state and the shed level move where they are due (R115, R116, R121). -/
def State.settleSupply (s : State) : State := s.settleCrank.finishShed

/-- The handling of a fresh bus sample, a single operation (R112): the brown-out test (R113), the crank test, filtering
and dwell counting, with the change of the crank state or the shed level that the sample brings made within it (R115,
R116, R121). A crank state that START had made due before the sample is taken before it (R115, R116; log 26). -/
def State.busSample (s : State) (v : Nat) : State :=
  if v < brownOutLimit then s.brownOut else (s.settleSupply.countSample v).settleSupply

/-! ### Settings applied, wake -/

/-- A SUPPLY record in the working copy is replaced (R109, R110): the counters restart at 0, everything else stands, and
the allowance is handed to the output stage, which applies its admission test (R62, R122). -/
def State.applySupply (s : State) (r : SupplyRec) : State :=
  ((s.setCfg { s.cfg with supply := r }).setSup { s.sup with
    crankIn := 0, crankOut := 0, rise := s.sup.rise.map fun _ => 0, fall := s.sup.fall.map fun _ => 0,
    inHand := none }).admitHeads

/-- A SUPPLY record of a CONFIG item is applied, once a crank state that START has brought is taken (R109, R115,
R116). -/
def State.newSupply (s : State) (r : SupplyRec) : State := s.settleSupply.applySupply r

/-- The supervisor at a wake (R123). -/
def Supervisor.woken (p : Supervisor) : Supervisor :=
  { p with
    crankIn := 0, crankOut := 0, rise := p.rise.map fun _ => 0, fall := p.fall.map fun _ => 0, inHand := none,
    vf := match p.crank with
      | .normal => none
      | .crank => p.vf }

end Sys2Proof.Machine
end

