-- ==== Sys2Proof/Machine/InputOps.lean ====
section
/-! DEFINITION. The local input filter (chapter 11, R187). -/

namespace Sys2Proof.Machine
open Sys2Proof

/-- The raw level of an electrical level under a polarity: `true` for active (R187). -/
def Polarity.rawLevel (p : Polarity) (high : Bool) : Bool :=
  match p with
  | .activeHigh => high
  | .activeLow => !high

/-- One sample of a raw level (R187). Unseeded, the run counts equal samples, and an unlike one restarts it at 1; seeded,
it counts samples unlike the filtered level. The run does not pass the debounce count. -/
def Input.sample (x : Input) (debounce : Nat) (raw : Bool) : Input :=
  match x.filtered with
  | none => { x with raw := raw, run := if raw = x.raw ∧ x.run ≠ 0 then min debounce (x.run + 1) else 1 }
  | some l => { x with raw := raw, run := if raw = l then 0 else min debounce (x.run + 1) }

/-- The working debounce count of an input. -/
def State.debounce (s : State) (i : InputId) : Nat := (s.cfg.inputs.get i).debounce

/-- One input is sampled at a drive period start, but where the sample of this start has been taken ahead of it
(log 3). -/
def State.sampleInput (s : State) (lines : PerInput Bool) (i : InputId) : State :=
  let x := s.input i
  let raw := (s.cfg.inputs.get i).polarity.rawLevel (lines.get i)
  if x.sampledNow then s.setInput i { x with raw := raw, sampledNow := false }
  else s.setInput i (x.sample (s.debounce i) raw)

/-- The four inputs are sampled (R187). -/
def State.sampleInputs (s : State) (lines : PerInput Bool) : State :=
  allInputs.foldl (fun t i => t.sampleInput lines i) s

/-- A seeding or a change of level is handed on (R187): IGN to the arbiter (R11) and the gauge unit (R142), BRAKE and
HAZARD to the arbiter as L's claims (R10); START to the supervisor, which enters CRANK or returns to NORMAL at that
moment, between samples (R115, R116). -/
def State.levelHandOn (s : State) (i : InputId) (active : Bool) : State :=
  match i with
  | .ign => s.ignitionChanged.gaugesIgnition active
  | .brake => s.localClaim .stop active
  | .hazard => s.localClaim .hazard active
  | .start => s.settleCrank

/-- The filtered level of an input is set and handed on. A seeding as inactive changes no claim and no result. A crank
state that an earlier level of START had made due is taken before the new level (R115, R116; log 26). -/
def State.setLevel (s : State) (i : InputId) (level early : Bool) : State :=
  let t := s.whenDue (i == .start) State.settleSupply
  (t.setInput i { raw := level, filtered := some level, run := 0, sampledNow := early }).levelHandOn i level

/-- The run of an unseeded input has reached the debounce count (R187). A seeding at the start at which STARTING ends
falls after the part has become ACTIVE (R189). -/
def State.seedDue (s : State) (i : InputId) : Bool :=
  s.running && !s.startingDue && (s.input i).filtered.isNone && decide (s.debounce i ≤ (s.input i).run)

/-- The run reaches the debounce count with the sample of the coming start, which that start must then bring (R187,
R189; log 3). -/
def State.seedEarly (s : State) (i : InputId) : Bool :=
  s.running && s.boundary && !s.startingDue && !s.startingEarly && (s.input i).filtered.isNone &&
    decide ((s.input i).run ≠ 0) && decide ((s.input i).run + 1 = s.debounce i)

/-- INPUT_SEED (R187): the filtered level is seeded at the level of the run. -/
def execInputSeed (i : InputId) (s : State) : Host.Outcome State Fault Refusal :=
  .next (if s.seedDue i then s.setLevel i (s.input i).raw false
    else if s.seedEarly i then s.setLevel i (s.input i).raw true
    else s)

/-- The level a seeded input's run leads to: the other one, once the run has reached the debounce count (R187). -/
def State.changeDue (s : State) (i : InputId) : Option Bool :=
  match (s.input i).filtered with
  | none => none
  | some l => if s.running ∧ s.debounce i ≤ (s.input i).run then some (!l) else none

/-- The level to which the sample of the coming start leads, which that start must then bring (R187; log 3). -/
def State.changeEarly (s : State) (i : InputId) : Option Bool :=
  match (s.input i).filtered with
  | none => none
  | some l =>
    if s.running ∧ s.boundary ∧ (s.input i).sampledNow = false ∧ (s.input i).run + 1 = s.debounce i then some (!l)
    else none

/-- A seeding or a change of level that the run of an input has brought is taken (R187). -/
def State.settleInput (s : State) (i : InputId) : State :=
  if s.seedDue i then s.setLevel i (s.input i).raw false
  else
    match s.changeDue i with
    | some l => s.setLevel i l false
    | none => s

/-- Every seeding and change of level of the given inputs that has fallen due is taken (R187), after the end of STARTING
(R189). -/
def State.settleInputsOf (s : State) (ids : List InputId) : State :=
  ids.foldl State.settleInput (s.whenDue s.startingDue State.startingDone)

/-- Every seeding and change of level that has fallen due is taken (R187), after the end of STARTING (R189). -/
def State.settleInputs (s : State) : State := s.settleInputsOf allInputs

/-- FILTERED_LEVEL_CHANGE (R187). -/
def execFilteredLevelChange (i : InputId) (s : State) : Host.Outcome State Fault Refusal :=
  .next (match s.changeDue i with
    | some l => s.setLevel i l false
    | none =>
      match s.changeEarly i with
      | some l => s.setLevel i l true
      | none => s)

end Sys2Proof.Machine
end

