-- ==== Sys2Proof/Machine/SequencerOps.lean ====
section
/-! DEFINITION. The measurement sequencer (chapter 7): the requests of a period, conversions
and abandonments. -/

namespace Sys2Proof.Machine
open Sys2Proof

/-! ### Requests of a period -/

/-- The trigger step of a channel: its phase plus half its applied duty, modulo 250 (R128); on the fan channel its phase
plus 125, modulo 250 (R129). -/
def State.chanTrigger (s : State) (c : Channel) : Nat :=
  if s.isFan c then ((s.chRec c).phase + 125) % 250 else ((s.chRec c).phase + (s.chan c).applied / 2) % 250

/-- A channel posts a request: it has taken up its demand in INRUSH or RUN with an applied duty above 0 (R128). -/
def State.chanPosts (s : State) (c : Channel) : Bool :=
  ((s.chan c).st == .inrush || (s.chan c).st == .run) && decide (0 < (s.chan c).applied)

/-- The gauge slots for which a sender input is due at this start (R130). -/
def State.dueSlots (s : State) (x : Sender) : List GaugeId :=
  allGauges.filter fun g =>
    (s.gaugeRec g).enabled && (s.gaugeRec g).mode == .table && (s.gauge g).st != .off && (s.gaugeRec g).sender == x &&
      decide (s.seq.periodCount % (s.gaugeRec g).divisor = 0)

/-- The requests of a period (R127 to R130): the bus at step 0, the channels that post, and the senders that are due at
steps 200 to 202. -/
def State.periodRequests (s : State) : List Request :=
  { src := .bus, trigger := 0, slots := [] } ::
    (((allChannels.filter s.chanPosts).map fun c => { src := .channel c, trigger := s.chanTrigger c, slots := [] }) ++
      (([Sender.s1, .s2, .s3].filter fun x => !(s.dueSlots x).isEmpty).map fun x =>
        { src := .sender x, trigger := 200 + x.idx, slots := s.dueSlots x }))

/-- The period's requests are posted and the converter is free (R125, R127). -/
def State.postRequests (s : State) : State := s.setSeq { s.seq with requests := s.periodRequests, served := none }

/-! ### Conversions -/

/-- The top of a source's range (R125). -/
def rangeTop : Source → Nat
  | .bus => 25000
  | .channel _ => 40000
  | .sender _ => 20000

/-- The averaging stage of the fan channel (R129): the mean of the currents of the most recent 250 drive steps. Where it
is no whole number of mA its rounding is free (log 42). -/
def State.fanMean (s : State) : Nat :=
  s.seq.sense.sum / 250 +
    if s.seq.sense.sum % 250 ≠ 0 ∧ Config.averageRoundsUp s.seq.sense.sum = true then 1 else 0

/-- What a conversion of a source reads (R125, R129): the quantity at the source, on the fan channel the average of the
stage, up to the top of the range. -/
def State.reading (s : State) (src : Source) (quantity : Nat) : Nat :=
  match src with
  | .channel c => min 40000 (if s.isFan c then s.fanMean else quantity)
  | .bus => min (rangeTop .bus) quantity
  | .sender x => min (rangeTop (.sender x)) quantity

/-- A request is served at the present step (R131, R134): it leaves the list, its reading is the source's last value,
marked FRESH, and the converter is busy for the step. -/
def State.serve (s : State) (x : Source) (v : Nat) : State :=
  s.setSeq { s.seq with
    requests := s.seq.requests.filter (fun r => r.src != x),
    served := some s.stepNow,
    values := s.seq.values.set x.number ⟨some v, .fresh⟩ }

/-- A fresh reading is handed to its consumers (R133). -/
def State.consume (s : State) (r : Request) (v : Nat) : State :=
  match r.src with
  | .bus => s.busSample v
  | .channel c => (s.openLoad c v).fanSample c v
  | .sender _ => r.slots.foldl (fun t g => t.gaugeReading g v) s

/-- CONVERSION_DONE (R131, R133): the source's request is served at the present step (R125, R129). -/
def execConversionDone (src : Source) (quantity : Nat) (s : State) : Host.Outcome State Fault Refusal :=
  .next (match s.request? src with
    | none => s
    | some r =>
      if s.servesNow r then (s.serve src (s.reading src quantity)).consume r (s.reading src quantity) else s)

/-! ### Abandonment -/

/-- The next step at which the converter is free. -/
def State.nextFree (s : State) : Nat :=
  match s.clock with
  | .awaiting => 0
  | .started => 0
  | .step n => if s.seq.served = some n then n + 1 else n

/-- A request can no longer be served: its window is empty, or ends before the converter can reach it (R132).
DESIGN CHOICE (log 49): R132 has a blocked request abandoned at the last step of its window, or when the request ahead of
it is served at or after that step, and 7.6 puts channel 13's at step 203, past its window. It falls due here as soon as
no step is left for it, once the converter has been taken for the last step of its window, and the next drive step takes
it at its beginning, before the conversion of that step. -/
def State.unservable (s : State) (r : Request) : Bool :=
  match s.windowEnd r with
  | none => true
  | some e => decide (e < max r.trigger s.nextFree)

/-- REQUEST_ABANDON (R132): the source keeps its value, marked HELD; no consumer counts it (R133). -/
def execRequestAbandon (src : Source) (s : State) : Host.Outcome State Fault Refusal :=
  .next (match s.request? src with
    | none => s
    | some r => if s.running ∧ s.unservable r then s.abandon src else s)

/-- Every request that can no longer be served is abandoned. -/
def State.abandonUnservable (s : State) : State :=
  (s.seq.requests.filter s.unservable).foldl (fun t r => t.abandon r.src) s

end Sys2Proof.Machine
end

