-- ==== Sys2Proof/Machine/LinkOps.lean ====
section
/-! DEFINITION. The link ports (chapter 10): octets into frames, the check, acceptance, the parse of a body, and the
reply. -/

namespace Sys2Proof.Machine
open Sys2Proof

/-! ### Codes (R183) -/

def syncOctet : Byte := 0xA5#8
def requestKind : Byte := 0x51#8
def resultKind : Byte := 0x52#8
def broadcastAddress : Nat := 127

/-- A number as two octets, the high octet first (R183). -/
def twoOctets (n : Nat) : List Byte := [BitVec.ofNat 8 (n / 256), BitVec.ofNat 8 n]

/-- A bit of an octet, from its least significant. -/
def flagAt (b : Bool) (i : Nat) : Nat := if b then 2 ^ i else 0

def ChKind.code : ChKind → Byte
  | .none => 0 | .lamp => 1 | .gauge => 2 | .motor => 3

def ChState.code : ChState → Byte
  | .off => 0 | .waiting => 1 | .inrush => 2 | .run => 3 | .cooling => 4 | .latched => 5

def Mark.code : Mark → Byte
  | .none => 0 | .fresh => 1 | .held => 2

def FlashState.code : FlashState → Byte
  | .idle => 0 | .onPhase => 1 | .offPhase => 2

/-! ### CRC -/

/-- One bit of the CRC's shift: the polynomial x^16 + x^12 + x^5 + 1 (R171). -/
def crcShift (c : BitVec 16) : BitVec 16 := if c.msb then (c <<< 1) ^^^ 0x1021#16 else c <<< 1

/-- An octet enters the CRC, most significant bit first (R171). -/
def crcOctet (c : BitVec 16) (b : Byte) : BitVec 16 := Nat.repeat crcShift 8 (c ^^^ (b.zeroExtend 16 <<< 8))

/-- The CRC of octets, from 0xFFFF, with no final inversion (R171). -/
def crc (octets : List Byte) : BitVec 16 := octets.foldl crcOctet 0xFFFF#16

/-! ### Receive assembly -/

/-- The assembly of a port returns to HUNT with an idle count. -/
def State.hunt (s : State) (p : Port) (idle : Nat) : State :=
  s.setPort p { s.port p with assembly := .hunt, idle := idle }

/-- The octet is a framing fault, or a length that no frame has (R169, R170). -/
def FramingFault.real : FramingFault → Bool
  | .noStopBit => true
  | .bodyLength n => decide (maxBody < n.toNat)

/-! ### Acceptance -/

/-- A frame taken from its octets after the sync (R183): destination, source, kind, body and check octets. -/
structure RawFrame where
  dest : Byte
  source : Byte
  kind : Byte
  body : List Byte
  good : Bool
deriving DecidableEq, Repr

/-- The octets of a frame, read (R170, R171, R183); `none` where they have not the shape of one. -/
def readFrame (octets : List Byte) : Option RawFrame :=
  if frameShape octets then
    match octets with
    | d :: a :: k :: n :: rest =>
      let body := rest.take n.toNat
      some { dest := d, source := a, kind := k, body := body,
             good := rest.drop n.toNat == [(crc (d :: a :: k :: n :: body)).extractLsb' 8 8,
                                           (crc (d :: a :: k :: n :: body)).extractLsb' 0 8] }
    | _ => none
  else none

/-- Whether a destination is the part's, and then whether the frame is answered: the unit address is, a group address
in use and the broadcast address are not (R172). -/
def UnitRec.destination (r : UnitRec) (dest : Nat) : Option Bool :=
  if dest = r.address then some true
  else if (r.group1 ≠ 0 ∧ dest = r.group1) ∨ (r.group2 ≠ 0 ∧ dest = r.group2) ∨ dest = broadcastAddress then some false
  else none

/-- The slot bound to a port with a source address (R172). Where two slots have the same, the first of A, B and C
(log 47). -/
def State.slotOf (s : State) (p : Port) (source : Nat) : Option SlotId :=
  allSlots.find? fun m => (s.slotRec m).port == p && (s.slotRec m).source == source

/-- A frame is accepted (R172): it takes the tail place, acts on its slot (R19) and restarts the quiet count (R190). -/
def State.accept (s : State) (p : Port) (f : Frame) : State :=
  let t := (s.setPort p { s.port p with queue := (s.port p).queue ++ [f] }).hear f.slot
  t.setPower { t.power with quiet := 0 }

/-- A frame's last check octet has been taken: the assembly returns to HUNT, and the frame is judged by its check
(R171), its addresses and the room in the queue (R172). -/
def State.judge (s : State) (p : Port) (f : RawFrame) : State :=
  let t := s.hunt p 0
  if f.good then
    match t.cfg.unit.destination f.dest.toNat, t.slotOf p f.source.toNat with
    | some answered, some m =>
      if (t.port p).queue.length < 2 then
        t.accept p { answered := answered, slot := m, source := f.source, kind := f.kind, body := f.body }
      else t.setPort p { t.port p with overrun := true }
    | _, _ => t
  else t

/-! ### The parse of a body -/

/-- Claim pairs of a content of even length (R174, R183). -/
def pairsOf : List Byte → Option (List (Byte × Byte))
  | [] => some []
  | [_] => none
  | f :: v :: rest => (pairsOf rest).map ((f, v) :: ·)

/-- A CLEAR content of at least 1 octet: a list of channels after a first octet of 0, an event set of two octets after
a first octet of 1 (R177, R183). -/
def clearOf : List Byte → Option Item
  | [] => none
  | h :: rest =>
    if h = 0#8 then some (.clearChannels rest)
    else if h = 1#8 then
      match rest with
      | [a, b] => some (.clearEvents a b)
      | _ => some (.clearOther (h :: rest))
    else some (.clearOther (h :: rest))

/-- One request item of a kind octet and a content, where the kind exists and the length suits it (R174). -/
def itemOf (kind : Nat) (content : List Byte) : Option Item :=
  match kind, content with
  | 1, c => (pairsOf c).map .claim
  | 2, c => (pairsOf c).map .claimAll
  | 3, [k, i] => some (.read (Config.readKind k) i)
  | 4, b :: c => some (.config (Config.configContent (b :: c)))
  | 5, c => clearOf c
  | 6, [] => some .reset
  | _, _ => none

/-- A body divided into request items (R174). The first argument bounds their number. -/
def itemsOf : Nat → List Byte → Option (List Item)
  | _, [] => some []
  | n + 1, k :: len :: rest =>
    if len.toNat ≤ rest.length then
      match itemOf k.toNat (rest.take len.toNat), itemsOf n (rest.drop len.toNat) with
      | some i, some is => some (i :: is)
      | _, _ => none
    else none
  | _, _ => none

/-- The items of an accepted frame whose body parses (R174). -/
def Frame.items? (f : Frame) : Option (List Item) :=
  if f.kind = requestKind then itemsOf f.body.length f.body else none

/-! ### Replies -/

/-- The part state as the digest shows it. A reply is built only while the part runs. -/
def Part.code : Part → Nat
  | .starting => 0
  | .active => 1
  | .dormant => 1
  | .held => 0

def Flash.state (f : Flash) : FlashState :=
  match f.phase with
  | .idle _ _ => .idle
  | .onPhase _ => .onPhase
  | .offPhase _ => .offPhase

/-- The status digest of a slot on a port (R179, R183). -/
def State.digest (s : State) (p : Port) (m : SlotId) : List Byte :=
  let ev := (s.slot m).pending
  [ev.extractLsb' 0 8, (ev.extractLsb' 8 1).zeroExtend 8,
   BitVec.ofNat 8 (s.power.part.code + 4 * s.sup.shed + flagAt s.cranking 4 + flagAt (s.filtered .ign) 5 +
     flagAt (s.port p).overrun 6),
   s.flash.state.code]

/-- The CHANNEL read record (R183). -/
def ChannelReport.octets (r : ChannelReport) : List Byte :=
  [BitVec.ofNat 8 r.channel.number, r.kind.code, r.st.code, BitVec.ofNat 8 r.applied, BitVec.ofNat 8 r.demand,
   BitVec.ofNat 8 (flagAt (r.source == .flash) 0 + flagAt r.stop 1 + flagAt r.present 2 + flagAt r.following 3 +
     flagAt r.inWindow 4 + flagAt r.opening 5 + flagAt r.bulbOut 6 + flagAt r.hasTrip 7),
   BitVec.ofNat 8 (r.place + flagAt r.urgent 7), BitVec.ofNat 8 r.inrushTimer] ++ twoOctets r.coolOff ++
  [BitVec.ofNat 8 r.trips, BitVec.ofNat 8 (r.low + 16 * r.high)] ++ twoOctets (r.current.value.getD 0) ++
  [r.current.mark.code]

/-- The octets of a read record: R183 gives the CHANNEL record, Config stands for the others (log 10). -/
def ReadRecord.octets : ReadRecord → List Byte
  | .channel r => r.octets
  | r => Config.recordOctets r

/-- The octets of one item's answer: its status, and the length and the record of an OK read (R183). -/
def Answer.octets (a : Answer) : List Byte :=
  a.status.code :: (match a.record with
    | none => []
    | some r => BitVec.ofNat 8 r.octets.length :: r.octets)

/-- The body of a reply (R179). -/
def Reply.body (r : Reply) : List Byte := r.digest ++ r.answers.flatMap Answer.octets

/-- The octets of a reply on the line (R179, R171, R183). -/
def Reply.octets (r : Reply) : List Byte :=
  let inner := [r.dest, r.source, resultKind, BitVec.ofNat 8 r.body.length] ++ r.body
  syncOctet :: inner ++ [(crc inner).extractLsb' 8 8, (crc inner).extractLsb' 0 8]

/-- The reply to a frame with its answers (R179): to the frame's source, from the unit address, or from the one before
a UNIT record of this frame (R182). -/
def State.buildReply (s : State) (p : Port) (f : Frame) (r : Run) : Reply :=
  { dest := f.source, source := BitVec.ofNat 8 (r.oldAddress.getD s.cfg.unit.address), digest := s.digest p f.slot,
    answers := r.answers, showedOverrun := (s.port p).overrun, rateAfter := r.rateAfter, resetAfter := r.resetAfter }

/-- A new bit rate takes effect on a port, which returns to HUNT (R182). -/
def State.applyRate (s : State) (p : Port) : State :=
  if (s.port p).rate = s.cfg.unit.rates.get p then s
  else s.setPort p { s.port p with rate := s.cfg.unit.rates.get p, assembly := .hunt, idle := 0 }

/-- The new bit rates of both ports take effect (R182; log 32). -/
def State.applyRates (s : State) : State := allPorts.foldl State.applyRate s

/-- The frame at the head of a port's queue leaves it, with its execution and its reply (R173). -/
def State.leaveQueue (s : State) (p : Port) : State :=
  s.setPort p { s.port p with queue := (s.port p).queue.tail, run := none, reply := .quiet }

/-- What follows a frame that has left its queue: new bit rates (R182) and a COMMANDED reset (R178, R188). -/
def State.afterFrame (s : State) (rate reset : Bool) : State :=
  if reset then s.begin .commanded else if rate then s.applyRates else s

/-- The last item of the frame in execution has been executed (R173, R179): an answered frame's reply is built; an
unanswered frame, and an answered one whose reply is already abandoned, leaves the queue. -/
def State.finishFrame (s : State) (p : Port) : State :=
  match (s.port p).queue, (s.port p).run with
  | f :: _, some r =>
    if f.answered && !r.lost then
      s.setPort p { s.port p with run := none, reply := .built (s.buildReply p f r) }
    else (s.leaveQueue p).afterFrame r.rateAfter r.resetAfter
  | _, _ => s

/-- The item in execution is answered and leaves its frame; with a skip status every later item is answered with it
unexecuted (R175). With the last item the frame is finished. -/
def State.answer (s : State) (p : Port) (a : Option Answer) (skip : Option Status) : State :=
  match (s.port p).run with
  | none => s
  | some r =>
    let later := r.items.tail
    let r' : Run := match skip with
      | none => { r with items := later, answers := r.answers ++ a.toList }
      | some st =>
        { r with items := [], answers := r.answers ++ a.toList ++ later.map fun _ => ⟨st, none⟩ }
    let t := s.setPort p { s.port p with run := some r' }
    if r'.items.isEmpty then t.finishFrame p else t

/-- What a status of the item in execution asks for the later items (R175): once an item has been answered NO_ROOM, a
READ (R176) or a MAP record that finds no place (R29), they are NO_ROOM, unexecuted (log 50). -/
def Status.later (st : Status) : Option Status := if st = .noRoom then some .noRoom else none

/-- The item in execution is answered with a status alone (R175). -/
def State.answerStatus (s : State) (p : Port) (st : Status) : State := s.answer p (some ⟨st, none⟩) st.later

/-! ### Sending a reply -/

/-- The reply may begin (R179): at least 2 octet times and at most 5 ms after the request's last octet. -/
def replyTimely (rate : BitRate) (delay : Nat) : Bool := decide (20000000 ≤ delay * rate.bps) && decide (delay ≤ 5000)

/-- REPLY_START (R179): the reply's sync octet begins, on a line on which no frame is being assembled (R170, R180). -/
def execReplyStart (p : Port) (delay : Nat) (s : State) : Host.Outcome State Fault Refusal :=
  .next (match (s.port p).reply with
    | .built r =>
      if s.running ∧ replyTimely (s.port p).rate delay = true ∧ (s.port p).assembly = .hunt then
        s.setPort p { s.port p with reply := .sending r }
      else s
    | .quiet => s
    | .sending _ => s)

/-- REPLY_SENT (R179): the overrun flag is cleared if the digest showed it, the frame leaves the queue, the assembly is
in HUNT with its idle count at 0 (R170), and what the frame asked for follows. -/
def execReplySent (p : Port) (s : State) : Host.Outcome State Fault Refusal :=
  .next (match (s.port p).reply with
    | .sending r =>
      if s.running then
        let t := (s.leaveQueue p).hunt p 0
        (if r.showedOverrun then t.setPort p { t.port p with overrun := false } else t).afterFrame r.rateAfter
          r.resetAfter
      else s
    | .quiet => s
    | .built _ => s)

/-- A reply is abandoned (R180): the frame leaves the queue, the port returns to HUNT, the overrun flag stays, and what
the frame asked for follows. -/
def State.abandonReply (s : State) (p : Port) (r : Reply) : State :=
  ((s.leaveQueue p).hunt p 0).afterFrame r.rateAfter r.resetAfter

/-- The frame at the head of a port's queue is answered. -/
def State.headAnswered (s : State) (p : Port) : Bool :=
  match (s.port p).queue with
  | f :: _ => f.answered
  | [] => false

/-- A port owes a reply whose sync octet has not begun: the reply is built, or an answered frame is in execution and its
reply is not lost yet (R179, R180). -/
def State.owesReply (s : State) (p : Port) : Bool :=
  match (s.port p).reply, (s.port p).run with
  | .built _, _ => true
  | .quiet, some r => s.headAnswered p && !r.lost
  | .quiet, none => false
  | .sending _, _ => false

/-- The line of a port becomes active (R180): a reply whose sync octet has not begun is abandoned, and the port returns to
HUNT with its idle count at 0 (R170). The items of a frame still in execution go on, and its reply is lost. A frame that
is accepted and not yet in execution keeps its reply (log 21). -/
def State.lineActive (s : State) (p : Port) : State :=
  match (s.port p).reply, (s.port p).run with
  | .built r, _ => s.abandonReply p r
  | .quiet, some r =>
    if s.owesReply p then (s.setPort p { s.port p with run := some { r with lost := true } }).hunt p 0 else s
  | .quiet, none => s
  | .sending _, _ => s

/-- REPLY_ABANDON (R180): before the sync octet, by activity of the line; while sending, by an octet read back unlike the
one driven. -/
def execReplyAbandon (p : Port) (cause : AbandonCause) (s : State) : Host.Outcome State Fault Refusal :=
  .next (if s.running then
      match cause, (s.port p).reply with
      | .lineActive, _ => s.lineActive p
      | .readBack driven got, .sending r => if driven = got then s else s.abandonReply p r
      | .readBack _ _, _ => s
    else s)

/-- FRAME_ERROR (R174): a frame at the head whose body does not parse executes no item; an answered one is answered
FRAME_ERROR, an unanswered one leaves the queue. -/
def execFrameError (p : Port) (s : State) : Host.Outcome State Fault Refusal :=
  .next (match (s.port p).queue, (s.port p).run, (s.port p).reply with
    | f :: _, none, .quiet =>
      if s.running ∧ f.items? = none then
        (s.setPort p { s.port p with
          run := some { items := [], answers := [⟨.frameError, none⟩], oldAddress := none, rateAfter := false,
                        resetAfter := false, lost := false } }).finishFrame p
      else s
    | _, _, _ => s)

/-! ### Events of the line -/

/-- SYNC (R170): in HUNT, 0xA5 after at least 2 octet times of idle line begins a frame; any other octet is ignored and
the idle count starts again. An octet on the line of a port that owes a reply loses that reply instead (R180; log 23);
none is taken from the line while a reply is sent. -/
def execSync (p : Port) (octet : Byte) (idle : Nat) (s : State) : Host.Outcome State Fault Refusal :=
  .next (if s.running ∧ (s.port p).assembly = .hunt then
      if s.owesReply p then s.lineActive p
      else
        match (s.port p).reply with
        | .sending _ => s
        | .built _ | .quiet =>
          if octet = syncOctet ∧ 2 ≤ (s.port p).idle + idle then
            s.setPort p { s.port p with assembly := .assembling, idle := 0 }
          else s.hunt p 0
    else s)

/-- FRAME_ABANDON_IDLE (R170): more than 4 octet times of idle inside a frame abandon it; the line has been idle since
(log 22). A reply owed meanwhile is lost with it (R180; log 23). -/
def execFrameAbandonIdle (p : Port) (idle : Nat) (s : State) : Host.Outcome State Fault Refusal :=
  .next (if s.running ∧ (s.port p).assembly = .assembling ∧ 4 < idle then (s.hunt p idle).lineActive p else s)

/-- FRAMING_FAULT (R170): the frame being assembled is abandoned; in HUNT an octet without its stop bit is ignored, and
the idle line is counted from it. A reply owed is lost (R180; log 23). -/
def execFramingFault (p : Port) (fault : FramingFault) (s : State) : Host.Outcome State Fault Refusal :=
  .next (if s.running ∧ FramingFault.real fault = true then
      match (s.port p).assembly, (s.port p).reply with
      | .assembling, _ => (s.hunt p 0).lineActive p
      | .hunt, .sending _ => s
      | .hunt, _ => if fault = .noStopBit then (s.hunt p 0).lineActive p else s
      | .watching, _ => s
    else s)

/-- FRAME_RECEIVED (R170 to R172). A reply built, or owed by a frame in execution, while the frame was taken is lost with
it, and an overrun then stays reported (R180; log 23). Octets that are no frame are refused (log 31). -/
def execFrameReceived (p : Port) (octets : List Byte) (s : State) : Host.Outcome State Fault Refusal :=
  match readFrame octets with
  | none => .refused .noFrame
  | some f => .next (if s.running ∧ (s.port p).assembly = .assembling then (s.judge p f).lineActive p else s)

end Sys2Proof.Machine
end

