-- ==== Sys2Proof/Machine/Items.lean ====
section
/-! DEFINITION. The items of a frame other than CONFIG: claims, reads, clears and resets (chapters 1, 10). An item
command executes the next item of the frame in execution on its port, where that item is of its kind (log 8). -/

namespace Sys2Proof.Machine
open Sys2Proof

/-- The frame in execution on a port and its next item; none while the part does not run. -/
def State.itemOn (s : State) (p : Port) : Option (Frame × Item) :=
  if s.running then
    match (s.port p).queue, (s.port p).run with
    | f :: _, some r => r.items.head?.map fun i => (f, i)
    | _, _ => none
  else none

/-! ### Claims -/

/-- CLAIM (R7): the pairs are executed if every one names a function that exists. -/
def State.claimItem (s : State) (p : Port) (m : SlotId) (pairs : List (Byte × Byte)) : State :=
  if pairsKnown pairs then (s.claimPairs m pairs).answerStatus p (pairsStatus pairs) else s.answerStatus p .badItem

def execClaim (p : Port) (s : State) : Host.Outcome State Fault Refusal :=
  .next (match s.itemOn p with
    | some (f, .claim pairs) => s.claimItem p f.slot pairs
    | _ => s)

/-- CLAIM_ALL (R8): the slot's column comes to match the list. -/
def State.claimAllItem (s : State) (p : Port) (m : SlotId) (pairs : List (Byte × Byte)) : State :=
  if pairsKnown pairs then (s.claimColumn m pairs).answerStatus p (pairsStatus pairs) else s.answerStatus p .badItem

def execClaimAll (p : Port) (s : State) : Host.Outcome State Fault Refusal :=
  .next (match s.itemOn p with
    | some (f, .claimAll pairs) => s.claimAllItem p f.slot pairs
    | _ => s)

/-! ### Records read -/

/-- The CHANNEL record (R42, R69, R89, R134). -/
def State.channelReport (s : State) (c : Channel) : ChannelReport :=
  let ch := s.chan c
  { channel := c, kind := (s.chRec c).kind, st := ch.st, applied := ch.applied, demand := ch.demand, source := ch.source,
    stop := ch.stop, present := ch.present, following := s.follows c, inWindow := s.inWindow c, opening := ch.opening,
    bulbOut := ch.bulbOut, hasTrip := ch.tripRec.isSome, place := s.placeOf c, urgent := s.isUrgent c,
    inrushTimer := ch.inrushTimer.getD 0, coolOff := ch.coolOff.getD 0, trips := ch.trips, low := ch.low,
    high := ch.high, current := s.value (.channel c) }

/-- The claims of a slot's column. -/
def State.column (s : State) (m : SlotId) : List Claim := Fn.all.filterMap fun f => s.cell f m.claimant

/-- One entry of the SLOTS record (R24). -/
def State.slotReport (s : State) (m : SlotId) : SlotReport :=
  { st := (s.slot m).st, timer := if (s.slot m).st = .live then (s.slot m).timer else none,
    claims := (s.column m).length, orphaned := ((s.column m).filter fun c => c.orphaned).length,
    held := ((s.column m).filter fun c => c.hold.isSome).length }

/-- The GAUGE record (R154). -/
def State.gaugeReport (s : State) (g : GaugeId) : GaugeReport :=
  let v := s.gauge g
  let r := s.gaugeRec g
  { st := v.st, mode := r.mode, bound := r.bound, readings := v.ring.length, average := v.average, vt := v.vt,
    duty := v.duty, underdrive := v.under, faultRun := v.faultRun, recoveryRun := v.recoveryRun,
    timer := if v.st = .faultHold then v.timer else none, sender := s.value (.sender r.sender) }

/-- The SUPPLY record (R124). -/
def State.supplyReport (s : State) : SupplyReport :=
  { cls := s.cfg.unit.cls, raw := s.value .bus, vf := s.sup.vf, crank := s.sup.crank,
    counter := if s.cranking then s.sup.crankOut else s.sup.crankIn, shed := s.sup.shed, rise := s.sup.rise,
    fall := s.sup.fall, allowance := s.cfg.supply.allowance, windowSum := s.windowSum }

/-- The FLASHER record (R106). -/
def State.flasherReport (s : State) : FlasherReport :=
  { st := s.flash.state,
    startPending := match s.flash.phase with
      | .idle p _ => p
      | .onPhase _ => false
      | .offPhase _ => false,
    cycle := match s.flash.phase with
      | .idle _ _ => none
      | .onPhase cy => some cy
      | .offPhase cy => some cy,
    speed := s.flash.speed, demand := s.flashDemand, left := s.leftSide, right := s.rightSide,
    ticking := s.flash.tick.isSome }

/-- The FAN record (R168). -/
def State.fanReport (s : State) : FanReport :=
  { st := s.fan.st, channel := s.fanChannel, requested := s.fan.requested, capped := s.fan.capped,
    target := s.fan.target, capDuty := s.capDuty, ramp := s.fan.ramp, stallRun := s.fan.stallRun }

/-- One input of the INPUTS record (R187). -/
def State.inputReport (s : State) (i : InputId) : InputReport :=
  { raw := (s.input i).raw, filtered := (s.input i).filtered, run := (s.input i).run }

/-- The gauge slot of an index 1 to 3 (R176). -/
def gaugeOfIndex (n : Nat) : Option GaugeId :=
  match n with
  | 1 => some .g1
  | 2 => some .g2
  | 3 => some .g3
  | _ => none

/-- The map index of a number 0 to 31 (R25, R42). -/
def mapIndex? (n : Nat) : Option (Fin 32) := if h : n < 32 then some ⟨n, h⟩ else none

/-- The working copy of a configuration record at an index; `none` where the index is out of range (R176, R184). -/
def State.configRecord? (s : State) (k : ConfigKind) (idx : Byte) : Option ConfigRecord :=
  match k with
  | .unit => if idx = 0#8 then some (.unit s.cfg.unit) else none
  | .inputs => if idx = 0#8 then some (.inputs s.cfg.inputs) else none
  | .slot => (Config.slotOfIndex idx).map fun m => .slot m (s.slotRec m)
  | .function => (Fn.ofNat? idx.toNat).map fun f => .function f (s.fnRec f)
  | .channel => (Channel.ofNat? idx.toNat).map fun c => .channel c (s.chRec c)
  | .map => (mapIndex? idx.toNat).map fun i => .map i s.cfg.map[i]
  | .gauge => (gaugeOfIndex idx.toNat).map fun g => .gauge g (s.gaugeRec g)
  | .flasher => if idx = 0#8 then some (.flasher s.cfg.flasher) else none
  | .supply => if idx = 0#8 then some (.supply s.cfg.supply) else none
  | .fan => if idx = 0#8 then some (.fan s.cfg.fan) else none

/-- The record a READ names, as it stands; `none` where the index is out of its range (R176). -/
def State.record? (s : State) (k : ReadKind) (idx : Byte) : Option ReadRecord :=
  match k with
  | .channel => (Channel.ofNat? idx.toNat).map fun c => .channel (s.channelReport c)
  | .trip => (Channel.ofNat? idx.toNat).map fun c => .trip (s.chan c).tripRec
  | .function => (Fn.ofNat? idx.toNat).map fun f => .function (s.result f) s.claims[f.idx]
  | .gauge => (gaugeOfIndex idx.toNat).map fun g => .gauge (s.gaugeReport g)
  | .supply => if idx = 0#8 then some (.supply s.supplyReport) else none
  | .flasher => if idx = 0#8 then some (.flasher s.flasherReport) else none
  | .fan => if idx = 0#8 then some (.fan s.fanReport) else none
  | .slots => if idx = 0#8 then some (.slots ⟨s.slotReport .a, s.slotReport .b, s.slotReport .c⟩) else none
  | .inputs =>
    if idx = 0#8 then
      some (.inputs ⟨s.inputReport .ign, s.inputReport .brake, s.inputReport .hazard, s.inputReport .start⟩)
    else none
  | .resetCause => if idx = 0#8 then some (.resetCause s.power.lastReset s.power.brownOuts) else none
  | .config k => (s.configRecord? k idx).map .config

/-! ### READ -/

/-- The octets of a reply body already used (R176, R183). -/
def Run.used (r : Run) : Nat := 4 + (r.answers.map fun a => a.octets.length).sum

/-- A record fits in the reply (R176): room for its status, length and octets, and a status for every later item. -/
def Run.fits (r : Run) (v : ReadRecord) : Bool :=
  decide (r.used + 2 + v.octets.length + r.items.tail.length ≤ maxBody)

/-- A READ of a record kind and index (R175, R176): in an answered frame BAD_ITEM, NO_ROOM for it and every later item,
or OK with the record; in an unanswered frame nothing is read. -/
def State.readItem (s : State) (p : Port) (answered : Bool) (k : ReadKind) (idx : Byte) : State :=
  if answered then
    match s.record? k idx with
    | none => s.answerStatus p .badItem
    | some v =>
      if ((s.port p).run.map fun r => r.fits v) = some true then s.answer p (some ⟨.ok, some v⟩) none
      else s.answerStatus p .noRoom
  else s.answer p none none

/-- The item in execution is a READ of a kind: it is executed. -/
def State.readOf (s : State) (p : Port) (isKind : ReadKind → Bool) : State :=
  match s.itemOn p with
  | some (f, .read (some k) idx) => if isKind k then s.readItem p f.answered k idx else s
  | _ => s

def execReadChannel (p : Port) (s : State) : Host.Outcome State Fault Refusal := .next (s.readOf p (· == .channel))
def execReadTrip (p : Port) (s : State) : Host.Outcome State Fault Refusal := .next (s.readOf p (· == .trip))
def execReadFunction (p : Port) (s : State) : Host.Outcome State Fault Refusal := .next (s.readOf p (· == .function))
def execReadSlots (p : Port) (s : State) : Host.Outcome State Fault Refusal := .next (s.readOf p (· == .slots))
def execReadGauge (p : Port) (s : State) : Host.Outcome State Fault Refusal := .next (s.readOf p (· == .gauge))
def execReadSupply (p : Port) (s : State) : Host.Outcome State Fault Refusal := .next (s.readOf p (· == .supply))
def execReadFlasher (p : Port) (s : State) : Host.Outcome State Fault Refusal := .next (s.readOf p (· == .flasher))
def execReadFan (p : Port) (s : State) : Host.Outcome State Fault Refusal := .next (s.readOf p (· == .fan))
def execReadInputs (p : Port) (s : State) : Host.Outcome State Fault Refusal := .next (s.readOf p (· == .inputs))
def execReadResetCause (p : Port) (s : State) : Host.Outcome State Fault Refusal :=
  .next (s.readOf p (· == .resetCause))

/-- A READ of a configuration record. -/
def ReadKind.isConfig : ReadKind → Bool
  | .config _ => true
  | .channel | .trip | .function | .gauge | .supply | .flasher | .fan | .slots | .inputs | .resetCause => false

def execReadConfigurationRecord (p : Port) (s : State) : Host.Outcome State Fault Refusal :=
  .next (s.readOf p ReadKind.isConfig)

/-! ### CLEAR and RESET -/

/-- A named channel is released if it is LATCHED (R80). -/
def State.clearChannel (s : State) (b : Byte) : State :=
  match Channel.ofNat? b.toNat with
  | none => s
  | some c => if (s.chan c).st = .latched then s.release c else s

/-- CLEAR of channels (R177): the CLEAR right, then the channels' numbers. -/
def State.clearChannelsItem (s : State) (p : Port) (m : SlotId) (list : List Byte) : State :=
  if (s.slotRec m).rights.clear = false then s.answerStatus p .notPermitted
  else if list.all fun b => (Channel.ofNat? b.toNat).isSome then (list.foldl State.clearChannel s).answerStatus p .ok
  else s.answerStatus p .badItem

def execClearChannels (p : Port) (s : State) : Host.Outcome State Fault Refusal :=
  .next (match s.itemOn p with
    | some (f, .clearChannels list) => s.clearChannelsItem p f.slot list
    | _ => s)

/-- CLEAR of events (R177): a set with an unused bit is refused; else its kinds leave the requesting slot's set. -/
def State.clearEventsItem (s : State) (p : Port) (m : SlotId) (low high : Byte) : State :=
  if high.extractLsb' 1 7 = 0#7 then
    (s.setSlot m { s.slot m with pending := (s.slot m).pending &&& ~~~(high.extractLsb' 0 1 ++ low) }).answerStatus p .ok
  else s.answerStatus p .badValue

def execClearEvents (p : Port) (s : State) : Host.Outcome State Fault Refusal :=
  .next (match s.itemOn p with
    | some (f, .clearEvents low high) => s.clearEventsItem p f.slot low high
    | _ => s)

/-- A store write is in flight, or a RESET answered OK awaits its reset (R175, R178). -/
def State.storeBusy (s : State) : Bool := s.storeWrite.isSome || s.power.resetDue

/-- RESET (R178): NOT_PERMITTED, BUSY, or OK, with every later item BUSY and the COMMANDED reset after the reply. -/
def State.resetItem (s : State) (p : Port) (m : SlotId) : State :=
  if (s.slotRec m).rights.reset = false then s.answerStatus p .notPermitted
  else if s.storeBusy then s.answerStatus p .busy
  else
    let t := s.setPower { s.power with resetDue := true }
    (t.setPort p { t.port p with run := (t.port p).run.map fun r => { r with resetAfter := true } }).answer p
      (some ⟨.ok, none⟩) (some .busy)

def execReset (p : Port) (s : State) : Host.Outcome State Fault Refusal :=
  .next (match s.itemOn p with
    | some (f, .reset) => s.resetItem p f.slot
    | _ => s)

end Sys2Proof.Machine
end

