-- ==== Sys2Proof/Machine/Configs.lean ====
section
/-! DEFINITION. CONFIG items: the checks and clamps of each record's write rule, its application, and the store write
that begins with it (R175, R185). -/

namespace Sys2Proof.Machine
open Sys2Proof

/-- The outcome of a record's own checks: refused with a status, or the record to apply and whether it was clamped. -/
inductive Verdict (α : Type) where
  | refused (st : Status)
  | accepted (r : α) (clamped : Bool)
deriving DecidableEq, Repr

/-- The tests every CONFIG item meets, in their order (R175, R185). -/
def State.configTest (s : State) (m : SlotId) : Option Status :=
  if (s.slotRec m).rights.config = false then some .notPermitted
  else if s.filtered .ign then some .ignitionOn
  else if s.storeBusy then some .busy
  else none

/-- A CONFIG item is executed (R185): refused at a test, or applied, with a store write of the record begun. `skip`
answers the later items where an accepted record asks for it (R22). -/
def State.configItem {α : Type} (s : State) (p : Port) (m : SlotId) (v : Verdict α) (apply : State → α → State)
    (record : α → ConfigRecord) (skip : α → Option Status) : State :=
  match s.configTest m with
  | some st => s.answerStatus p st
  | none =>
    match v with
    | .refused st => s.answerStatus p st
    | .accepted r clamped =>
      ((apply s r).setStoreWrite (some (record r))).answer p (some ⟨if clamped then .clamped else .ok, none⟩) (skip r)

/-- No later item is skipped. -/
def noSkip {α : Type} (_ : α) : Option Status := none

/-- A CONFIG item of the wrong length for its record kind (R174). -/
def State.configLength (s : State) (p : Port) (m : SlotId) : State :=
  match s.configTest m with
  | some st => s.answerStatus p st
  | none => s.answerStatus p .badValue

/-! ### UNIT -/

/-- The checks of a UNIT record (R107, R182, R184). -/
def checkUnit (w : WUnit) : Verdict UnitRec :=
  match w.rate1, w.rate2, w.cls with
  | some r1, some r2, some cls =>
    let r : UnitRec :=
      { address := clampTo 1 126 w.address, group1 := min 126 w.group1, group2 := min 126 w.group2, rates := ⟨r1, r2⟩,
        cls := cls, dormantDelay := clampTo 1000 120000 w.dormantDelay }
    if r.groupsClash then .refused .badValue
    else .accepted r (r.address != w.address || r.group1 != w.group1 || r.group2 != w.group2 ||
      r.dormantDelay != w.dormantDelay)
  | _, _, _ => .refused .badValue

/-- A slot's stabilised target becomes the default of a class (R140). -/
def State.retarget (s : State) (cls : VClass) : State :=
  s.setCfg { s.cfg with gauges := allGauges.foldl (fun t g => t.set g { t.get g with target := cls.target }) s.cfg.gauges }

/-- A change of the voltage class (R110, R140), once a crank state that START has brought is taken (R115, R116). -/
def State.changeClass (s : State) (cls : VClass) : State :=
  if cls = s.cfg.unit.cls then s else (s.settleSupply.retarget cls).applySupply (SupplyRec.default cls)

/-- A UNIT record is applied (R182): addresses at once; bit rates after the reply, or at once where the frame is
unanswered; the reply keeps the old unit address. -/
def State.applyUnit (s : State) (p : Port) (answered : Bool) (r : UnitRec) : State :=
  let old := s.cfg.unit
  let t := s.changeClass r.cls
  let u := t.setCfg { t.cfg with unit := r }
  if answered then
    u.setPort p { u.port p with run := (u.port p).run.map fun x =>
      { x with oldAddress := some (x.oldAddress.getD old.address), rateAfter := x.rateAfter || decide (r.rates ≠ old.rates) } }
  else u.applyRates

def execConfigUnit (p : Port) (s : State) : Host.Outcome State Fault Refusal :=
  .next (match s.itemOn p with
    | some (f, .config (.unit w)) =>
      s.configItem p f.slot (checkUnit w) (fun t r => t.applyUnit p f.answered r) .unit noSkip
    | some (f, .config (.wrongLength .unit)) => s.configLength p f.slot
    | _ => s)

/-! ### INPUTS -/

/-- One input's fields, clamped, and whether they were; `none` for a polarity that is neither (R187). -/
def checkInput (w : WInput) : Option (InputRec × Bool) :=
  w.polarity.map fun q => ({ polarity := q, debounce := clampTo 2 16 w.debounce }, clampTo 2 16 w.debounce != w.debounce)

/-- The checks of an INPUTS record (R187). -/
def checkInputs (w : PerInput WInput) : Verdict (PerInput InputRec) :=
  match checkInput w.ign, checkInput w.brake, checkInput w.hazard, checkInput w.start with
  | some a, some b, some c, some d => .accepted ⟨a.1, b.1, c.1, d.1⟩ (a.2 || b.2 || c.2 || d.2)
  | _, _, _, _ => .refused .badValue

/-- Every run count becomes 0, and the filtered levels stay (R187). -/
def State.restartRuns (s : State) : State := allInputs.foldl (fun t i => t.setInput i { t.input i with run := 0 }) s

/-- An INPUTS record is applied (R187). A seeding or a change of level that the samples already taken have brought comes
before it, so that the runs it restarts lose none (log 48). -/
def State.applyInputs (s : State) (r : PerInput InputRec) : State :=
  let t := s.settleInputs
  (t.setCfg { t.cfg with inputs := r }).restartRuns

/-- The checks of an INPUTS record after the samples already taken: filtered IGN, where they make it active, refuses it
as the test of R175 does (R185, R187; log 48). -/
def State.judgeInputs (s : State) (w : PerInput WInput) : Verdict (PerInput InputRec) :=
  if s.settleInputs.filtered .ign then .refused .ignitionOn else checkInputs w

/-- The sample of the coming drive period start has been taken ahead of it for an input (R187; log 3). -/
def State.sampledAhead (s : State) : Bool := allInputs.any fun i => (s.input i).sampledNow

/-- An INPUTS item that passes the tests of R175 stands, once a sample of the coming start has been taken, behind that
start, which brings the other inputs' samples of the same moment: it has no effect until then (R187; log 48). -/
def execConfigInputs (p : Port) (s : State) : Host.Outcome State Fault Refusal :=
  .next (match s.itemOn p with
    | some (f, .config (.inputs w)) =>
      if s.sampledAhead && (s.configTest f.slot).isNone then s
      else s.configItem p f.slot (s.judgeInputs w) State.applyInputs .inputs noSkip
    | some (f, .config (.wrongLength .inputs)) => s.configLength p f.slot
    | _ => s)

/-! ### SLOT -/

/-- An accepted frame of a slot stands in a request queue, other than the one in execution on a port (R22). -/
def State.frameWaits (s : State) (p : Port) (m : SlotId) : Bool :=
  allPorts.any fun q => (if q = p then (s.port q).queue.tail else (s.port q).queue).any fun f => f.slot == m

/-- A SLOT record changes its slot's port or source address. -/
def State.slotMoves (s : State) (m : SlotId) (r : SlotRec) : Bool :=
  r.port != (s.slotRec m).port || r.source != (s.slotRec m).source

/-- The checks of a SLOT record (R22; clamping before them and their order: log 29). -/
def State.checkSlot (s : State) (p : Port) (w : WSlot) : Verdict (SlotId × SlotRec) :=
  match w.slot with
  | none => .refused .badItem
  | some m =>
    match w.port with
    | none => .refused .badValue
    | some port =>
      let r : SlotRec :=
        { port := port, source := clampTo 1 126 w.source, rights := { w.rights with claim := true },
          timeout := clampTo 20 1000 w.timeout, mask := w.mask }
      if r.clashes (m.others.map s.slotRec) then .refused .badValue
      else if s.slotMoves m r && s.frameWaits p m then .refused .inUse
      else .accepted (m, r) (r.source != w.source || r.timeout != w.timeout || !w.rights.claim)

/-- The slot's column is emptied and it becomes UNHEARD; MASTER is raised if it had been heard (R22). -/
def State.forgetSlot (s : State) (m : SlotId) : State :=
  let t := s.clearColumn m
  let u := t.setSlot m { t.slot m with st := .unheard, timer := none }
  if (s.slot m).st = .unheard then u else u.raiseOthers m

/-- A SLOT record is applied (R22, R181). -/
def State.applySlot (s : State) (x : SlotId × SlotRec) : State :=
  let m := x.1
  let r := x.2
  let t := s.setCfg { s.cfg with slots := s.cfg.slots.set m r }
  let u := t.setSlot m { t.slot m with pending := (t.slot m).pending &&& r.mask }
  if s.slotMoves m r then u.forgetSlot m
  else if (u.slot m).st = .live ∧ r.timeout ≤ (u.slot m).timer.getD 0 then u.fallSilent m false
  else u

/-- A record that moves the requesting slot leaves the later items BUSY (R22). -/
def State.slotSkip (s : State) (requester : SlotId) (x : SlotId × SlotRec) : Option Status :=
  if x.1 = requester ∧ s.slotMoves x.1 x.2 = true then some .busy else none

def execConfigSlot (p : Port) (s : State) : Host.Outcome State Fault Refusal :=
  .next (match s.itemOn p with
    | some (f, .config (.slot w)) =>
      s.configItem p f.slot (s.checkSlot p w) State.applySlot (fun x => .slot x.1 x.2) (s.slotSkip f.slot)
    | some (f, .config (.wrongLength .slot)) => s.configLength p f.slot
    | _ => s)

/-! ### FUNCTION -/

/-- The six functions whose shed rank is forced to NEVER (R3). -/
def neverShed (f : Fn) : Bool :=
  f == .side || f == .headDip || f == .stop || f == .turnL || f == .turnR || f == .hazard

/-- The checks of a FUNCTION record (R3; a forced rank counts as clamped: log 41). -/
def checkFunction (w : WFunction) : Verdict (Fn × FunctionRec) :=
  match Fn.ofNat? w.fn with
  | none => .refused .badItem
  | some f =>
    match w.gate, w.policy, w.rank, w.combine with
    | some gate, some policy, some rank, some combine =>
      let order := w.order.filterMap id
      if w.order.length = 4 ∧ rankOrderOk order = true then
        let r : FunctionRec :=
          { gate := gate, policy := policy, hold := min 12000 w.hold, rank := if neverShed f then .never else rank,
            combine := combine, order := order }
        .accepted (f, r) (r.hold != w.hold || r.rank != rank)
      else .refused .badValue
    | _, _, _, _ => .refused .badValue

/-- An orphaned claim comes under a new FUNCTION record (R4). -/
def repolicied (old new : FunctionRec) (c : Claim) : Option Claim :=
  if c.orphaned = false then some c
  else if new.policy = old.policy then
    if new.policy = .hold ∧ new.hold = 0 then none else some { c with hold := c.hold.map (min new.hold) }
  else orphanedClaim new.policy new.hold c

/-- A FUNCTION record is applied (R4): the orphaned claims come under it, and the function is re-evaluated. -/
def State.applyFunction (s : State) (x : Fn × FunctionRec) : State :=
  let f := x.1
  let old := s.fnRec f
  let t := s.setCfg { s.cfg with functions := s.cfg.functions.set f.idx x.2 }
  (allClaimants.foldl (fun u k => u.setCell f k ((u.cell f k).bind (repolicied old x.2))) t).reevaluate f

def execConfigFunction (p : Port) (s : State) : Host.Outcome State Fault Refusal :=
  .next (match s.itemOn p with
    | some (f, .config (.function w)) =>
      s.configItem p f.slot (checkFunction w) State.applyFunction (fun x => .function x.1 x.2) noSkip
    | some (f, .config (.wrongLength .function)) => s.configLength p f.slot
    | _ => s)

/-! ### CHANNEL -/

/-- A CHANNEL record with its numbers clamped (R43, R44). -/
def WChannel.clamped (w : WChannel) (kind : ChKind) (protect : Protect) : ChannelRec :=
  let run := clampTo 100 32000 w.runLimit
  { kind := kind, phase := min 249 w.phase, rated := clampTo 50 16000 w.rated,
    inrushFactor := clampTo 1 12 w.inrushFactor, window := min 100 w.window, runLimit := run,
    inrushLimit := clampTo run 32000 w.inrushLimit, openThreshold := min 5000 w.openThreshold,
    blanking := min 50 w.blanking, protect := protect, retryLimit := clampTo 1 15 w.retryLimit,
    coolOff := clampTo 20 2000 w.coolOff, signalLamp := w.signalLamp }

/-- A record's numbers are not the ones written. -/
def WChannel.changedBy (w : WChannel) (r : ChannelRec) : Bool :=
  r.phase != w.phase || r.rated != w.rated || r.inrushFactor != w.inrushFactor || r.window != w.window ||
    r.runLimit != w.runLimit || r.inrushLimit != w.inrushLimit || r.openThreshold != w.openThreshold ||
    r.blanking != w.blanking || r.retryLimit != w.retryLimit || r.coolOff != w.coolOff

/-- The channel is in OFF: the IN_USE checks ask it (R29, R44, R139, R157). -/
def State.isOff (s : State) (c : Channel) : Bool := (s.chan c).st == .off

/-- The checks of a CHANNEL record (R44). -/
def State.checkChannel (s : State) (w : WChannel) : Verdict (Channel × ChannelRec) :=
  match Channel.ofNat? w.channel with
  | none => .refused .badItem
  | some c =>
    match w.kind, w.protect with
    | some kind, some protect =>
      if kindBreaksMap s.cfg c kind || kindLeavesGauge s.cfg c kind then .refused .badValue
      else if !s.isOff c then .refused .inUse
      else .accepted (c, w.clamped kind protect) (w.changedBy (w.clamped kind protect))
    | _, _ => .refused .badValue

/-- The protection unit's part in an applied CHANNEL record (R82, R84, R87). A flag that the low counter has brought
counts as set (log 2). -/
def State.resetHealth (s : State) (c : Channel) : State :=
  let t := s.modChan c fun ch => { ch with trips := 0, bulbOut := false, low := 0, high := 0 }
  if (s.chan c).bulbOut || s.bulbSetDue c then t.raise .bulb else t

/-- A CHANNEL record is applied (R45, R87). -/
def State.applyChannel (s : State) (x : Channel × ChannelRec) : State :=
  let c := x.1
  let t := s.setCfg { s.cfg with channels := s.cfg.channels.set c x.2 }
  (if x.2.kind = (s.chRec c).kind then t else t.recompute c).resetHealth c

def execConfigChannel (p : Port) (s : State) : Host.Outcome State Fault Refusal :=
  .next (match s.itemOn p with
    | some (f, .config (.channel w)) =>
      s.configItem p f.slot (s.checkChannel w) State.applyChannel (fun x => .channel x.1 x.2) noSkip
    | some (f, .config (.wrongLength .channel)) => s.configLength p f.slot
    | _ => s)

/-! ### MAP -/

/-- A contribution from its kind and level, and whether the level was clamped (R26, R29). -/
def contributionOf (k : ContribKind) (level : Nat) : Contribution × Bool :=
  match k with
  | .full => (.full, false)
  | .dim => (.dim (clampTo 1 249 level), clampTo 1 249 level != level)
  | .level => (.level, false)
  | .flash => (.flash, false)

/-- The entry at an index targets a channel that is not in OFF (R29). -/
def State.entryBusy (s : State) (i : Fin 32) : Bool :=
  match s.cfg.map[i] with
  | none => false
  | some e => !s.isOff e.chan

/-- The checks of a MAP record (R29). -/
def State.checkMap (s : State) (w : WMap) : Verdict (Fin 32 × Option MapEntry) :=
  match mapIndex? w.idx with
  | none => .refused .badItem
  | some i =>
    match w.entry with
    | none => if s.entryBusy i then .refused .inUse else .accepted (i, none) false
    | some e =>
      match Fn.ofNat? e.fn, Channel.ofNat? e.channel with
      | some f, some c =>
        match e.contrib with
        | none => .refused .badValue
        | some k =>
          let entry : MapEntry := { fn := f, chan := c, contrib := (contributionOf k e.level).1 }
          match mapRefusal s.cfg i entry with
          | some st => .refused st
          | none =>
            if !s.isOff c || s.entryBusy i then .refused .inUse
            else .accepted (i, some entry) (contributionOf k e.level).2
      | _, _ => .refused .badItem

/-- The fan unit takes a change of the fan channel by a MAP record (R160, R161): a channel that is no longer the fan
channel leaves the fan STOPPED, with no write; a channel that has become it starts the fan while T is above 0, and else
has the demand of a STOPPED fan, 0 STEADY (R36; log 46). -/
def State.fanChannelChanged (s : State) (old : Option Channel) : State :=
  if s.fanChannel = old then s
  else
    let t := if old.isSome then s.setFan { s.fan with st := .stopped, ramp := 0, stallRun := 0 } else s
    if t.fanChannel = none then t else if t.fan.target = 0 then t.fanStop else t.fanStartOrSuspend

/-- A MAP record is applied (R30): the entry is replaced, its channel and the one the entry before targeted are
recomputed, and the fan unit takes a change of the fan channel. -/
def State.applyMap (s : State) (x : Fin 32 × Option MapEntry) : State :=
  let before := (s.cfg.map[x.1]).map MapEntry.chan
  let now := x.2.map MapEntry.chan
  let t := s.setCfg { s.cfg with map := s.cfg.map.set x.1 x.2 }
  (t.recomputeWhere fun c => now == some c || before == some c).fanChannelChanged s.fanChannel

def execConfigMap (p : Port) (s : State) : Host.Outcome State Fault Refusal :=
  .next (match s.itemOn p with
    | some (f, .config (.map w)) =>
      s.configItem p f.slot (s.checkMap w) State.applyMap (fun x => .map x.1 x.2) noSkip
    | some (f, .config (.wrongLength .map)) => s.configLength p f.slot
    | _ => s)

/-! ### GAUGE -/

/-- A point of a table, clamped (R139). -/
def clampPoint (q : Nat × Nat) : Nat × Nat := (min 20000 q.1, min 12000 q.2)

/-- The bound channel a GAUGE record names: `none` where the number is no channel's (R139). -/
def boundOf : Option Nat → Option (Option Channel)
  | none => some none
  | some n => (Channel.ofNat? n).map some

/-- A GAUGE record with its numbers clamped and the working class as its tag (R139, R140). -/
def WGauge.clamped (w : WGauge) (enabled : Bool) (bound : Option Channel) (mode : GaugeMode) (sender : Sender)
    (tag : VClass) : GaugeRec :=
  { enabled := enabled, bound := bound, mode := mode, target := clampTo 3000 12000 w.target, sender := sender,
    table := w.table.map clampPoint, ringLength := clampTo 1 64 w.ringLength, divisor := clampTo 1 16 w.divisor,
    validLow := min 20000 w.validLow, validHigh := min 20000 w.validHigh, faultHold := min 2000 w.faultHold, tag := tag }

/-- A record's numbers are not the ones written. -/
def WGauge.changedBy (w : WGauge) (r : GaugeRec) : Bool :=
  r.target != w.target || r.table != w.table || r.ringLength != w.ringLength || r.divisor != w.divisor ||
    r.validLow != w.validLow || r.validHigh != w.validHigh || r.faultHold != w.faultHold

/-- A channel that may be bound is not in OFF (R139). -/
def State.boundBusy (s : State) (b : Option Channel) : Bool :=
  match b with
  | none => false
  | some c => !s.isOff c

/-- The checks of a GAUGE record (R139). -/
def State.checkGauge (s : State) (w : WGauge) : Verdict (GaugeId × GaugeRec) :=
  match w.gauge, boundOf w.bound with
  | some g, some bound =>
    match w.enabled, w.mode, w.sender with
    | some enabled, some mode, some sender =>
      let r := w.clamped enabled bound mode sender s.cfg.unit.cls
      if gaugeBad s.cfg g r then .refused .badValue
      else if s.boundBusy bound || s.boundBusy (s.gaugeRec g).bound then .refused .inUse
      else .accepted (g, r) (w.changedBy r)
    | _, _, _ => .refused .badValue
  | _, _ => .refused .badItem

/-- A GAUGE record is applied (R140): a channel the slot leaves has demand 0, with no enabled slot bound to it. -/
def State.applyGauge (s : State) (x : GaugeId × GaugeRec) : State :=
  let t := s.setCfg { s.cfg with gauges := s.cfg.gauges.set x.1 x.2 }
  match (s.gaugeRec x.1).bound with
  | none => t
  | some c => if x.2.bound = some c then t else t.recompute c

def execConfigGauge (p : Port) (s : State) : Host.Outcome State Fault Refusal :=
  .next (match s.itemOn p with
    | some (f, .config (.gauge w)) =>
      s.configItem p f.slot (s.checkGauge w) State.applyGauge (fun x => .gauge x.1 x.2) noSkip
    | some (f, .config (.wrongLength .gauge)) => s.configLength p f.slot
    | _ => s)

/-! ### FLASHER -/

/-- The checks of a FLASHER record (R103). -/
def checkFlasher (w : WFlasher) : Verdict FlasherRec :=
  match w.enable with
  | none => .refused .badValue
  | some enable =>
    let r : FlasherRec :=
      { period := clampTo 80 300 w.period, tone := clampTo 500 4000 w.tone, tick := clampTo 2 20 w.tick, enable := enable }
    .accepted r (r.period != w.period || r.tone != w.tone || r.tick != w.tick)

/-- A FLASHER record is applied (R104): each field acts at its next use. -/
def State.applyFlasher (s : State) (r : FlasherRec) : State := s.setCfg { s.cfg with flasher := r }

def execConfigFlasher (p : Port) (s : State) : Host.Outcome State Fault Refusal :=
  .next (match s.itemOn p with
    | some (f, .config (.flasher w)) => s.configItem p f.slot (checkFlasher w) State.applyFlasher .flasher noSkip
    | some (f, .config (.wrongLength .flasher)) => s.configLength p f.slot
    | _ => s)

/-! ### SUPPLY -/

/-- A SUPPLY record with its numbers clamped to the ranges of a class (R107, R108). -/
def WSupply.clamped (w : WSupply) : VClass → SupplyRec
  | .c12 =>
    { shed1 := clampTo 9000 14000 w.shed1, shed2 := clampTo 9000 14000 w.shed2, shed3 := clampTo 9000 14000 w.shed3,
      hysteresis := clampTo 50 1000 w.hysteresis, dwell := clampTo 20 4000 w.dwell,
      crankThreshold := clampTo 6000 11000 w.crankThreshold, crankMargin := clampTo 100 2000 w.crankMargin,
      allowance := clampTo 5000 60000 w.allowance, tag := .c12 }
  | .c6 =>
    { shed1 := clampTo 4500 7000 w.shed1, shed2 := clampTo 4500 7000 w.shed2, shed3 := clampTo 4500 7000 w.shed3,
      hysteresis := clampTo 25 500 w.hysteresis, dwell := clampTo 20 4000 w.dwell,
      crankThreshold := clampTo 4000 5500 w.crankThreshold, crankMargin := clampTo 50 1000 w.crankMargin,
      allowance := clampTo 5000 60000 w.allowance, tag := .c6 }

/-- A record's numbers are not the ones written. -/
def WSupply.changedBy (w : WSupply) (r : SupplyRec) : Bool :=
  r.shed1 != w.shed1 || r.shed2 != w.shed2 || r.shed3 != w.shed3 || r.hysteresis != w.hysteresis ||
    r.dwell != w.dwell || r.crankThreshold != w.crankThreshold || r.crankMargin != w.crankMargin ||
    r.allowance != w.allowance

/-- The checks of a SUPPLY record in a class (R108). -/
def checkSupply (cls : VClass) (w : WSupply) : Verdict SupplyRec :=
  if (w.clamped cls).thresholdsFall then .accepted (w.clamped cls) (w.changedBy (w.clamped cls)) else .refused .badValue

def execConfigSupply (p : Port) (s : State) : Host.Outcome State Fault Refusal :=
  .next (match s.itemOn p with
    | some (f, .config (.supply w)) =>
      s.configItem p f.slot (checkSupply s.cfg.unit.cls w) State.newSupply .supply noSkip
    | some (f, .config (.wrongLength .supply)) => s.configLength p f.slot
    | _ => s)

/-! ### FAN -/

/-- A FAN record with its numbers clamped (R156, R157). -/
def FanRec.clamped (w : FanRec) : FanRec :=
  { duty1 := clampTo 1 250 w.duty1, duty2 := clampTo 1 250 w.duty2, duty3 := clampTo 1 250 w.duty3,
    kickDuty := clampTo 1 250 w.kickDuty, kickTime := min 200 w.kickTime, rampRate := clampTo 1 25 w.rampRate,
    stallThreshold := clampTo 500 40000 w.stallThreshold, stallSamples := clampTo 2 200 w.stallSamples,
    cap0 := min 3 w.cap0, cap1 := min 3 w.cap1, cap2 := min 3 w.cap2, cap3 := min 3 w.cap3 }

/-- The checks of a FAN record (R157). -/
def State.checkFan (s : State) (w : FanRec) : Verdict FanRec :=
  if !w.clamped.dutiesRise then .refused .badValue
  else if s.boundBusy s.fanChannel then .refused .inUse
  else .accepted w.clamped (w.clamped != w)

/-- A FAN record is applied (R157): T is recomputed, and a fan that writes the kick duty writes the new one. -/
def State.applyFan (s : State) (r : FanRec) : State :=
  let t := (s.setCfg { s.cfg with fan := r }).fanRetarget
  if t.fan.st = .starting ∨ t.fan.st = .kick then t.fanWrite r.kickDuty else t

def execConfigFan (p : Port) (s : State) : Host.Outcome State Fault Refusal :=
  .next (match s.itemOn p with
    | some (f, .config (.fan w)) => s.configItem p f.slot (s.checkFan w) State.applyFan .fan noSkip
    | some (f, .config (.wrongLength .fan)) => s.configLength p f.slot
    | _ => s)

/-! ### Frames begin execution -/

/-- An item whose content names no row of the table (log 8): a READ of an unknown record kind is BAD_ITEM, a CONFIG of
one meets the tests of R175 and then BAD_ITEM, and a CLEAR of neither form has a status the manual leaves open
(log 12). -/
def State.rowlessItem (s : State) (p : Port) (f : Frame) (i : Item) : State :=
  match i with
  | .read none _ => if f.answered then s.answerStatus p .badItem else s.answer p none none
  | .config .unknown =>
    match s.configTest f.slot with
    | some st => s.answerStatus p st
    | none => s.answerStatus p .badItem
  | .clearOther content => s.answerStatus p (Config.malformedClear content)
  | _ => s

/-- The frame at the head of a port's queue begins execution with its items (R173, R174); one with no item is finished
at once. -/
def State.beginFrame (s : State) (p : Port) (items : List Item) : State :=
  let t := s.setPort p { s.port p with
    run := some { items := items, answers := [], oldAddress := none, rateAfter := false, resetAfter := false,
                  lost := false } }
  if items.isEmpty then t.finishFrame p else t

/-- FRAME_EXECUTE (R173): the frame at the head begins execution; in a frame in execution, an item that has no row of
its own is executed (log 8). -/
def execFrameExecute (p : Port) (s : State) : Host.Outcome State Fault Refusal :=
  .next (match s.itemOn p with
    | some (f, i) => s.rowlessItem p f i
    | none =>
      match (s.port p).queue, (s.port p).run, (s.port p).reply with
      | f :: _, none, .quiet =>
        match f.items? with
        | some items => if s.running then s.beginFrame p items else s
        | none => s
      | _, _, _ => s)

end Sys2Proof.Machine
end

