-- ==== Sys2Proof/Machine/Period.lean ====
section
/-! DEFINITION. The drive period, the steps that have fallen due when time moves, dormancy and wake (chapters 3, 11). -/

namespace Sys2Proof.Machine
open Sys2Proof

/-! ### Steps that have fallen due

The table's steps are commands of their own. One that has fallen due and has not been commanded by the time the next
drive step or drive period start comes is taken then, in the order below (log 2). -/

def State.settleHold (m : SlotId) (s : State) (f : Fn) : State :=
  s.whenDue (s.holdDue m f) fun t => t.writeCell f m.claimant none

def State.settleSlot (s : State) (m : SlotId) : State :=
  Fn.all.foldl (State.settleHold m) (s.whenDue (s.silenceDue m) fun t => t.fallSilent m false)

/-- A change of phase that is due. It is taken before drive step 0, so before the bus sample of that step: whether a crank
change by that sample comes at the same moment as the change of phase, and may then be taken first (R101), is the model's
choice (DESIGN CHOICE, log 2). -/
def State.settleFlash (s : State) : State :=
  let t := s.whenDue s.flashStartDue fun t => t.enterOn false
  let u := match t.offDue with
    | some cy => t.enterOff cy false
    | none => t
  u.whenDue u.onDue fun v => v.enterOn false

def State.settleGauge (s : State) (g : GaugeId) : State :=
  let t := s.whenDue (s.faultExpiryDue g) fun t => t.gaugeRest g
  t.gaugeFinishReading g

def State.settleChannel (s : State) (c : Channel) : State :=
  let t := s.whenDue (s.inrushDue c) fun t => t.inrushExpire c
  let u := t.whenDue (t.coolOffDue c) fun u => u.coolOffExpire c
  let v := u.whenDue (u.runCountDue c) fun v => v.runCountReach c
  let w := v.whenDue (v.bulbSetDue c) fun w => w.bulbSet c
  w.whenDue (w.bulbClearDue c) fun x => x.bulbClear c

/-- A stall report that is due is taken, but not ahead of a drive period start: either of the two may come first (R75).
The next drive step takes one that the start has left. -/
def State.settleStall (s : State) : State := s.whenDue (s.stallDue && s.clock != .step 249) State.stallReport

/-- Every step that has fallen due is taken, of the inputs those of the given ones (log 2), the end of STARTING and the
inputs first (R189, R187). -/
def State.settleStepsOf (s : State) (ids : List InputId) : State :=
  let a := allSlots.foldl State.settleSlot (s.settleInputsOf ids)
  let c := (allGauges.foldl State.settleGauge a.settleFlash).settleSupply
  let e := (allChannels.foldl State.settleChannel c).settleStall
  e.whenDue e.running State.abandonUnservable

/-- Every step that has fallen due is taken (log 2). -/
def State.settleSteps (s : State) : State := s.settleStepsOf allInputs

/-- The inputs whose changes are taken before a drive step begins. Between a drive period start and step 0 it is all but
START: the bus sample of step 0 and a change of START at that start may come in either order (R115, R116). Step 1 comes
after both. -/
def State.inputsToSettle (s : State) : List InputId :=
  if s.clock = .started then [.ign, .brake, .hazard] else allInputs

/-! ### Dormancy -/

/-- IGN, BRAKE and HAZARD hold the part out of DORMANT (R190). -/
def State.inputsQuiet (s : State) : Bool :=
  [InputId.ign, .brake, .hazard].all fun i => !s.filtered i && !(s.input i).raw

/-- Every channel is OFF with a pending demand of 0 (R190). -/
def State.channelsQuiet (s : State) : Bool :=
  allChannels.all fun c => (s.chan c).st == .off && (s.chan c).demand == 0

/-- Both request queues are empty and neither port is sending a reply (R190). -/
def State.portsQuiet (s : State) : Bool :=
  allPorts.all fun p => (s.port p).queue.isEmpty && (s.port p).reply == .quiet

/-- The conditions of DORMANT, at a drive period start whose own actions are done (R190). -/
def State.dormantOk (s : State) : Bool :=
  s.power.part == .active && s.clock == .started && s.inputsQuiet && s.channelsQuiet && s.portsQuiet &&
    s.storeWrite.isNone && decide (s.cfg.unit.dormantDelay ≤ s.power.quiet)

/-- A port watches its line only for activity (R191). -/
def State.watchLine (s : State) (p : Port) : State := s.setPort p { s.port p with assembly := .watching }

/-- The part enters DORMANT (R190, R191): requests abandoned (R136), gates negated, the lines watched; all else is
kept. -/
def State.sleep (s : State) : State :=
  let t := s.abandonAll
  let u := (t.setPower { t.power with part := .dormant }).setGates ⟨Vector.replicate 16 false, 0⟩
  allPorts.foldl State.watchLine u

/-- DORMANT_ENTRY (R190), judged on the state the start's own actions leave. -/
def execDormantEntry (s : State) : Host.Outcome State Fault Refusal :=
  .next (if s.settleSteps.dormantOk then s.settleSteps.sleep else s)

/-- The steps that have fallen due are taken, all of them where the part then enters DORMANT, as it does where its
conditions hold (R190). -/
def State.settle (s : State) : State :=
  if s.settleSteps.dormantOk then s.settleSteps.sleep else s.settleStepsOf s.inputsToSettle

/-- The raw level of START becomes active, or that of IGN, BRAKE or HAZARD changes (R192). -/
def State.wakesOn (s : State) (cause : WakeCause) : Bool :=
  match cause with
  | .octetStart _ => true
  | .rawChange .start => !(s.input .start).raw
  | .rawChange _ => true

/-- The raw level that the event changes (log 33). -/
def State.rawEvent (s : State) (cause : WakeCause) : State :=
  match cause with
  | .octetStart _ => s
  | .rawChange i => s.setInput i { s.input i with raw := !(s.input i).raw }

/-- A fresh debounce run from the kept filtered level (R192). -/
def State.freshRun (s : State) (i : InputId) : State := s.setInput i { s.input i with run := 0, sampledNow := false }

/-- The silence timer of a LIVE slot restarts at 0 (R23, R192). -/
def State.freshTimer (s : State) (m : SlotId) : State :=
  s.setSlot m { s.slot m with timer := if (s.slot m).st = .live then some 0 else (s.slot m).timer, silencedNow := false }

/-- The part wakes to ACTIVE (R192, R23, R123, R105): a drive period start is awaited. -/
def State.wakeUp (s : State) : State :=
  let a := s.setPower { s.power with part := .active, quiet := 0, wakeStart := true }
  let b := (a.setClock .awaiting).setSup a.sup.woken
  let c := allInputs.foldl State.freshRun b
  let d := allSlots.foldl State.freshTimer c
  allPorts.foldl (fun t p => t.hunt p 0) d

/-- WAKE (R192). START becoming inactive is no wake event. -/
def execWake (cause : WakeCause) (s : State) : Host.Outcome State Fault Refusal :=
  .next (if s.power.part = .dormant then
      if s.wakesOn cause then (s.rawEvent cause).wakeUp else s.rawEvent cause
    else s)

/-! ### Drive period start -/

/-- The power controller's counts at a drive period start: the starts of STARTING (R189), the quiet count while ACTIVE
(R190). The start with which STARTING ends raises the quiet count only where STARTING_COMPLETE was taken ahead of it
(log 45). -/
def Power.countStart (w : Power) : Power :=
  { w with
    starts := if w.part = .starting then min 5 (w.starts + 1) else w.starts,
    quiet := if w.part = .active then w.quiet + 1 else w.quiet,
    wakeStart := false }

/-- The period count at a drive period start (R126): 0 at the first start of STARTING, else one more modulo 720,720. -/
def State.nextPeriodCount (s : State) : Nat :=
  if s.power.part = .starting ∧ s.power.starts = 0 then 0 else (s.seq.periodCount + 1) % 720720

/-- The actions of a drive period start (R47): inputs sampled (R187), timers counted, demands taken up, the period's
requests posted (R127). The list is empty by then (R125); a request that a state no run reaches still holds is
abandoned (log 4). -/
def State.startPeriod (s : State) (lines : PerInput Bool) : State :=
  let a := (s.abandonAll.sampleInputs lines)
  let b := (allGauges.foldl State.countFaultHold (allSlots.foldl State.countSlot a)).countFlash
  let c := ((b.setSeq { b.seq with periodCount := b.nextPeriodCount }).setPower b.power.countStart).setClock .started
  c.takeUpAll.postRequests

/-- A drive period start may come (R47): one is awaited, or the last step of the period is over. -/
def State.startAllowed (s : State) : Bool :=
  match s.clock with
  | .awaiting => true
  | .started => false
  | .step m => m == 249 && !s.conversionDue

/-- The levels of a start are those of the samples already taken ahead of it (R187; log 3). -/
def State.linesAgree (s : State) (lines : PerInput Bool) : Bool :=
  allInputs.all fun i =>
    !(s.input i).sampledNow || (s.cfg.inputs.get i).polarity.rawLevel (lines.get i) == (s.input i).raw

/-- DRIVE_PERIOD_START (R47). -/
def execDrivePeriodStart (lines : PerInput Bool) (s : State) : Host.Outcome State Fault Refusal :=
  .next (if s.settle.running then
      if s.settle.startAllowed && s.settle.linesAgree lines then s.settle.startPeriod lines else s
    else s.settle)

/-! ### Drive step -/

/-- A drive step may begin: it is the first of a period whose start has been taken, or follows the present one, which is
over (R47, R131; log 4). -/
def State.stepAllowed (s : State) (n : Nat) : Bool :=
  match s.clock with
  | .awaiting => false
  | .started => n == 0
  | .step m => n == m + 1 && !s.conversionDue

/-- The gate outputs at a drive step (R48, R51). -/
def State.gatesAt (s : State) (n : Nat) : Gates :=
  { out := ⟨(allChannels.map fun c => s.gateAt c n).toArray, rfl⟩,
    fanTicks := match s.fanChannel with
      | none => 0
      | some c => fanTicksAt (s.chan c).applied n }

/-- A drive step begins (R48): the averaging stage takes the current of the fan channel's sense line, none where there is
no fan channel (R129). -/
def State.beginStep (s : State) (n sense : Nat) : State :=
  ((s.setClock (.step n)).setGates (s.gatesAt n)).setSeq { s.seq with
    sense := ((if s.fanChannel.isSome then sense else 0) :: s.seq.sense).take 250 }

/-- DRIVE_STEP (R48). -/
def execDriveStep (x : StepStart) (s : State) : Host.Outcome State Fault Refusal :=
  .next (if s.settle.running then
      if s.settle.stepAllowed x.n.val then s.settle.beginStep x.n.val x.sense else s
    else s.settle)

end Sys2Proof.Machine
end

