-- ==== Sys2Proof/Machine/Dispatch.lean ====
section
/-! DEFINITION. The meaning of each command: one arm per row of spec/opcode_table.json. -/

namespace Sys2Proof.Machine

def exec (i : Instr) (s : State) : Host.Outcome State Fault Refusal :=
  match i with
  | .powerOn => Sys2Proof.Machine.execPowerOn s
  | .brownOutRestart => Sys2Proof.Machine.execBrownOutRestart s
  | .startingComplete => Sys2Proof.Machine.execStartingComplete s
  | .drivePeriodStart lines => Sys2Proof.Machine.execDrivePeriodStart lines s
  | .inrushExpiry c => Sys2Proof.Machine.execInrushExpiry c s
  | .runCountReached c => Sys2Proof.Machine.execRunCountReached c s
  | .overcurrentTrip c current => Sys2Proof.Machine.execOvercurrentTrip c current s
  | .coolOffExpiry c => Sys2Proof.Machine.execCoolOffExpiry c s
  | .bulbOutSet c => Sys2Proof.Machine.execBulbOutSet c s
  | .bulbOutClear c => Sys2Proof.Machine.execBulbOutClear c s
  | .flashStart => Sys2Proof.Machine.execFlashStart s
  | .offPhaseEntry => Sys2Proof.Machine.execOffPhaseEntry s
  | .onPhaseEntry => Sys2Proof.Machine.execOnPhaseEntry s
  | .tickEnd => Sys2Proof.Machine.execTickEnd s
  | .conversionDone src quantity => Sys2Proof.Machine.execConversionDone src quantity s
  | .requestAbandon src => Sys2Proof.Machine.execRequestAbandon src s
  | .crankEntry => Sys2Proof.Machine.execCrankEntry s
  | .crankExit => Sys2Proof.Machine.execCrankExit s
  | .shedRise => Sys2Proof.Machine.execShedRise s
  | .shedFall => Sys2Proof.Machine.execShedFall s
  | .stallReport => Sys2Proof.Machine.execStallReport s
  | .faultHoldEntry g => Sys2Proof.Machine.execFaultHoldEntry g s
  | .faultHoldExpiry g => Sys2Proof.Machine.execFaultHoldExpiry g s
  | .gaugeRecovery g => Sys2Proof.Machine.execGaugeRecovery g s
  | .inputSeed x => Sys2Proof.Machine.execInputSeed x s
  | .filteredLevelChange x => Sys2Proof.Machine.execFilteredLevelChange x s
  | .silenceExpiry m => Sys2Proof.Machine.execSilenceExpiry m s
  | .holdExpiry m f => Sys2Proof.Machine.execHoldExpiry m f s
  | .frameReceived p octets => Sys2Proof.Machine.execFrameReceived p octets s
  | .frameAbandonIdle p idle => Sys2Proof.Machine.execFrameAbandonIdle p idle s
  | .framingFault p fault => Sys2Proof.Machine.execFramingFault p fault s
  | .frameExecute p => Sys2Proof.Machine.execFrameExecute p s
  | .frameError p => Sys2Proof.Machine.execFrameError p s
  | .claim p => Sys2Proof.Machine.execClaim p s
  | .claimAll p => Sys2Proof.Machine.execClaimAll p s
  | .readChannel p => Sys2Proof.Machine.execReadChannel p s
  | .readTrip p => Sys2Proof.Machine.execReadTrip p s
  | .readFunction p => Sys2Proof.Machine.execReadFunction p s
  | .readSlots p => Sys2Proof.Machine.execReadSlots p s
  | .readGauge p => Sys2Proof.Machine.execReadGauge p s
  | .readSupply p => Sys2Proof.Machine.execReadSupply p s
  | .readFlasher p => Sys2Proof.Machine.execReadFlasher p s
  | .readFan p => Sys2Proof.Machine.execReadFan p s
  | .readInputs p => Sys2Proof.Machine.execReadInputs p s
  | .readResetCause p => Sys2Proof.Machine.execReadResetCause p s
  | .readConfigurationRecord p => Sys2Proof.Machine.execReadConfigurationRecord p s
  | .configUnit p => Sys2Proof.Machine.execConfigUnit p s
  | .configInputs p => Sys2Proof.Machine.execConfigInputs p s
  | .configSlot p => Sys2Proof.Machine.execConfigSlot p s
  | .configFunction p => Sys2Proof.Machine.execConfigFunction p s
  | .configChannel p => Sys2Proof.Machine.execConfigChannel p s
  | .configMap p => Sys2Proof.Machine.execConfigMap p s
  | .configGauge p => Sys2Proof.Machine.execConfigGauge p s
  | .configFlasher p => Sys2Proof.Machine.execConfigFlasher p s
  | .configSupply p => Sys2Proof.Machine.execConfigSupply p s
  | .configFan p => Sys2Proof.Machine.execConfigFan p s
  | .storeWriteDone => Sys2Proof.Machine.execStoreWriteDone s
  | .clearChannels p => Sys2Proof.Machine.execClearChannels p s
  | .clearEvents p => Sys2Proof.Machine.execClearEvents p s
  | .reset p => Sys2Proof.Machine.execReset p s
  | .replyStart p delay => Sys2Proof.Machine.execReplyStart p delay s
  | .replySent p => Sys2Proof.Machine.execReplySent p s
  | .replyAbandon p cause => Sys2Proof.Machine.execReplyAbandon p cause s
  | .dormantEntry => Sys2Proof.Machine.execDormantEntry s
  | .wake cause => Sys2Proof.Machine.execWake cause s
  | .sync p octet idle => Sys2Proof.Machine.execSync p octet idle s
  | .driveStep x => Sys2Proof.Machine.execDriveStep x s
  | .toneHalfPeriod => Sys2Proof.Machine.execToneHalfPeriod s

end Sys2Proof.Machine
end

