-- ==== Sys2Proof/Safety.lean ====
section
/-! DEFINITION. The terms in which claims about the part are made: its invariants, what a reset leaves, and what an item
of a frame is answered. -/

namespace Sys2Proof.Machine
open Sys2Proof

/-! ### Invariants -/

/-- Every slot's pending events lie within that slot's event mask (R181). -/
def State.EventsMasked (s : State) : Prop := ∀ m : SlotId, (s.slot m).pending &&& ~~~(s.slotRec m).mask = 0#9

/-- The channel states in which a channel is driven (R52). -/
def ChState.drives : ChState → Bool
  | .inrush | .run => true
  | .off | .waiting | .cooling | .latched => false

/-- A channel in OFF, WAITING, COOLING or LATCHED has applied duty 0, no wrapped part and a negated gate (R49). -/
def State.IdleChannelsDark (s : State) : Prop :=
  ∀ c : Channel, (s.chan c).st.drives = false →
    (s.chan c).applied = 0 ∧ (s.chan c).prevDuty = 0 ∧ s.gates.out[c] = false

/-- The channels of the admission queue, from the head. -/
def State.queued (s : State) : List Channel := s.queue.map Prod.fst

/-- A channel is in the admission queue exactly when it is WAITING, at most once, and every URGENT place is ahead of
every NORMAL place (R57). -/
def State.QueueIsWaiting (s : State) : Prop :=
  s.queued.Nodup ∧ (∀ c : Channel, c ∈ s.queued ↔ (s.chan c).st = .waiting) ∧
    s.queue.Pairwise fun x y => y.2 = .urgent → x.2 = .urgent

/-- A channel is in the in-window set exactly when it is in INRUSH, counted once (R61). -/
def State.WindowIsInrush (s : State) : Prop :=
  (s.window.map Prod.fst).Nodup ∧ ∀ c : Channel, c ∈ s.window.map Prod.fst ↔ (s.chan c).st = .inrush

/-- Every result is what the claim table, the ignition gate and the shed level give (R12 to R15). -/
def State.ResultsEvaluated (s : State) : Prop := ∀ f : Fn, s.result f = s.evaluated f

/-- The greatest value of a function's result and claims (R1, R6). -/
def fnTop (f : Fn) : Nat := if f = .panel then 250 else if f = .fan then 3 else 1

/-- Every claim and every result is a value of its function's kind (R1, R5, R6). -/
def State.ValuesOfKind (s : State) : Prop :=
  (∀ (f : Fn) (k : Claimant) (c : Claim), s.cell f k = some c → c.value ≤ fnTop f) ∧ ∀ f : Fn, s.result f ≤ fnTop f

/-- L holds a claim of 1 on STOP exactly while filtered BRAKE is active, one on HAZARD exactly while filtered HAZARD is,
and no other; its claims are never orphaned and never held (R5, R10). -/
def State.LocalClaimsFollowInputs (s : State) : Prop :=
  ∀ f : Fn, s.cell f .l =
    if f = .stop ∧ (s.input .brake).filtered = some true ∨ f = .hazard ∧ (s.input .hazard).filtered = some true then
      some { value := 1, orphaned := false, hold := none }
    else none

/-- A gauge slot is bound to GAUGE channels only (R139, R44). -/
def State.BoundAreGauges (s : State) : Prop :=
  ∀ (g : GaugeId) (c : Channel), (s.gaugeRec g).bound = some c → (s.chRec c).kind = .gauge

/-- The map meets R27: every entry stands on a LAMP or MOTOR channel, a FAN entry on a MOTOR channel, and a FAN entry is
the only one of its function and the only one on its channel. -/
def State.MapChecked (s : State) : Prop :=
  (∀ e ∈ s.entries, (s.chRec e.chan).kind = .lamp ∨ (s.chRec e.chan).kind = .motor) ∧
    (∀ e ∈ s.entries, e.fn = .fan → (s.chRec e.chan).kind = .motor) ∧
    ∀ (i j : Fin 32) (e x : MapEntry), s.cfg.map[i] = some e → s.cfg.map[j] = some x → e.fn = .fan →
      (x.fn = .fan ∨ x.chan = e.chan) → i = j

/-- A channel whose demand the composer writes: LAMP, or MOTOR without the FAN entry (R36). -/
def State.composes (s : State) (c : Channel) : Bool :=
  ((s.chRec c).kind == .lamp || (s.chRec c).kind == .motor) && !s.isFan c

/-- Every composed channel's demand, source, stop mark and entry presence are those of its active entries and the flash
phase (R34, R35, R37, R38). -/
def State.DemandsComposed (s : State) : Prop :=
  ∀ c : Channel, s.composes c = true →
    ((s.chan c).demand, (s.chan c).source) = s.composed c ∧ (s.chan c).stop = s.stopActive c ∧
      (s.chan c).present = s.anyActive c

/-- The generator is idle without its start pending mark exactly while TURN_L, TURN_R and HAZARD are off (R91, R95). -/
def State.FlashFollowsDemand (s : State) : Prop :=
  (s.flash.phase = .idle false false ∨ s.flash.phase = .idle false true) ↔
    s.result .turnL = 0 ∧ s.result .turnR = 0 ∧ s.result .hazard = 0

/-- No LATCHED channel's release condition holds: an entry is present, or a GAUGE channel's demand is not 0 (R79, R81).
-/
def State.LatchesStand (s : State) : Prop :=
  ∀ c : Channel, (s.chan c).st = .latched →
    if (s.chRec c).kind = .gauge then (s.chan c).demand ≠ 0 else (s.chan c).present = true

/-- What a gauge slot holds. A slot in OFF is at its reset values, and every slot is while filtered IGN is inactive
(R142). An enabled slot is bound (R139), and a slot outside OFF is enabled (R138, R142). An average is the rounded mean
of its ring (R145). An ACTIVE slot with a target and a Vf has them computed: Vt, the duty and UNDERDRIVE (R148 to R151).
No two slots have one channel (R139); a bound channel's demand is its slot's duty, STEADY, and an unbound GAUGE
channel's is 0, STEADY (R36, R152). -/
def State.GaugesComputed (s : State) : Prop :=
  ((s.input .ign).filtered ≠ some true → ∀ g : GaugeId, (s.gauge g).st = .off) ∧
    (∀ g : GaugeId, (s.gauge g).st = .off → s.gauge g = GaugeSlot.reset) ∧
    (∀ g : GaugeId, ((s.gaugeRec g).enabled = true → (s.gaugeRec g).bound ≠ none) ∧
      ((s.gauge g).st ≠ .off → (s.gaugeRec g).enabled = true)) ∧
    (∀ g : GaugeId, (s.gauge g).average =
      if (s.gauge g).ring = [] then none else
        some (((s.gauge g).ring.sum + (s.gauge g).ring.length / 2) / (s.gauge g).ring.length)) ∧
    (∀ (g : GaugeId) (vf : Nat), (s.gauge g).st = .active → s.sup.vf = some vf →
      ∀ vt : Nat, (match (s.gaugeRec g).mode with
          | .stabilised => some (s.gaugeRec g).target
          | .table => (s.gauge g).average.map fun a => tableTarget a (s.gaugeRec g).table) = some vt →
        (s.gauge g).vt = some vt ∧ (s.gauge g).duty = gaugeDuty vt vf ∧ (s.gauge g).under = decide (vf ≤ vt)) ∧
    (∀ (g h : GaugeId) (c : Channel), (s.gaugeRec g).bound = some c → (s.gaugeRec h).bound = some c → g = h) ∧
    (∀ (g : GaugeId) (c : Channel), (s.gaugeRec g).bound = some c →
      (s.chan c).demand = (s.gauge g).duty ∧ (s.chan c).source = .steady) ∧
    ∀ c : Channel, (s.chRec c).kind = .gauge → (∀ g : GaugeId, (s.gaugeRec g).bound ≠ some c) →
      (s.chan c).demand = 0 ∧ (s.chan c).source = .steady

/-- No gauge slot computes in CRANK, and none is held in NORMAL (R143). -/
def State.GaugesFollowCrank (s : State) : Prop :=
  ∀ g : GaugeId, ((s.gauge g).st = .active → s.sup.crank = .normal) ∧ ((s.gauge g).st = .held → s.sup.crank = .crank)

/-- The crank state is the one filtered START asks for: START is not active in NORMAL, and in CRANK the exit counter
stands at 20 only with START active (R115, R116). -/
def State.CrankFollowsStart (s : State) : Prop :=
  (s.sup.crank = .normal → (s.input .start).filtered ≠ some true) ∧
    (s.sup.crank = .crank → s.sup.crankOut < 20 ∨ (s.input .start).filtered = some true)

/-- The shed level is 0 to 3; its rise counter is present below 3 and its fall counter above 0 (R111). -/
def State.ShedCounters (s : State) : Prop :=
  s.sup.shed ≤ 3 ∧ (s.sup.rise.isSome = true ↔ s.sup.shed < 3) ∧ (s.sup.fall.isSome = true ↔ 0 < s.sup.shed)

/-- The handling of every bus sample is complete: none is in hand, and no counter stands where it would move the crank
state or the shed level (R112, R115, R121). Every SUPPLY record has a dwell above 0 (R107). -/
def State.SamplesHandled (s : State) : Prop :=
  s.sup.inHand = none ∧ s.sup.crankIn < 2 ∧ (∀ n : Nat, s.sup.rise = some n → n < s.cfg.supply.dwell) ∧
    (∀ n : Nat, s.sup.fall = some n → n < s.cfg.supply.dwell) ∧ 0 < s.cfg.supply.dwell ∧
    (∀ r : SupplyRec, s.store.supply = some r → 0 < r.dwell) ∧
    ∀ r : SupplyRec, s.storeWrite = some (.supply r) → 0 < r.dwell

/-- The duties of a FAN record are at most 250 (R156). -/
def FanRec.InRange (r : FanRec) : Prop := r.duty1 ≤ 250 ∧ r.duty2 ≤ 250 ∧ r.duty3 ≤ 250 ∧ r.kickDuty ≤ 250

/-- The level of a DIM entry is at most 249 (R26). -/
def MapEntry.InRange (e : MapEntry) : Prop :=
  match e.contrib with
  | .dim l => l ≤ 249
  | .full | .level | .flash => True

/-- A record's duties are in their ranges. -/
def ConfigRecord.InRange : ConfigRecord → Prop
  | .fan r => r.InRange
  | .map _ e => ∀ x : MapEntry, e = some x → x.InRange
  | .unit _ | .inputs _ | .slot _ _ | .function _ _ | .channel _ _ | .gauge _ _ | .flasher _ | .supply _ => True

/-- Every duty is at most 250: demands, applied duties and the on-times before, the fan's, the gauge slots' (R46, R141,
R158), and so are those of the records in force, stored and being stored. -/
def State.DutiesInRange (s : State) : Prop :=
  (∀ c : Channel, (s.chan c).demand ≤ 250 ∧ (s.chan c).applied ≤ 250 ∧ (s.chan c).prevDuty ≤ 250) ∧
    (∀ g : GaugeId, (s.gauge g).duty ≤ 250) ∧ s.fan.target ≤ 250 ∧ s.fan.ramp ≤ 250 ∧
    s.cfg.fan.InRange ∧ (∀ r : FanRec, s.store.fan = some r → r.InRange) ∧
    (∀ (i : Fin 32) (e : MapEntry), (s.cfg.map[i] = some e ∨ s.store.map[i] = some (some e)) → e.InRange) ∧
    ∀ r : ConfigRecord, s.storeWrite = some r → r.InRange

/-- Every phase is at most 249, in the CHANNEL records in force, stored and being stored (R43, R44). -/
def State.PhasesInRange (s : State) : Prop :=
  (∀ c : Channel, (s.chRec c).phase ≤ 249) ∧
    (∀ (c : Channel) (r : ChannelRec), s.store.channels[c] = some r → r.phase ≤ 249) ∧
    ∀ (c : Channel) (r : ChannelRec), s.storeWrite = some (.channel c r) → r.phase ≤ 249

/-- A silence timer runs only in LIVE; only claims of a SILENT slot are orphaned; only orphaned claims are held (R18 to
R21). -/
def State.SilenceMarks (s : State) : Prop :=
  (∀ m : SlotId, (s.slot m).timer.isSome = true ↔ (s.slot m).st = .live) ∧
    (∀ (m : SlotId) (f : Fn) (c : Claim), s.cell f m.claimant = some c → c.orphaned = true → (s.slot m).st = .silent) ∧
    ∀ (f : Fn) (k : Claimant) (c : Claim), s.cell f k = some c → c.hold.isSome = true → c.orphaned = true

/-- A WAITING channel whose stop mark is set has an URGENT place (R58, R59). -/
def State.StopsAreUrgent (s : State) : Prop := ∀ x ∈ s.queue, (s.chan x.1).stop = true → x.2 = .urgent

/-- The demand a fan in its state has written to its channel (R160 to R163, R165, R167). -/
def State.fanDemand (s : State) : Nat :=
  match s.fan.st with
  | .stopped | .suspended => 0
  | .starting | .kick => s.cfg.fan.kickDuty
  | .ramp | .running => s.fan.ramp
  | .faulted => if s.fan.target ≠ 0 ∧ s.sup.crank = .normal then s.cfg.fan.kickDuty else 0

/-- The fan channel's demand is the one of the fan's state, STEADY (R36, R160); the fan is FAULTED exactly while its
channel is COOLING or LATCHED, and STARTING only with it OFF or WAITING (R160, R162, R167). It follows T: with T at 0 it
is STOPPED or FAULTED, with T above 0 it is neither STOPPED nor SUSPENDED in NORMAL, and SUSPENDED or FAULTED in CRANK
(R160, R161, R165); RUNNING has reached T (R163). Without a fan channel it is STOPPED (R159). -/
def State.FanFollowsChannel (s : State) : Prop :=
  (s.fanChannel = none → s.fan.st = .stopped) ∧
    ∀ c : Channel, s.fanChannel = some c →
      (s.chan c).demand = s.fanDemand ∧ (s.chan c).source = .steady ∧
        (s.fan.st = .faulted ↔ (s.chan c).st = .cooling ∨ (s.chan c).st = .latched) ∧
        (s.fan.st = .starting → (s.chan c).st = .off ∨ (s.chan c).st = .waiting) ∧
        (s.fan.target = 0 → s.fan.st = .stopped ∨ s.fan.st = .faulted) ∧
        (s.fan.target ≠ 0 → s.sup.crank = .normal → s.fan.st ≠ .stopped ∧ s.fan.st ≠ .suspended) ∧
        (s.fan.target ≠ 0 → s.sup.crank = .crank → s.fan.st = .suspended ∨ s.fan.st = .faulted) ∧
        (s.fan.st = .running → s.fan.ramp = s.fan.target)

/-- The requested step is that of the FAN result, the capped step at most the shed cap, and T its step duty (R159). -/
def State.FanTargetComputed (s : State) : Prop :=
  s.fan.requested = min 3 (s.result .fan) ∧ s.fan.capped = min s.fan.requested (s.cfg.fan.cap s.sup.shed) ∧
    s.fan.target = s.cfg.fan.stepDuty s.fan.capped

/-- The length of the reply body that answers so far and a status for every item left would make (R176). -/
def Run.bodyLength (r : Run) : Nat := r.used + r.items.length

/-- The body of the reply a reply sender holds is at most 56 octets. -/
def ReplySender.fits : ReplySender → Prop
  | .quiet => True
  | .built r => r.body.length ≤ maxBody
  | .sending r => r.body.length ≤ maxBody

/-- Every body, of a frame waiting, in execution or of a reply, holds at most 56 octets (R170, R176). -/
def State.BodiesFit (s : State) : Prop :=
  ∀ p : Port, (∀ f ∈ (s.port p).queue, f.body.length ≤ maxBody) ∧
    (∀ r : Run, (s.port p).run = some r → r.bodyLength ≤ maxBody) ∧ (s.port p).reply.fits

/-! ### What a reset leaves -/

/-- Every block at the reset values stated with its state (R12, R18, R41, R46, R68, R88, R90, R111, R125, R141, R158,
R169, R187, R188). -/
def State.BlocksReset (s : State) : Prop :=
  (∀ (f : Fn) (k : Claimant), s.cell f k = none) ∧ (∀ f : Fn, s.result f = 0) ∧
  (∀ m : SlotId, (s.slot m).st = .unheard ∧ (s.slot m).timer = none) ∧
  (∀ p : Port, (s.port p).assembly = .hunt ∧ (s.port p).idle = 0 ∧ (s.port p).queue = [] ∧ (s.port p).run = none ∧
    (s.port p).reply = .quiet ∧ (s.port p).overrun = false) ∧
  (∀ i : InputId, (s.input i).filtered = none ∧ (s.input i).run = 0) ∧
  (∀ c : Channel, s.chan c = Chan.reset ∧ s.gates.out[c] = false) ∧ s.queue = [] ∧ s.window = [] ∧
  s.flash.phase = .idle false false ∧ s.flash.speed = .configured ∧ s.flash.tick = none ∧ s.flash.tone = false ∧
  s.flash.ended = false ∧ s.sup = Supervisor.reset ∧ s.seq.requests = [] ∧ s.seq.served = none ∧ s.seq.sense = [] ∧
  (∀ x : Source, s.value x = ⟨none, .none⟩) ∧
  (∀ g : GaugeId, s.gauge g = GaugeSlot.reset) ∧ s.fan = Fan.reset ∧ s.storeWrite = none ∧ s.clock = .awaiting

/-- STARTING has begun after a reset of a kind (R186, R188, R189): every block reset, the store loaded, the reset cause
written, no start and no quiet period counted (R189, R190), no reset due (R178), and RESET raised, with CONFIG_DEFAULTED
where a record took its default. -/
def State.StartedAfter (t : State) (kind : ResetKind) (brownOuts : Nat) (store : Store) : Prop :=
  t.BlocksReset ∧ t.power.part = .starting ∧ t.power.lastReset = kind ∧ t.power.brownOuts = brownOuts ∧
    t.power.quiet = 0 ∧ t.power.starts = 0 ∧ t.power.resetDue = false ∧ t.store = store ∧ t.cfg = (loadStore store).cfg ∧
    ∀ m : SlotId, (t.slot m).pending =
      (if (loadStore store).defaulted then EventKind.reset.bit ||| EventKind.configDefaulted.bit
        else EventKind.reset.bit) &&& (t.slotRec m).mask

/-- A slot after an event of a kind is raised to it (R181): nothing of it changes but its pending set. -/
def State.raisedTo (s : State) (k : EventKind) (m : SlotId) : Slot :=
  { s.slot m with pending := (s.slot m).pending ||| (k.bit &&& (s.slotRec m).mask) }

/-! ### Items and answers -/

/-- A port executes a frame: its next item is `i`, in an execution `r` to which no reset is tied. -/
structure Executing (s : State) (p : Port) (f : Frame) (r : Run) (i : Item) : Prop where
  runs : s.running = true
  head : (s.port p).queue.head? = some f
  run : (s.port p).run = some r
  item : r.items.head? = some i
  noReset : r.resetAfter = false

/-- The reply to a frame whose answers are all given (R179), from the unit address or the one an earlier UNIT record of
the frame replaced (R182; log 40). -/
def replyTo (t : State) (p : Port) (f : Frame) (r : Run) (as : List Answer) : Reply :=
  { dest := f.source, source := BitVec.ofNat 8 (r.oldAddress.getD t.cfg.unit.address), digest := t.digest p f.slot,
    answers := as, showedOverrun := (t.port p).overrun, rateAfter := r.rateAfter, resetAfter := false }

/-- An item of an execution `r` of a frame `f` on port `p` has been answered with `as`, and the items `left` are still
to come (R173, R175, R179). With items left the frame goes on; an answered frame's reply is built with its last item; an
unanswered frame, and one whose reply is lost (log 21), leaves its queue, and new bit rates take effect (R182; log 32).
No port changes in any other way. -/
def Answered (s t : State) (p : Port) (f : Frame) (r : Run) (left : List Item) (as : List Answer) : Prop :=
  if left ≠ [] then
    t.ports = (s.setPort p { s.port p with
      run := some { r with items := left, answers := r.answers ++ as } }).ports
  else if f.answered = true ∧ r.lost = false then
    t.ports = (s.setPort p { s.port p with
      run := none, reply := .built (replyTo t p f r (r.answers ++ as)) }).ports
  else
    ∀ q : Port,
      let x : PortState := if q = p then
        { s.port p with queue := (s.port p).queue.tail, run := none, reply := .quiet } else s.port q
      t.port q = if r.rateAfter = true ∧ x.rate ≠ t.cfg.unit.rates.get q then
        { x with rate := t.cfg.unit.rates.get q, assembly := .hunt, idle := 0 } else x

/-- A status alone. -/
def Status.only (st : Status) : List Answer := [⟨st, none⟩]

/-- The item at the head of `r` has been answered with a status alone: the later items are still to come, but after
NO_ROOM every one of them is answered NO_ROOM, unexecuted (R175, R176; log 50). -/
def AnsweredWith (s t : State) (p : Port) (f : Frame) (r : Run) (st : Status) : Prop :=
  if st = .noRoom then Answered s t p f r [] (r.items.map fun _ => ⟨.noRoom, none⟩)
  else Answered s t p f r r.items.tail (Status.only st)

/-- The item at the head of `r` has been answered with a status alone, and nothing but the ports has changed. -/
def RefusedWith (s t : State) (p : Port) (f : Frame) (r : Run) (st : Status) : Prop :=
  t = { s with ports := t.ports } ∧ AnsweredWith s t p f r st

/-- The value the last pair naming a function gives it (R7, R8). -/
def lastValue (g : Fn) (pairs : List (Byte × Byte)) : Option Byte :=
  (pairs.reverse.find? fun q => Fn.ofNat? q.1.toNat == some g).map Prod.snd

/-- The cell a wire value makes: a claim, unmarked, or absent (R6). -/
def wireCell (g : Fn) (v : Byte) : Option Claim :=
  (reduceWire g v).1.map fun n => { value := n, orphaned := false, hold := none }

/-- The READ command of a record kind. -/
def readCommand (k : ReadKind) (p : Port) : Instr :=
  match k with
  | .channel => .readChannel p
  | .trip => .readTrip p
  | .function => .readFunction p
  | .gauge => .readGauge p
  | .supply => .readSupply p
  | .flasher => .readFlasher p
  | .fan => .readFan p
  | .slots => .readSlots p
  | .inputs => .readInputs p
  | .resetCause => .readResetCause p
  | .config _ => .readConfigurationRecord p

/-- The CONFIG command of a record kind. -/
def configCommand (k : ConfigKind) (p : Port) : Instr :=
  match k with
  | .unit => .configUnit p
  | .inputs => .configInputs p
  | .slot => .configSlot p
  | .function => .configFunction p
  | .channel => .configChannel p
  | .map => .configMap p
  | .gauge => .configGauge p
  | .flasher => .configFlasher p
  | .supply => .configSupply p
  | .fan => .configFan p

/-- The status an accepted record is answered with (R175). -/
def acceptedStatus (clamped : Bool) : Status := if clamped then .clamped else .ok

end Sys2Proof.Machine
end

