-- ==== Sys2Proof/Certificates/Slice0/Obligations.lean ====
section
/-! DEFINITION. The statements about the part, for the provers. A statement about a command says that it answers a next
state `t` and what `t` is; `t = { s with … := t.… }` names every field of the state that may differ from `s`. -/

open Sys2Proof Sys2Proof.Machine

/-! ### The queue of commands, reset and start-up -/

/-- The command at the front is executed on the rest of the queue, and an empty queue idles (the model's own choice of
a queue: log 1, 7). -/
def Obligations.StepRunsFrontCommand : Prop :=
  ∀ (c : Instr) (rest : List Instr) (s : State),
    step { s with pending := c :: rest } = exec c { s with pending := rest } ∧
      step { s with pending := [] } = .next { s with pending := [] }

/-- Every well-formed command answers a next state and leaves the queue alone; a frame whose octets have not the shape
of one is refused (log 31). -/
def Obligations.WellFormedCommandsComplete : Prop :=
  ∀ (c : Instr) (s : State),
    (c.wellFormed = true → ∃ t, exec c s = .next t ∧ t.pending = s.pending) ∧
      (c.wellFormed = false → exec c s = .refused .noFrame)

/-- The state after reset: STARTING after a POWER_ON, every block at its reset values, every record at its default (a
new store: log 5). Every invariant holds after reset. -/
def Obligations.ResetState : Prop :=
  (State.reset.StartedAfter .powerOn 0 Store.new ∧ State.reset.cfg = Working.default ∧ State.reset.pending = [] ∧
    ∀ m : SlotId, (State.reset.slot m).pending = EventKind.reset.bit ||| EventKind.configDefaulted.bit) ∧
  State.reset.EventsMasked ∧ State.reset.IdleChannelsDark ∧ State.reset.QueueIsWaiting ∧ State.reset.WindowIsInrush ∧
    State.reset.ResultsEvaluated ∧ State.reset.ValuesOfKind ∧ State.reset.BoundAreGauges ∧
    State.reset.DemandsComposed ∧ State.reset.GaugesFollowCrank ∧ State.reset.ShedCounters ∧
    State.reset.SilenceMarks ∧ State.reset.BodiesFit ∧ State.reset.StopsAreUrgent ∧ State.reset.FanFollowsChannel ∧
    State.reset.FanTargetComputed ∧ State.reset.FlashFollowsDemand ∧ State.reset.LatchesStand ∧
    State.reset.GaugesComputed ∧ State.reset.SamplesHandled ∧ State.reset.DutiesInRange ∧
    State.reset.PhasesInRange ∧ State.reset.MapChecked ∧ State.reset.CrankFollowsStart ∧
    State.reset.LocalClaimsFollowInputs

/-- POWER_ON and BROWN_OUT_RESTART begin STARTING with every block reset and the store loaded; the record whose store
write was in flight fails its check from then on, and every other is stored as before (R186, R188, R189).
STARTING_COMPLETE: with 4 drive periods of STARTING run to their end, the fifth start taken or (R125; log 3) still to
come with the conversion of step 249 done, the part is ACTIVE and nothing else changes (R189). Each of the last two is
without effect else (log 1). -/
def Obligations.PartStartsUp : Prop :=
  (∀ (s : State),
    (∃ t, exec .powerOn s = .next t ∧ t.StartedAfter .powerOn 0 s.storeAfterReset ∧ t.pending = s.pending) ∧
      (s.power.part = .held → ∃ t, exec .brownOutRestart s = .next t ∧
        t.StartedAfter .brownOut (min 255 (s.power.brownOuts + 1)) s.storeAfterReset ∧ t.pending = s.pending) ∧
      (s.power.part ≠ .held → exec .brownOutRestart s = .next s)) ∧
  (∀ (s : State),
    (s.storeWrite = none → s.storeAfterReset = s.store) ∧
      ∀ x : ConfigRecord, s.storeWrite = some x → s.storeAfterReset = match x with
        | .unit _ => { s.store with unit := none }
        | .inputs _ => { s.store with inputs := none }
        | .slot m _ => { s.store with slots := s.store.slots.set m none }
        | .function g _ => { s.store with functions := s.store.functions.set g.idx none }
        | .channel c _ => { s.store with channels := s.store.channels.set c none }
        | .map i _ => { s.store with map := s.store.map.set i none }
        | .gauge g _ => { s.store with gauges := s.store.gauges.set g none }
        | .flasher _ => { s.store with flasher := none }
        | .supply _ => { s.store with supply := none }
        | .fan _ => { s.store with fan := none }) ∧
  ∀ (s : State),
    let ends := s.power.part = .starting ∧ (5 ≤ s.power.starts ∨
      s.power.starts = 4 ∧ s.clock = .step 249 ∧ s.conversionDue = false)
    (ends → exec .startingComplete s = .next { s with power := { s.power with part := .active } }) ∧
      (¬ ends → exec .startingComplete s = .next s)

/-- The load of R186, record by record: one whose stored contents fail their check, or conflict with a check of the
write rule against the records loaded before it, loads at its default; any other loads as it is stored, but for the
class tags: a SUPPLY record of another class takes the class default (R107; before its thresholds are judged: log 19),
and a GAUGE record of another class the stabilised target of the working class (R140). A fifth MAP entry on a channel is
no conflict (log 18). Something is counted as defaulted exactly where a record took its default for a failed check or a
conflict. -/
def Obligations.LoadTakesDefaults : Prop :=
  ∀ (st : Store),
    let l := (loadStore st).cfg
    let cls := l.unit.cls
    let unitBad := ∀ r : UnitRec, st.unit = some r →
      r.group1 ≠ 0 ∧ (r.group1 = r.address ∨ r.group1 = r.group2) ∨ r.group2 ≠ 0 ∧ r.group2 = r.address
    let slotBad (m : SlotId) : Prop := ∀ r : SlotRec, st.slots.get m = some r → ∃ n : SlotId,
      (m = .b ∧ n = .a ∨ m = .c ∧ n ≠ .c) ∧ (l.slots.get n).port = r.port ∧ (l.slots.get n).source = r.source
    let functionBad (f : Fn) : Prop := ∀ r : FunctionRec, st.functions[f.idx] = some r →
      ¬ (r.order.length = 4 ∧ ∀ k : Claimant, k ∈ r.order)
    let mapBad (i : Fin 32) : Prop := ∀ x : Option MapEntry, st.map[i] = some x → ∃ e ∈ x,
      let kind := l.channels[e.chan].kind
      e.contrib = .level ∧ e.fn ≠ .panel ∨ e.contrib = .flash ∧ e.fn ≠ .turnL ∧ e.fn ≠ .turnR ∧ e.fn ≠ .hazard ∨
        e.fn = .fan ∧ e.contrib ≠ .full ∨ kind = .gauge ∨ kind = .none ∨ e.fn = .fan ∧ kind ≠ .motor ∨
        ∃ j : Fin 32, j < i ∧ ∃ o ∈ l.map[j],
          o.fn = .fan ∧ e.fn = .fan ∨ o.chan = e.chan ∧ (e.fn = .fan ∨ o.fn = .fan ∨ o.fn = e.fn)
    let gaugeBad (g : GaugeId) : Prop := ∀ r : GaugeRec, st.gauges.get g = some r →
      r.enabled = true ∧ r.bound = none ∨
        (∃ c ∈ r.bound, l.channels[c].kind ≠ .gauge ∨
          ∃ h : GaugeId, (h = .g1 ∧ g ≠ .g1 ∨ h = .g2 ∧ g = .g3) ∧ (l.gauges.get h).bound = some c) ∨
        r.table.length < 2 ∨ 12 < r.table.length ∨ ¬ (r.table.map Prod.fst).Pairwise (· < ·) ∨
        r.validHigh ≤ r.validLow
    let supplyBad := ∀ r : SupplyRec, st.supply = some r → r.tag = cls ∧ ¬ (r.shed3 < r.shed2 ∧ r.shed2 < r.shed1)
    let fanBad := ∀ r : FanRec, st.fan = some r → ¬ (r.duty1 ≤ r.duty2 ∧ r.duty2 ≤ r.duty3)
    (unitBad → l.unit = UnitRec.default) ∧ (∀ r : UnitRec, st.unit = some r → ¬ unitBad → l.unit = r) ∧
    (st.inputs = none → l.inputs = inputsDefault) ∧ (∀ r : PerInput InputRec, st.inputs = some r → l.inputs = r) ∧
    (∀ m : SlotId, (slotBad m → l.slots.get m = SlotRec.default m) ∧
      ∀ r : SlotRec, st.slots.get m = some r → ¬ slotBad m → l.slots.get m = r) ∧
    (∀ f : Fn, (functionBad f → l.functions[f.idx] = FunctionRec.default f) ∧
      ∀ r : FunctionRec, st.functions[f.idx] = some r → ¬ functionBad f → l.functions[f.idx] = r) ∧
    (∀ c : Channel, (st.channels[c] = none → l.channels[c] = ChannelRec.default c) ∧
      ∀ r : ChannelRec, st.channels[c] = some r → l.channels[c] = r) ∧
    (∀ i : Fin 32, (mapBad i → l.map[i] = none) ∧
      ∀ x : Option MapEntry, st.map[i] = some x → ¬ mapBad i → l.map[i] = x) ∧
    (∀ g : GaugeId, (gaugeBad g → l.gauges.get g = GaugeRec.default cls g) ∧
      ∀ r : GaugeRec, st.gauges.get g = some r → ¬ gaugeBad g → l.gauges.get g =
        if r.tag = cls then r else { r with target := if cls = .c12 then 10000 else 5000 }) ∧
    (st.flasher = none → l.flasher = FlasherRec.default) ∧ (∀ r : FlasherRec, st.flasher = some r → l.flasher = r) ∧
    (supplyBad → l.supply = SupplyRec.default cls) ∧
    (∀ r : SupplyRec, st.supply = some r → ¬ supplyBad →
      l.supply = if r.tag = cls then r else SupplyRec.default cls) ∧
    (fanBad → l.fan = FanRec.default) ∧ (∀ r : FanRec, st.fan = some r → ¬ fanBad → l.fan = r) ∧
    ((loadStore st).defaulted = true ↔
      unitBad ∨ st.inputs = none ∨ (∃ m : SlotId, slotBad m) ∨ (∃ f : Fn, functionBad f) ∨
        (∃ c : Channel, st.channels[c] = none) ∨ (∃ i : Fin 32, mapBad i) ∨ (∃ g : GaugeId, gaugeBad g) ∨
        st.flasher = none ∨ supplyBad ∨ fanBad)

/-- A bus sample below 3,600 mV is a brown-out: every block takes its reset values and the part is held in reset, its
reset cause record and its store kept (R113, R188). The working copy stands until the next start (log 37). -/
def Obligations.BrownOutHoldsThePart : Prop :=
  ∀ (s : State) (r : Request) (quantity : Nat),
    s.request? .bus = some r → s.servesNow r = true → quantity < 3600 →
      ∃ t, exec (.conversionDone .bus quantity) s = .next t ∧ t.BlocksReset ∧ t.power.part = .held ∧
        t.power.lastReset = s.power.lastReset ∧ t.power.brownOuts = s.power.brownOuts ∧
        t.store = s.storeAfterReset ∧ t.cfg = s.cfg ∧ t.pending = s.pending

/-! ### Invariants that every step keeps -/

/-- Every slot's pending events lie within that slot's event mask (R181). -/
def Obligations.EventsStayMasked : Prop :=
  ∀ (s t : State), step s = .next t → s.EventsMasked → t.EventsMasked

/-- A channel in OFF, WAITING, COOLING or LATCHED has applied duty 0, no wrapped part and a negated gate (R49, R52). No
LATCHED channel's release condition holds (R79, R81). Every duty is at most 250 (R46, R141, R158), every phase at most
249 (R43, R44). -/
def Obligations.IdleChannelsStayDark : Prop :=
  (∀ (s t : State), step s = .next t → s.PhasesInRange →
    t.PhasesInRange ∧ (s.IdleChannelsDark → t.IdleChannelsDark)) ∧
  (∀ (s t : State), step s = .next t → s.MapChecked → s.FanFollowsChannel → s.LatchesStand → t.LatchesStand) ∧
  ∀ (s t : State), step s = .next t → s.ValuesOfKind → s.DutiesInRange → t.DutiesInRange

/-- The admission queue holds exactly the channels in WAITING, once each, URGENT places first, a channel with its stop
mark set on an URGENT place, and the in-window set exactly the channels in INRUSH, once each (R52, R57, R58, R59, R61).
Where a place goes (R58, R59): a joining channel stands behind the last URGENT place with its stop mark set, else at
the tail; a promoted one stands behind the last URGENT place. Said for a queue whose head stays, so that no admission
follows (R62). -/
def Obligations.QueueAndWindowStayTrue : Prop :=
  (∀ (s t : State), step s = .next t → s.QueueIsWaiting → s.WindowIsInrush →
    t.QueueIsWaiting ∧ t.WindowIsInrush ∧ (s.StopsAreUrgent → t.StopsAreUrgent)) ∧
  ∀ (c : Channel) (s : State), s.QueueIsWaiting →
    let urgent := s.queue.filter fun x => x.2 == .urgent
    let normal := s.queue.filter fun x => x.2 == .normal
    (c ∉ s.queued → s.queue ≠ [] → (s.chan c).stop = false →
      s.join c = { s.setChan c { s.chan c with st := .waiting } with queue := s.queue ++ [(c, .normal)] }) ∧
    (c ∉ s.queued → urgent ≠ [] → (s.chan c).stop = true →
      s.join c = { s.setChan c { s.chan c with st := .waiting } with queue := urgent ++ (c, .urgent) :: normal }) ∧
    ((c, .normal) ∈ s.queue → urgent ≠ [] →
      s.promote c = { s with queue := urgent ++ (c, .urgent) :: normal.filter fun x => x.1 != c }) ∧
    ((c, .normal) ∉ s.queue → s.promote c = s)

/-- Every result is what the claims, the ignition gate and the shed level give (R12, R16), and a change of filtered IGN
leaves the claims in the table and finds them again (R14). What they give: 0 with the gate IGN and filtered IGN not
active (R14) or the shed level at the shed rank (R15); else what the combine rule makes of the present claims, orphaned
ones among them (R13): ANY on an on/off function, 1 where a claim is 1; ANY on PANEL and FAN, the first nonzero value
in rank order; HIGHEST, the largest value, as ANY on an on/off function; PRIORITY, the first value in rank order; and 0
where there is none. -/
def Obligations.ResultsStayEvaluated : Prop :=
  (∀ (s t : State), step s = .next t → s.ResultsEvaluated → t.ResultsEvaluated) ∧
  (∀ (c : Instr) (s t : State), (c = .inputSeed .ign ∨ c = .filteredLevelChange .ign) → exec c s = .next t →
    t.claims = s.claims ∧ (s.ResultsEvaluated → t.ResultsEvaluated)) ∧
  ∀ (f : Fn) (s : State),
    let r := s.fnRec f
    let claims (k : Claimant) (n : Nat) : Prop := ∃ c : Claim, s.cell f k = some c ∧ c.value = n
    let suppressed := r.rank = .r1 ∧ 1 ≤ s.sup.shed ∨ r.rank = .r2 ∧ 2 ≤ s.sup.shed ∨ r.rank = .r3 ∧ 3 ≤ s.sup.shed
    let off := r.gate = .ign ∧ (s.input .ign).filtered ≠ some true ∨ suppressed
    (off → s.evaluated f = 0) ∧
    (¬ off → f ≠ .panel → f ≠ .fan →
      r.combine = .any ∨ r.combine = .highest ∧ (∀ (k : Claimant) (n : Nat), claims k n → n ≤ 1) →
      ((∃ k : Claimant, claims k 1) → s.evaluated f = 1) ∧ ((∀ k : Claimant, ¬ claims k 1) → s.evaluated f = 0)) ∧
    (¬ off → f = .panel ∨ f = .fan → r.combine = .any →
      (∀ (ahead behind : List Claimant) (k : Claimant) (n : Nat), r.order = ahead ++ k :: behind → claims k n → n ≠ 0 →
        (∀ j ∈ ahead, ∀ m : Nat, claims j m → m = 0) → s.evaluated f = n) ∧
      ((∀ k ∈ r.order, ∀ n : Nat, claims k n → n = 0) → s.evaluated f = 0)) ∧
    (¬ off → r.combine = .highest →
      (∀ (k : Claimant) (n : Nat), claims k n → n ≤ s.evaluated f) ∧
        (s.evaluated f = 0 ∨ ∃ k : Claimant, claims k (s.evaluated f))) ∧
    (¬ off → r.combine = .priority →
      (∀ (ahead behind : List Claimant) (k : Claimant) (n : Nat), r.order = ahead ++ k :: behind → claims k n →
        (∀ j ∈ ahead, s.cell f j = none) → s.evaluated f = n) ∧
      ((∀ k ∈ r.order, s.cell f k = none) → s.evaluated f = 0))

/-- Every claim and result is a value of its function's kind (R1, R5, R6). A silence timer runs only in LIVE, only
claims of a SILENT slot are orphaned, only orphaned claims are held (R18 to R21). L's cells hold a claim of 1 on STOP
and on HAZARD exactly while filtered BRAKE and HAZARD are active, and none else, never orphaned and never held, whatever
the masters send (R5, R10). -/
def Obligations.ClaimTableStaysTrue : Prop :=
  (∀ (s t : State), step s = .next t → s.ValuesOfKind → t.ValuesOfKind) ∧
  (∀ (s t : State), step s = .next t → s.LocalClaimsFollowInputs → t.LocalClaimsFollowInputs) ∧
  ∀ (s t : State), step s = .next t → s.SilenceMarks → t.SilenceMarks

/-- Gauge slots stay bound to GAUGE channels only and map entries to LAMP and MOTOR channels, a FAN entry the only one
of its function and of its MOTOR channel (R27, R31, R44, R139), and every composed channel's demand, source, stop mark
and entry presence stay those of its active entries and the flash phase (R34, R35, R37, R38). The fan channel's demand
is the one of the fan's state, STEADY, and the fan's state follows T, the crank state and the channel (R36, R160 to
R167); T is the step duty of the capped FAN step (R159). The generator is idle exactly while no flashing is demanded
(R91, R95). A gauge slot that computes has its target, duty and UNDERDRIVE computed, and its channel has the duty as its
demand (R142, R145, R148 to R152). Which entries are active (R32, R33): a TURN_L or TURN_R FLASH entry with its side,
which HAZARD makes active too, every other, a HAZARD FLASH entry among them, with its function's result. What they give
(R26, R34, R35, R38): with an active FLASH entry 250 in ON_PHASE and 0 else, FLASH; without one the largest of 250 for
FULL, the level for DIM and the result for LEVEL, 0 with none, STEADY; the stop mark and the entry presence are set with
an active STOP entry and with any active entry. -/
def Obligations.DemandsStayComposed : Prop :=
  (∀ (s t : State), step s = .next t → s.BoundAreGauges → s.MapChecked →
    t.BoundAreGauges ∧ t.MapChecked ∧ (s.DemandsComposed → t.DemandsComposed) ∧
      (s.FanTargetComputed → t.FanTargetComputed) ∧
      (s.QueueIsWaiting → s.FanFollowsChannel → t.FanFollowsChannel) ∧
      (s.FlashFollowsDemand → t.FlashFollowsDemand) ∧
      (s.FanFollowsChannel → s.GaugesComputed → t.GaugesComputed)) ∧
  ∀ (c : Channel) (s : State),
    let left := s.result .turnL ≠ 0 ∨ s.result .hazard ≠ 0
    let right := s.result .turnR ≠ 0 ∨ s.result .hazard ≠ 0
    let active (e : MapEntry) : Prop :=
      if e.contrib = .flash ∧ e.fn = .turnL then left
      else if e.contrib = .flash ∧ e.fn = .turnR then right
      else s.result e.fn ≠ 0
    let on (e : MapEntry) : Prop := (∃ i : Fin 32, s.cfg.map[i] = some e) ∧ e.chan = c ∧ active e
    let duty (e : MapEntry) : Nat := match e.contrib with
      | .full => 250
      | .dim level => level
      | .level => s.result e.fn
      | .flash => 0
    (s.follows c = true ↔ ∃ e : MapEntry, on e ∧ e.contrib = .flash) ∧
    (s.follows c = true → s.flash.state = .onPhase → s.composed c = (250, .flash)) ∧
    (s.follows c = true → s.flash.state ≠ .onPhase → s.composed c = (0, .flash)) ∧
    (s.follows c = false → (s.composed c).2 = .steady ∧ (∀ e : MapEntry, on e → duty e ≤ (s.composed c).1) ∧
      ((s.composed c).1 = 0 ∨ ∃ e : MapEntry, on e ∧ duty e = (s.composed c).1)) ∧
    (s.stopActive c = true ↔ ∃ e : MapEntry, on e ∧ e.fn = .stop) ∧ (s.anyActive c = true ↔ ∃ e : MapEntry, on e)

/-- No gauge slot is ACTIVE in CRANK and none is HELD in NORMAL (R143). The shed level stays 0 to 3, with a rise
counter below 3 and a fall counter above 0 (R111, R121). The handling of a bus sample is complete with its command: none
is in hand and no counter of samples stands where it would move the crank state or the shed level (R112, R115, R121).
Filtered START moves the crank state with its own change: it is never active in NORMAL, and in CRANK the exit counter
stands at 20 only while it is active (R115, R116). -/
def Obligations.SupplyStatesStayLegal : Prop :=
  (∀ (s t : State), step s = .next t → s.GaugesFollowCrank → t.GaugesFollowCrank) ∧
  (∀ (s t : State), step s = .next t → s.ShedCounters → t.ShedCounters) ∧
  (∀ (s t : State), step s = .next t → s.SamplesHandled → t.SamplesHandled) ∧
  ∀ (s t : State), step s = .next t → s.CrankFollowsStart → t.CrankFollowsStart

/-- Every frame body and every reply body holds at most 56 octets (R170, R176). -/
def Obligations.BodiesStayShort : Prop :=
  ∀ (s t : State), step s = .next t → s.BodiesFit → t.BodiesFit

/-! ### The drive period -/

/-- The period count at a drive period start (R126), from the state `u` with the steps that have fallen due taken (log
2); a start that does not come at the end of its period, or that does not bring the samples already taken, does nothing
(the model's own choices: log 3, 4); in DORMANT there is no start (log 38). Every divisor up to 16 divides 720,720. -/
def Obligations.PeriodCountRises : Prop :=
  ∀ (lines : PerInput Bool) (s u : State), s.settle = u →
    let comes := (u.clock = .awaiting ∨ u.clock = .step 249 ∧ u.conversionDue = false) ∧
      ∀ i : InputId, (u.input i).sampledNow = true →
        (u.cfg.inputs.get i).polarity.rawLevel (lines.get i) = (u.input i).raw
    (u.running = true → comes →
      ∃ t, exec (.drivePeriodStart lines) s = .next t ∧
        t.seq.periodCount =
          if u.power.part = .starting ∧ u.power.starts = 0 then 0 else (u.seq.periodCount + 1) % 720720) ∧
    (u.running = true → ¬ comes → exec (.drivePeriodStart lines) s = .next s) ∧
    (s.power.part = .dormant → exec (.drivePeriodStart lines) s = .next s) ∧
    ∀ d : Nat, d < 17 → d ≠ 0 → 720720 % d = 0

/-- DRIVE_PERIOD_START samples each input (R187) and moves every timer by one start: silence and hold timers (R18, R21),
fault hold timers (R146), the flash counter within its phase's length (R92) but not at the first start of a wake (R105;
log 20), the counts of starts (R189, R190; log 45). `u` is the state with the steps that have fallen due taken (log 2),
and the start comes at the end of a period (log 4); the marks of steps taken ahead of the start are log 3 and 20. An
idle generator keeps its start pending mark and counts nothing; the start that comes with the mark set is the one that
FLASH_START enters ON_PHASE with (R91). A start that a phase entered ahead of it, or a silence, has taken already
neither begins a new cycle (R95) nor raises the timer of a slot heard again (R20; log 3). -/
def Obligations.PeriodStartCounts : Prop :=
  ∀ (lines : PerInput Bool) (s u : State), s.settle = u → u.running = true →
    (u.clock = .awaiting ∨ u.clock = .step 249 ∧ u.conversionDue = false) →
    (∀ i : InputId, (u.input i).sampledNow = true →
      (u.cfg.inputs.get i).polarity.rawLevel (lines.get i) = (u.input i).raw) →
    ∃ t, exec (.drivePeriodStart lines) s = .next t ∧ t.clock = .started ∧
      (∀ i : InputId, (u.input i).sampledNow = false →
        let raw := (u.cfg.inputs.get i).polarity.rawLevel (lines.get i)
        t.input i = { u.input i with
          raw := raw,
          run := match (u.input i).filtered with
            | none =>
              if raw = (u.input i).raw ∧ (u.input i).run ≠ 0 then min (u.debounce i) ((u.input i).run + 1) else 1
            | some l => if raw = l then 0 else min (u.debounce i) ((u.input i).run + 1) }) ∧
      (∀ i : InputId, (u.input i).sampledNow = true → t.input i = { u.input i with sampledNow := false }) ∧
      (∀ m : SlotId, (t.slot m).st = (u.slot m).st ∧ (t.slot m).pending = (u.slot m).pending ∧
        ((u.slot m).st = .live → u.power.wakeStart = false → (u.slot m).silencedNow = false →
          (t.slot m).timer = (u.slot m).timer.map (· + 1)) ∧
        ((u.slot m).st ≠ .live ∨ u.power.wakeStart = true ∨ (u.slot m).silencedNow = true →
          (t.slot m).timer = (u.slot m).timer) ∧
        (t.slot m).silencedNow = false ∧
        ((u.slot m).silencedNow = false → ∀ f : Fn, t.holdOf m f = (u.holdOf m f).map (· - 1))) ∧
      (∀ g : GaugeId, t.gauge g = { u.gauge g with timer := (u.gauge g).timer.map (· - 1) }) ∧
      (∀ cy : Cycle, u.flash.phase = .onPhase cy → u.flash.uncounted = false → u.power.wakeStart = false →
        t.flash = if cy.counter + 1 < cy.onLength then
            { u.flash with phase := .onPhase { cy with counter := cy.counter + 1 } }
          else { u.flash with ended := true }) ∧
      (∀ cy : Cycle, u.flash.phase = .offPhase cy → u.flash.uncounted = false → u.power.wakeStart = false →
        t.flash = if cy.counter + 1 < cy.offLength then
            { u.flash with phase := .offPhase { cy with counter := cy.counter + 1 } }
          else { u.flash with ended := true }) ∧
      ((u.flash.uncounted = true ∨ u.power.wakeStart = true) →
        ∀ cy : Cycle, (u.flash.phase = .onPhase cy ∨ u.flash.phase = .offPhase cy) →
          t.flash = { u.flash with uncounted := false }) ∧
      (∀ p b : Bool, u.flash.phase = .idle p b → t.flash = { u.flash with
        phase := .idle p (if u.flash.uncounted = true then b else p), uncounted := false }) ∧
      t.power = { u.power with
        starts := if u.power.part = .starting then min 5 (u.power.starts + 1) else u.power.starts,
        quiet := if u.power.part = .active then u.power.quiet + 1 else u.power.quiet, wakeStart := false } ∧
      t = { u with clock := t.clock, power := t.power, inputs := t.inputs, slots := t.slots, claims := t.claims,
                   gauges := t.gauges, flash := t.flash, chans := t.chans, queue := t.queue, window := t.window,
                   gates := t.gates, fan := t.fan, seq := t.seq }

/-- DRIVE_PERIOD_START takes up each channel's demand by its state (R52 to R56, R64, R77): a channel in RUN or INRUSH
is driven with it or goes to OFF, a GAUGE channel enters RUN, an on-edge mark bypasses the queue, a STEADY demand joins
it, any other demand leaves a WAITING channel at its place unless it is admitted, a cool-off timer falls by 1. In each
class of the queue the places held before keep their order, and the joiners follow in channel order, URGENT where the
stop mark is set (R57, R58); the head fails the admission test, or is the head before at a start at which no channel
left the in-window set, so that its sum did not fall (R61, R62). The fan in RAMP moves the
duty taken up toward T by at most the ramp rate (R163). The order within the start: log 25; which starts come: log 2,
3, 4. -/
def Obligations.PeriodStartTakesUpDemands : Prop :=
  ∀ (lines : PerInput Bool) (s u : State), s.settle = u → u.running = true →
    (u.clock = .awaiting ∨ u.clock = .step 249 ∧ u.conversionDue = false) →
    (∀ i : InputId, (u.input i).sampledNow = true →
      (u.cfg.inputs.get i).polarity.rawLevel (lines.get i) = (u.input i).raw) → u.QueueIsWaiting →
    ∃ t, exec (.drivePeriodStart lines) s = .next t ∧ (∀ c : Channel,
      let a := u.chan c
      let b := t.chan c
      ((a.st = .run ∨ a.st = .inrush) → a.demand ≠ 0 →
        b.st = a.st ∧ b.applied = a.demand ∧ b.prevDuty = a.applied ∧ b.onEdge = false ∧
          b.trips = a.trips ∧ b.admCount = countAdmission a.admCount) ∧
      (a.st = .run → a.demand ≠ 0 → b.runCount = countRun a.runCount ∧ b.opening = false) ∧
      (a.st = .inrush → a.demand ≠ 0 → a.admCount = none →
        b.opening = true ∧ b.inrushTimer = a.inrushTimer) ∧
      (a.st = .inrush → a.demand ≠ 0 → a.admCount ≠ none →
        b.opening = false ∧ b.inrushTimer = a.inrushTimer.map (· - 1)) ∧
      ((a.st = .run ∨ a.st = .inrush ∨ a.st = .waiting) → a.demand = 0 →
        b.st = .off ∧ b.applied = 0 ∧ t.gates.out[c] = false ∧ c ∉ t.queued ∧ t.inWindow c = false) ∧
      (a.st = .off → a.demand = 0 → b.st = .off) ∧
      (a.st = .off → a.demand ≠ 0 → (u.chRec c).kind = .gauge → b.st = .run ∧ b.applied = a.demand) ∧
      ((a.st = .off ∧ ((u.chRec c).kind = .lamp ∨ (u.chRec c).kind = .motor) ∨ a.st = .waiting) → a.demand ≠ 0 →
        a.source = .flash → a.onEdge = true →
        b.st = (if u.inrushTime c = 0 then .run else .inrush) ∧ b.applied = 250 ∧ c ∉ t.queued ∧
          t.inWindow c = (u.inrushTime c != 0 || u.inWindow c)) ∧
      (a.st = .off → (u.chRec c).kind ≠ .gauge → a.source = .flash → a.onEdge = false → b.st = .off) ∧
      (a.st = .off → ((u.chRec c).kind = .lamp ∨ (u.chRec c).kind = .motor) → a.demand ≠ 0 → a.source = .steady →
        (b.st = .waiting ∧ c ∈ t.queued) ∨ b.st = .inrush ∨ b.st = .run) ∧
      (a.st = .waiting → a.demand ≠ 0 → (a.source = .steady ∨ a.onEdge = false) →
        (b = a ∧ c ∈ t.queued) ∨ (b.st = (if u.inrushTime c = 0 then .run else .inrush) ∧ b.applied = a.applied ∧
          c ∉ t.queued)) ∧
      (a.st = .cooling → b.st = .cooling ∧ b.onEdge = false ∧ b.coolOff = a.coolOff.map (· - 1)) ∧
      (a.st = .latched → b.st = .latched ∧ b.onEdge = false ∧ b.trips = a.trips)) ∧
      (∀ x ∈ t.queue, x ∈ u.queue ∨
        (u.chan x.1).st = .off ∧ x.2 = if (u.chan x.1).stop = true then .urgent else .normal) ∧
      (t.queue.Pairwise fun x y => y.2 = .urgent → x.2 = .urgent) ∧
      (t.queue.Pairwise fun x y => x.2 = y.2 →
        (x ∈ u.queue → y ∈ u.queue → [x, y].Sublist u.queue) ∧ (x ∉ u.queue → y ∉ u.queue ∧ x.1 < y.1)) ∧
      (∀ d : Channel, t.queued.head? = some d → t.window ≠ [] ∧
        t.cfg.supply.allowance < t.windowSum + (t.chRec d).rated * (t.chRec d).inrushFactor ∨
        u.queued.head? = some d ∧ ∀ w ∈ u.window, t.inWindow w.1 = true) ∧
      ∀ c : Channel, u.fanChannel = some c → (u.chan c).st = .run →
        let d := (u.chan c).demand
        let next := if d < u.fan.target then min u.fan.target (d + u.cfg.fan.rampRate)
          else max u.fan.target (d - u.cfg.fan.rampRate)
        (u.fan.st ≠ .ramp → t.fan = u.fan) ∧
        (u.fan.st = .ramp → d ≠ 0 → d = u.fan.target → t.fan = { u.fan with st := .running, ramp := d }) ∧
        (u.fan.st = .ramp → d ≠ 0 → d ≠ u.fan.target →
          t.fan = { u.fan with ramp := next } ∧ (t.chan c).demand = next ∧ (t.chan c).source = .steady)

/-- DRIVE_PERIOD_START abandons what the period before left on the list and posts the period's requests (R127 to R130,
R132; log 4): the bus, every channel driven, every sender that is due. -/
def Obligations.PeriodStartPostsRequests : Prop :=
  ∀ (lines : PerInput Bool) (s u : State), s.settle = u → u.running = true →
    (u.clock = .awaiting ∨ u.clock = .step 249 ∧ u.conversionDue = false) →
    (∀ i : InputId, (u.input i).sampledNow = true →
      (u.cfg.inputs.get i).polarity.rawLevel (lines.get i) = (u.input i).raw) →
    ∃ t, exec (.drivePeriodStart lines) s = .next t ∧ t.seq.served = none ∧
      (∀ x : Source, t.value x = if (u.request? x).isSome then { u.value x with mark := .held } else u.value x) ∧
      t.request? .bus = some { src := .bus, trigger := 0, slots := [] } ∧
      (∀ c : Channel, t.request? (.channel c) =
        if ((t.chan c).st = .inrush ∨ (t.chan c).st = .run) ∧ 0 < (t.chan c).applied then
          some { src := .channel c, slots := [],
                 trigger := ((t.chRec c).phase + if t.fanChannel = some c then 125 else (t.chan c).applied / 2) % 250 }
        else none) ∧
      ∀ x : Sender, t.request? (.sender x) =
        let due := allGauges.filter fun g =>
          (t.gaugeRec g).enabled && (t.gaugeRec g).mode == .table && (t.gauge g).st != .off &&
            (t.gaugeRec g).sender == x && t.seq.periodCount % (t.gaugeRec g).divisor == 0
        if due = [] then none else some { src := .sender x, trigger := 200 + x.idx, slots := due }

/-- DRIVE_STEP sets every gate (R48, R49, R51): within the on-time from the phase or the wrapped part of the on-time
before; on the fan channel within the first d of the 250 fine ticks of an interval of two steps. The averaging stage
takes the step's current (R129; log 28). A step begins in its order, when the conversion of the step before is done,
and is without effect otherwise (log 4); `u` is the state with the steps that have fallen due taken (log 2). -/
def Obligations.DriveStepSetsGates : Prop :=
  ∀ (n : Fin 250) (sense : Nat) (s u : State), s.settle = u → u.running = true →
    let follows := u.clock = .started ∧ n.val = 0 ∨
      ∃ m : Nat, m < 250 ∧ u.clock = .step m ∧ n.val = m + 1 ∧ u.conversionDue = false
    (¬ follows → exec (.driveStep ⟨n, sense⟩) s = .next s) ∧
    (follows → ∃ t, exec (.driveStep ⟨n, sense⟩) s = .next t ∧ t.clock = .step n.val ∧
      t = { u with clock := t.clock, gates := t.gates, seq := { u.seq with sense := t.seq.sense } } ∧
      t.seq.sense = ((if u.fanChannel = none then 0 else sense) :: u.seq.sense).take 250 ∧
      (∀ c : Channel, u.fanChannel ≠ some c →
        (t.gates.out[c] = true ↔
          ((u.chRec c).phase ≤ n.val ∧ n.val < (u.chRec c).phase + (u.chan c).applied) ∨
            n.val + 250 < (u.chRec c).phase + (u.chan c).prevDuty)) ∧
      ∀ c : Channel, u.fanChannel = some c →
        t.gates.fanTicks = (if n.val % 2 = 0 then min (u.chan c).applied 125 else (u.chan c).applied - 125) ∧
          (t.gates.out[c] = true ↔ if n.val % 2 = 0 then 0 < (u.chan c).applied else 125 < (u.chan c).applied))

/-! ### Admission, inrush and protection -/

/-- INRUSH_EXPIRY: the channel enters RUN and leaves the in-window set; only channels of the queue are admitted, until
the head fails the test (R62, R63, R65). The run count is 0 at the start of the entry to RUN (R82), which is the coming
one where the expiry is taken ahead of it: none till then. A fan in KICK enters RAMP with the lesser of the kick duty
and the cap duty, which it writes (R162). Taken at the start at which the timer reaches 0 or ahead of it, in step 249
once its conversion is done (R125; log 3, 27), and without effect else (log 1). -/
def Obligations.InrushExpires : Prop :=
  ∀ (c : Channel) (s : State),
    let expired := s.running = true ∧ (s.chan c).st = .inrush ∧ (s.chan c).inrushTimer = some 0
    let expires := s.running = true ∧ (s.clock = .awaiting ∨ s.clock = .step 249 ∧ s.conversionDue = false) ∧
      (s.chan c).st = .inrush ∧ (s.chan c).inrushTimer = some 1 ∧ (s.chan c).admCount ≠ none ∧ s.fanChannel ≠ some c
    (¬ expired → ¬ expires → exec (.inrushExpiry c) s = .next s) ∧
    ((expired ∨ expires) → s.QueueIsWaiting → ∃ t, exec (.inrushExpiry c) s = .next t ∧
      t = { s with chans := t.chans, queue := t.queue, window := t.window, fan := t.fan } ∧
      (t.chan c).st = .run ∧ (t.chan c).inrushTimer = none ∧ (t.chan c).opening = false ∧
      (t.chan c).runCount = (if (s.chan c).inrushTimer = some 0 then some 0 else none) ∧
      (t.chan c).applied = (s.chan c).applied ∧ (t.chan c).trips = (s.chan c).trips ∧ t.inWindow c = false ∧
      (∀ d : Channel, d ≠ c → s.fanChannel ≠ some d → (s.chan d).st ≠ .waiting → t.chan d = s.chan d) ∧
      (∀ d : Channel, d ≠ c → (s.chan d).st = .waiting →
        ((t.chan d).st = .waiting ∧ d ∈ t.queued) ∨
          (t.chan d).st = (if s.inrushTime d = 0 then .run else .inrush) ∧ d ∉ t.queued) ∧
      (s.fanChannel = some c → (s.fan.st = .kick ∨ s.fan.st = .starting) →
        let d := min s.cfg.fan.kickDuty (s.cfg.fan.stepDuty (s.cfg.fan.cap s.sup.shed))
        t.fan = { s.fan with st := .ramp, ramp := d } ∧ (t.chan c).demand = d ∧ (t.chan c).source = .steady) ∧
      ∀ d : Channel, t.queued.head? = some d →
        t.window ≠ [] ∧ t.cfg.supply.allowance < t.windowSum + (t.chRec d).rated * (t.chRec d).inrushFactor)

/-- RUN_COUNT_REACHED: after 2,000 starts in RUN the trip count becomes 0 (R82). BULB_OUT_SET and BULB_OUT_CLEAR (R84):
the flag follows a counter that has reached 3, and BULB is raised. Each is without effect else (log 1). -/
def Obligations.HealthCountersAct : Prop :=
  (∀ (c : Channel) (s : State),
    let reached := s.running = true ∧ (s.chan c).st = .run ∧ (s.chan c).runCount = some 2000 ∧ (s.chan c).trips ≠ 0
    (reached → exec (.runCountReached c) s = .next (s.setChan c { s.chan c with trips := 0 })) ∧
      (¬ reached → exec (.runCountReached c) s = .next s)) ∧
  ∀ (c : Channel) (s : State),
    let dark := s.running = true ∧ (s.chan c).low = 3 ∧ (s.chan c).bulbOut = false
    let lit := s.running = true ∧ (s.chan c).high = 3 ∧ (s.chan c).bulbOut = true
    (dark → ∃ t, exec (.bulbOutSet c) s = .next t ∧ (∀ m : SlotId, t.slot m = s.raisedTo .bulb m) ∧
      t = { s.setChan c { s.chan c with bulbOut := true } with slots := t.slots }) ∧
    (lit → ∃ t, exec (.bulbOutClear c) s = .next t ∧ (∀ m : SlotId, t.slot m = s.raisedTo .bulb m) ∧
      t = { s.setChan c { s.chan c with bulbOut := false } with slots := t.slots }) ∧
    (¬ dark → exec (.bulbOutSet c) s = .next s) ∧ (¬ lit → exec (.bulbOutClear c) s = .next s)

/-- OVERCURRENT_TRIP (R70 to R74, R79, R132): in INRUSH or RUN, with the gate asserted (R48, R51) at a step outside edge
blanking (R50, R51; after a period at 250 the blanking of the one before still runs: log 24), a current above the inrush
limit in INRUSH or the run limit in RUN stops the drive at once; without one of these nothing happens. A SHORT, a trip
in LATCH mode and one that reaches the retry limit latch, unless the release condition holds already; any other cools
off. TRIP is raised, the channel's sample request abandoned with its value marked HELD (R132, R134), a fan on the
channel is FAULTED (R167), and after a trip in INRUSH heads are admitted until one fails the test (R62, R66). A trip
that comes with a drive period start and ahead of its take-up (R76) is one of step 249, the model's choice: log 51. -/
def Obligations.OvercurrentTrips : Prop :=
  ∀ (c : Channel) (current n : Nat) (s : State), s.running = true → s.clock = .step n →
    s.QueueIsWaiting → (s.fanChannel = some c → (s.chRec c).kind = .motor) →
    let ch := s.chan c
    let r := s.chRec c
    let asserted := if s.fanChannel = some c then (if n % 2 = 0 then 0 < ch.applied else 125 < ch.applied)
      else r.phase ≤ n ∧ n < r.phase + ch.applied ∨ n + 250 < r.phase + ch.prevDuty
    let blanked := if s.fanChannel = some c then ch.prevDuty = 0 ∧ n < r.blanking
      else 0 < ch.applied ∧ ch.prevDuty ≠ 250 ∧ r.phase ≤ n ∧ n < r.phase + r.blanking ∨
        ch.prevEdge = true ∧ n + 250 < r.phase + r.blanking
    let isOver := (ch.st = .inrush ∧ r.inrushLimit < current ∨ ch.st = .run ∧ r.runLimit < current) ∧
      asserted ∧ ¬ blanked
    let count := if ch.opening = true then ch.trips else ch.trips + 1
    let latches := ch.opening = true ∨ r.protect = .latch ∨ r.retryLimit ≤ count
    let free := if r.kind = .gauge then ch.demand = 0 else ch.present = false
    (¬ isOver → exec (.overcurrentTrip c current) s = .next s) ∧
    (isOver → ∃ t, exec (.overcurrentTrip c current) s = .next t ∧
      t = { s with chans := t.chans, gates := t.gates, window := t.window, queue := t.queue, slots := t.slots,
                   seq := t.seq, fan := t.fan } ∧
      (¬ latches → (t.chan c).st = .cooling ∧ (t.chan c).coolOff = some r.coolOff ∧ (t.chan c).trips = count) ∧
      (latches → ¬ free → (t.chan c).st = .latched ∧ (t.chan c).coolOff = none ∧ (t.chan c).trips = count) ∧
      (latches → free → (t.chan c).st = .off ∧ (t.chan c).trips = 0) ∧
      (t.chan c).tripRec = some {
        cause := if ch.opening = true then .short else .overcurrent, inInrush := ch.st == .inrush,
        periods := ch.admCount.getD 0, step := n, count := count } ∧
      (t.chan c).applied = 0 ∧ (t.chan c).inrushTimer = none ∧ (t.chan c).opening = false ∧
      (t.chan c).admCount = none ∧ (t.chan c).runCount = none ∧ t.gates.out[c] = false ∧
      t.inWindow c = false ∧ t.request? (.channel c) = none ∧
      (∀ x : Source, t.value x =
        if x = .channel c ∧ s.request? x ≠ none then { s.value x with mark := .held } else s.value x) ∧
      (ch.st = .inrush → ∀ d : Channel, t.queued.head? = some d →
        t.window ≠ [] ∧ t.cfg.supply.allowance < t.windowSum + (t.chRec d).rated * (t.chRec d).inrushFactor) ∧
      (s.fanChannel = some c → ((t.chan c).st = .cooling ∨ (t.chan c).st = .latched) →
        t.fan = { s.fan with st := .faulted, ramp := 0, stallRun := 0 } ∧ (t.chan c).source = .steady ∧
        (t.chan c).demand = if s.fan.target ≠ 0 ∧ s.sup.crank = .normal then s.cfg.fan.kickDuty else 0) ∧
      (∀ m : SlotId, t.slot m = s.raisedTo .trip m) ∧
      ∀ d : Channel, d ≠ c → s.fanChannel ≠ some d → (s.chan d).st ≠ .waiting → t.chan d = s.chan d)

/-- STALL_REPORT (R75, R166): the report of a stall is taken. A fan channel in RUN trips with cause STALL, whatever the
fan has done since it reported, a run count at 2,000 acting first (R82), with the fan FAULTED (R167) and the channel's
sample request abandoned (R132); in any other state the report is discarded, with no trip, no record and no event. The
step recorded is the present one; for a report that comes with a drive period start the step is the model's choice: log
51. Without effect while no report is due (log 1). -/
def Obligations.StallTrips : Prop :=
  ∀ (c : Channel) (s : State),
    let due := s.running = true ∧ s.fan.report ≠ none
    let accepted := s.fanChannel = some c ∧ (s.chan c).st = .run
    let count := (if (s.chan c).runCount = some 2000 then 0 else (s.chan c).trips) + 1
    (¬ due → exec .stallReport s = .next s) ∧
    (due → s.fan.report = some c → s.QueueIsWaiting → (s.chRec c).kind = .motor →
    ∃ t, exec .stallReport s = .next t ∧
      (accepted →
        (t.chan c).tripRec = some {
          cause := .stall, inInrush := false, periods := (s.chan c).admCount.getD 0, step := s.stepNow,
          count := count } ∧
        (t.chan c).applied = 0 ∧ t.gates.out[c] = false ∧ t.request? (.channel c) = none ∧
        (∀ x : Source, t.value x =
          if x = .channel c ∧ s.request? x ≠ none then { s.value x with mark := .held } else s.value x) ∧
        (t.chan c).st =
          (if (s.chRec c).protect = .latch ∨ (s.chRec c).retryLimit ≤ count then
            if (s.chan c).present = true then .latched else .off
          else .cooling) ∧
        (((t.chan c).st = .cooling ∨ (t.chan c).st = .latched) →
          t.fan = { s.fan with st := .faulted, ramp := 0, stallRun := 0, report := none } ∧
          (t.chan c).source = .steady ∧
          (t.chan c).demand = if s.fan.target ≠ 0 ∧ s.sup.crank = .normal then s.cfg.fan.kickDuty else 0) ∧
        (∀ m : SlotId, t.slot m = s.raisedTo .trip m) ∧
        t = { s with chans := t.chans, gates := t.gates, window := t.window, queue := t.queue, slots := t.slots,
                     seq := t.seq, fan := t.fan }) ∧
      t.fan.report = none ∧ (¬ accepted → t = { s with fan := { s.fan with report := none } }))

/-- COOL_OFF_EXPIRY (R78): a LAMP or MOTOR channel with a nonzero STEADY demand joins the admission queue, at its tail
as a NORMAL place where the queue is not empty and the stop mark is clear; any other goes to OFF. A FAULTED fan on the
channel leaves FAULTED by T and the crank state (R167; log 34), and follows an admission at once (R162). At the start at
which the timer reaches 0 or ahead of it, in step 249 once its conversion is done (R125; log 3), and without effect else
(log 1). -/
def Obligations.CoolOffExpires : Prop :=
  ∀ (c : Channel) (s : State),
    let expired := s.running = true ∧ (s.chan c).st = .cooling ∧ (s.chan c).coolOff = some 0
    let expires := s.running = true ∧ (s.clock = .awaiting ∨ s.clock = .step 249 ∧ s.conversionDue = false) ∧
      (s.chan c).st = .cooling ∧ (s.chan c).coolOff = some 1
    let rejoins := (s.chan c).demand ≠ 0 ∧ (s.chan c).source = .steady ∧
      ((s.chRec c).kind = .lamp ∨ (s.chRec c).kind = .motor)
    (¬ expired → ¬ expires → exec (.coolOffExpiry c) s = .next s) ∧
    ((expired ∨ expires) → s.QueueIsWaiting → ∃ t, exec (.coolOffExpiry c) s = .next t ∧
      t = { s with chans := t.chans, queue := t.queue, window := t.window, fan := t.fan } ∧
      (t.chan c).coolOff = none ∧ (t.chan c).trips = (s.chan c).trips ∧ (t.chan c).applied = (s.chan c).applied ∧
      (¬ rejoins → (t.chan c).st = .off ∧ t.queue = s.queue ∧ t.window = s.window) ∧
      (rejoins → s.queue ≠ [] → (s.chan c).stop = false →
        (t.chan c).st = .waiting ∧ t.queue = s.queue ++ [(c, .normal)] ∧ t.window = s.window) ∧
      (rejoins → ((t.chan c).st = .waiting ∧ c ∈ t.queued) ∨
        (t.chan c).st = (if s.inrushTime c = 0 then .run else .inrush) ∧ c ∉ t.queued) ∧
      (s.fanChannel = some c → s.fan.st = .faulted →
        (s.fan.target = 0 → t.fan.st = .stopped ∧ t.fan.ramp = 0) ∧
        (s.fan.target ≠ 0 → s.sup.crank = .crank → t.fan.st = .suspended ∧ t.fan.ramp = 0) ∧
        (s.fan.target ≠ 0 → s.sup.crank = .normal →
          t.fan.st = (if (t.chan c).st = .inrush then .kick else if (t.chan c).st = .run then .ramp else .starting) ∧
          ((t.chan c).st ≠ .run → (t.chan c).demand = s.cfg.fan.kickDuty))) ∧
      ∀ d : Channel, d ≠ c → s.fanChannel ≠ some d → (s.chan d).st ≠ .waiting → t.chan d = s.chan d)

/-! ### Flash generator and clicker -/

/-- FLASH_START and ON_PHASE_ENTRY (R91, R92, R96, R97, R98, R100): the speed is FAST exactly where a following channel
with its signal lamp flag has BULB_OUT set, the lengths follow from it, FLASH_FAST is raised where the speed changed, a
tick starts where the clicker is enabled in NORMAL, and every composed channel that follows has demand 250 FLASH, its
on-edge mark set where the demand was 0 or the mark was set (R39). FLASH_START comes with a drive period start after the
start pending mark was set, ON_PHASE_ENTRY with the start that ends the OFF phase; each may be taken ahead of its start,
in step 249 once its conversion is done (R125; log 3), and is without effect else (log 1). A start that the generator
has taken already, with a phase entered ahead of it, begins no new cycle: FLASH_START waits for the next (R95).
The test of the demand (R91, R95), in its two changes: begun while idle, the mark is set and nothing else changes;
ended, the generator is idle without the mark at once, and its speed, its tick and the start it has taken stand. -/
def Obligations.OnPhaseBegins : Prop :=
  (∀ (c : Instr) (cy : Cycle) (s : State), (s.flash.state = .offPhase → s.flash.phase = .offPhase cy) →
    let comes := s.clock = .awaiting ∨ s.clock = .step 249 ∧ s.conversionDue = false
    let begins := s.running = true ∧
      (c = .flashStart ∧ (s.flash.phase = .idle true true ∨
          s.flash.phase = .idle true false ∧ comes ∧ s.flash.uncounted = false) ∨
        c = .onPhaseEntry ∧ s.flash.phase = .offPhase cy ∧ (s.flash.ended = true ∨
          comes ∧ s.power.wakeStart = false ∧ s.flash.uncounted = false ∧ cy.counter + 1 = cy.offLength))
    let speed := if ∃ x : Channel, s.follows x = true ∧ (s.chRec x).signalLamp = true ∧ (s.chan x).bulbOut = true
      then Speed.fast else Speed.configured
    let period := if speed = .fast then max (s.cfg.flasher.period / 2) 40 else s.cfg.flasher.period
    ((c = .flashStart ∨ c = .onPhaseEntry) → ¬ begins → exec c s = .next s) ∧
    (begins → ∃ t, exec c s = .next t ∧ t.flash.speed = speed ∧ t.flash.ended = false ∧
      t.flash.phase = .onPhase { counter := 0, period := period, onLength := (period + 1) / 2,
                                 offLength := period - (period + 1) / 2 } ∧
      (∀ m : SlotId, t.slot m = if speed = s.flash.speed then s.slot m else s.raisedTo .flashFast m) ∧
      (s.cfg.flasher.enable = true → s.sup.crank = .normal →
        t.flash.tone = true ∧ t.flash.tick = some {
          half := (2 * 500000 + s.cfg.flasher.tone) / (2 * s.cfg.flasher.tone),
          length := s.cfg.flasher.tick * 1000, elapsed := 0 }) ∧
      (s.cfg.flasher.enable = false ∨ s.sup.crank = .crank →
        t.flash.tone = s.flash.tone ∧ t.flash.tick = s.flash.tick) ∧
      (∀ x : Channel, s.follows x = true → s.composes x = true → (t.chan x).demand = 250 ∧
        (t.chan x).source = .flash ∧ (t.chan x).onEdge = ((s.chan x).demand == 0 || (s.chan x).onEdge)) ∧
      t = { s with flash := t.flash, slots := t.slots, chans := t.chans, queue := t.queue, window := t.window,
                   fan := t.fan })) ∧
  ∀ (b : Bool) (s : State),
    let demand := s.result .turnL ≠ 0 ∨ s.result .turnR ≠ 0 ∨ s.result .hazard ≠ 0
    let quiet := s.flash.phase = .idle false b
    let t := s.flashTest
    (demand → quiet → t = { s with flash := { s.flash with phase := .idle true false } }) ∧
    (demand → (s.flash.state ≠ .idle ∨ s.flash.phase = .idle true b) → t = s) ∧
    (¬ demand → quiet → t = s) ∧
    (¬ demand → (s.flash.state ≠ .idle ∨ s.flash.phase = .idle true b) →
      t.flash = { s.flash with phase := .idle false false, ended := false } ∧
      t = { s with flash := t.flash, chans := t.chans, queue := t.queue, window := t.window, fan := t.fan })

/-- OFF_PHASE_ENTRY (R92, R100, R101): with the start that ends the ON phase, or ahead of it, in step 249 once its
conversion is done (R125; log 3), the counter restarts, the lengths and the speed stand, a tick of the configured length
and half tone period starts where the clicker is enabled in NORMAL, and every composed channel that follows has demand 0
FLASH, its on-edge mark clear (R39). Without effect else (log 1). -/
def Obligations.OffPhaseBegins : Prop :=
  ∀ (cy : Cycle) (s : State), (s.flash.state = .onPhase → s.flash.phase = .onPhase cy) →
    let begins := s.running = true ∧ s.flash.phase = .onPhase cy ∧ (s.flash.ended = true ∨
      (s.clock = .awaiting ∨ s.clock = .step 249 ∧ s.conversionDue = false) ∧ s.power.wakeStart = false ∧
        s.flash.uncounted = false ∧ cy.counter + 1 = cy.onLength)
    (¬ begins → exec .offPhaseEntry s = .next s) ∧
    (begins → ∃ t, exec .offPhaseEntry s = .next t ∧ t.flash.speed = s.flash.speed ∧ t.flash.ended = false ∧
      t.flash.phase = .offPhase { cy with counter := 0 } ∧
      (s.cfg.flasher.enable = true → s.sup.crank = .normal →
        t.flash.tone = true ∧ t.flash.tick = some {
          half := (2 * 500000 + s.cfg.flasher.tone) / (2 * s.cfg.flasher.tone),
          length := s.cfg.flasher.tick * 1000, elapsed := 0 }) ∧
      (s.cfg.flasher.enable = false ∨ s.sup.crank = .crank →
        t.flash.tone = s.flash.tone ∧ t.flash.tick = s.flash.tick) ∧
      (∀ x : Channel, s.follows x = true → s.composes x = true →
        (t.chan x).demand = 0 ∧ (t.chan x).source = .flash ∧ (t.chan x).onEdge = false) ∧
      t = { s with flash := t.flash, chans := t.chans, queue := t.queue, window := t.window, fan := t.fan })

/-- TICK_END and TONE_HALF_PERIOD (R100): a tick whose length falls within the present half ends with the tone output
negated (log 30); a half that ends within the tick turns the tone output over. Each is without effect else, and with no
tick in progress (log 1). -/
def Obligations.TickRunsAndEnds : Prop :=
  (∀ (k : Tick) (s : State), s.flash.tick = some k →
    (k.length ≤ k.elapsed + k.half →
      exec .tickEnd s = .next { s with flash := { s.flash with tick := none, tone := false } } ∧
        exec .toneHalfPeriod s = .next s) ∧
      (k.elapsed + k.half < k.length →
        exec .tickEnd s = .next s ∧
        exec .toneHalfPeriod s = .next { s with flash := { s.flash with
          tick := some { k with elapsed := k.elapsed + k.half }, tone := !s.flash.tone } })) ∧
  ∀ (s : State), s.flash.tick = none → exec .tickEnd s = .next s ∧ exec .toneHalfPeriod s = .next s

/-! ### Measurement -/

/-- CONVERSION_DONE of a channel (R125, R131, R133, R134, R83, R166): the reading, limited to the top of the range, is
the source's FRESH value, the request is gone, the converter is busy for the step, and the reading counts for lamp
health and for the fan's stall run, which at the stall samples makes a stall report due and becomes 0. The fan channel's
reading is the mean of the most recent 250 drive steps (R129; its rounding is free: log 42). -/
def Obligations.ChannelConversion : Prop :=
  ∀ (c : Channel) (quantity n : Nat) (r : Request) (s : State),
    s.request? (.channel c) = some r → s.clock = .step n → s.servesNow r = true →
    let mean := s.seq.sense.sum / 250 +
      if s.seq.sense.sum % 250 ≠ 0 ∧ Config.averageRoundsUp s.seq.sense.sum = true then 1 else 0
    let v := min 40000 (if s.fanChannel = some c then mean else quantity)
    ∃ t, exec (.conversionDone (.channel c) quantity) s = .next t ∧
      t = { s with seq := t.seq, chans := t.chans, fan := t.fan } ∧
      t.seq.requests = s.seq.requests.filter (fun q => q.src != .channel c) ∧ t.seq.served = some n ∧
      (∀ x : Source, t.value x = if x = .channel c then ⟨some v, .fresh⟩ else s.value x) ∧
      (∀ d : Channel, t.chan d =
        if d = c ∧ (s.chan c).st = .run ∧ (s.chRec c).openThreshold ≠ 0 then
          { s.chan c with
            low := if v < (s.chRec c).openThreshold then min 3 ((s.chan c).low + 1) else 0,
            high := if v < (s.chRec c).openThreshold then 0 else min 3 ((s.chan c).high + 1) }
        else s.chan d) ∧
      t.fan = if s.fanChannel = some c ∧ (s.fan.st = .ramp ∨ s.fan.st = .running) ∧ (s.chan c).st = .run then
          if v ≤ s.cfg.fan.stallThreshold then { s.fan with stallRun := 0 }
          else if s.fan.stallRun + 1 < s.cfg.fan.stallSamples then { s.fan with stallRun := s.fan.stallRun + 1 }
          else { s.fan with stallRun := 0, report := some c }
        else s.fan

/-- CONVERSION_DONE of the bus: the handling of a bus sample, a single operation (R112, R114 to R117, R119 to R121,
R134), on `u`, where a crank state that START has brought is taken (R115, R116; log 26). In NORMAL a sample that is not
the second low one is filtered into Vf, the crank entry counter counts it, each ACTIVE gauge slot recomputes on a new Vf
(R151), GAUGE being raised exactly where an UNDERDRIVE changes by it (R150, R153), the rise counter counts a Vf below
the next level's threshold and the fall counter one above the present level's plus the hysteresis, each restarting at 0
else, and a counter that reaches the dwell moves the level with all that SHED_RISE or SHED_FALL does (R121). The second
low sample enters CRANK with all that CRANK_ENTRY does and goes no further. In CRANK the exit counter counts the sample
and Vf stands; the sample that brings it to 20 with START inactive makes the return with all that CRANK_EXIT does, is
filtered and is counted for dwell. The source has the reading, FRESH, its request is gone, and the converter is busy for
the step (R131, R133). -/
def Obligations.BusConversion : Prop :=
  ∀ (quantity n : Nat) (r : Request) (s u : State), s.request? .bus = some r → s.clock = .step n →
    s.servesNow r = true → 3600 ≤ quantity → u = s.settleSupply →
    let v := min 25000 quantity
    let low := v < u.cfg.supply.crankThreshold
    let threshold (k : Nat) : Nat := if k = 1 then u.cfg.supply.shed1 else if k = 2 then u.cfg.supply.shed2
      else u.cfg.supply.shed3
    let rise (vf : Nat) : Option Nat := if u.sup.shed < 3 then
      u.sup.rise.map fun k => if vf < threshold (u.sup.shed + 1) then min u.cfg.supply.dwell (k + 1) else 0 else none
    let fall (vf : Nat) : Option Nat := if 0 < u.sup.shed then
      u.sup.fall.map fun k => if threshold u.sup.shed + u.cfg.supply.hysteresis < vf then min u.cfg.supply.dwell (k + 1)
        else 0 else none
    let seq : Sequencer := { u.seq with requests := u.seq.requests.filter (fun q => q.src != .bus), served := some n,
                                        values := u.seq.values.set 0 ⟨some v, .fresh⟩ }
    let levelMoves (w t : State) : Prop :=
      if w.sup.shed < 3 ∧ ∃ k ∈ w.sup.rise, w.cfg.supply.dwell ≤ k then exec .shedRise w = .next t
      else if 0 < w.sup.shed ∧ ∃ k ∈ w.sup.fall, w.cfg.supply.dwell ≤ k then exec .shedFall w = .next t else t = w
    ∃ t, exec (.conversionDone .bus quantity) s = .next t ∧
      (u.sup.crank = .normal → (low → u.sup.crankIn = 0) →
        let vf := filterStep u.sup.vf v
        ∃ w : State, levelMoves w t ∧
          w = { u with
            seq := seq, gauges := w.gauges, slots := w.slots, chans := w.chans, fan := w.fan,
            sup := { u.sup with vf := some vf, crankIn := if low then 1 else 0, rise := rise vf, fall := fall vf } } ∧
          (u.sup.vf = some vf → w = { u with seq := seq, sup := w.sup }) ∧
          ((∃ g : GaugeId, (w.gauge g).under ≠ (u.gauge g).under) → ∀ m : SlotId, w.slot m = u.raisedTo .gauge m) ∧
          ((∀ g : GaugeId, (w.gauge g).under = (u.gauge g).under) → w.slots = u.slots) ∧
          (∀ g : GaugeId, (u.gauge g).st ≠ .active → w.gauge g = u.gauge g) ∧
          ∀ (g : GaugeId) (vt : Nat), u.sup.vf ≠ some vf → (u.gauge g).st = .active → u.gaugeTarget g = some vt →
            w.gauge g = { u.gauge g with vt := some vt, under := decide (vf ≤ vt),
                                         duty := if vf ≤ vt then 250 else (250 * vt ^ 2 + vf ^ 2 / 2) / vf ^ 2 }) ∧
      (u.sup.crank = .normal → low → u.sup.crankIn ≠ 0 →
        exec .crankEntry { u with seq := seq, sup := { u.sup with crankIn := 2 } } = .next t) ∧
      (u.sup.crank = .crank →
        let out := if u.cfg.supply.crankThreshold + u.cfg.supply.crankMargin ≤ v then min 20 (u.sup.crankOut + 1) else 0
        let returns := out = 20 ∧ (u.input .start).filtered ≠ some true
        (¬ returns → t = { u with seq := seq, sup := { u.sup with crankOut := out, inHand := none } }) ∧
        (returns → ∃ w, exec .crankExit
          { u with seq := seq, sup := { u.sup with crankOut := 20, inHand := some v } } = .next w ∧ levelMoves w t))

/-- Vf moves toward a sample by an eighth of the difference, truncated toward zero; it never crosses the sample, and a
difference of 7 mV or less leaves it (R114). The computed duty is at most 250, is 250 with UNDERDRIVE set exactly where
Vf is at or below Vt, is 0 for a target of 0, and is otherwise within half a step of 250 Vt² / Vf² (R150). The numbers
by step and level: the step duties and shed caps of a FAN record (R156), the shed thresholds (R107), a lamp's expected
inrush (R43) and the cycle lengths of an effective period (R96). -/
def Obligations.FilterAndDutyArithmetic : Prop :=
  (∀ (f v : Nat),
    filterStep none v = v ∧
    (f ≤ v → filterStep (some f) v = f + (v - f) / 8 ∧ filterStep (some f) v ≤ v) ∧
    (v ≤ f → filterStep (some f) v = f - (f - v) / 8 ∧ v ≤ filterStep (some f) v) ∧
    (v ≤ f + 7 → f ≤ v + 7 → filterStep (some f) v = f)) ∧
  (∀ (vt vf : Nat),
    gaugeDuty vt vf ≤ 250 ∧ (gaugeUnder vt vf = true ↔ vf ≤ vt) ∧ (vf ≤ vt → gaugeDuty vt vf = 250) ∧
      (vt = 0 → 0 < vf → gaugeDuty vt vf = 0) ∧
      (vt < vf → 2 * (gaugeDuty vt vf * vf ^ 2) ≤ 500 * vt ^ 2 + vf ^ 2 ∧
        500 * vt ^ 2 < 2 * (gaugeDuty vt vf * vf ^ 2) + vf ^ 2)) ∧
  ∀ (r : FanRec) (x : SupplyRec) (c : Channel) (period : Nat) (s : State),
    r.stepDuty 0 = 0 ∧ r.stepDuty 1 = r.duty1 ∧ r.stepDuty 2 = r.duty2 ∧ r.stepDuty 3 = r.duty3 ∧
    r.cap 0 = r.cap0 ∧ r.cap 1 = r.cap1 ∧ r.cap 2 = r.cap2 ∧ r.cap 3 = r.cap3 ∧
    x.threshold 1 = x.shed1 ∧ x.threshold 2 = x.shed2 ∧ x.threshold 3 = x.shed3 ∧
    s.expected c = (s.chRec c).rated * (s.chRec c).inrushFactor ∧
    (Cycle.ofPeriod period).onLength + (Cycle.ofPeriod period).offLength = period ∧
    (Cycle.ofPeriod period).onLength = (Cycle.ofPeriod period).offLength + period % 2

/-- CONVERSION_DONE of a sender (R131, R133, R134, R143 to R146): the reading, limited to the top of the range, is the
source's FRESH value, the request is gone and the converter is busy for the step. In CRANK the slots discard the
reading; in NORMAL a valid reading enters the ring of an ACTIVE slot, forms its average and, with a Vf, its target, duty
and UNDERDRIVE (R148 to R151), an invalid one raises its fault run, and in the fault states a valid reading raises the
recovery run and an invalid one sets it to 0. GAUGE is raised exactly where an UNDERDRIVE changes (R150, R153). -/
def Obligations.SenderConversion : Prop :=
  ∀ (x : Sender) (quantity n : Nat) (r : Request) (s : State),
    s.request? (.sender x) = some r → s.clock = .step n → s.servesNow r = true → r.slots.Nodup →
    let v := min 20000 quantity
    ∃ t, exec (.conversionDone (.sender x) quantity) s = .next t ∧
      t.seq = { s.seq with requests := s.seq.requests.filter (fun q => q.src != .sender x), served := some n,
                           values := t.seq.values } ∧
      (∀ y : Source, t.value y = if y = .sender x then ⟨some v, .fresh⟩ else s.value y) ∧
      t = { s with seq := t.seq, gauges := t.gauges, slots := t.slots, chans := t.chans, fan := t.fan } ∧
      (s.sup.crank = .crank → t = { s with seq := t.seq }) ∧
      ((∃ g : GaugeId, (t.gauge g).under ≠ (s.gauge g).under) → ∀ m : SlotId, t.slot m = s.raisedTo .gauge m) ∧
      ((∀ g : GaugeId, (t.gauge g).under = (s.gauge g).under) → t.slots = s.slots) ∧
      (∀ g : GaugeId, g ∉ r.slots → t.gauge g = s.gauge g) ∧
      ∀ g : GaugeId, g ∈ r.slots → s.sup.crank = .normal →
        let valid := (s.gaugeRec g).validLow ≤ v ∧ v ≤ (s.gaugeRec g).validHigh
        let ring := (if (s.gaugeRec g).ringLength ≤ (s.gauge g).ring.length then (s.gauge g).ring.drop 1
          else (s.gauge g).ring) ++ [v]
        let average := (ring.sum + ring.length / 2) / ring.length
        let vt := match (s.gaugeRec g).mode with
          | .stabilised => (s.gaugeRec g).target
          | .table => tableTarget average (s.gaugeRec g).table
        let entered : GaugeSlot := { s.gauge g with ring := ring, average := some average, faultRun := 0 }
        ((s.gauge g).st = .off ∨ (s.gauge g).st = .held → t.gauge g = s.gauge g) ∧
        ((s.gauge g).st = .active → valid → s.sup.vf = none → t.gauge g = entered) ∧
        (∀ vf : Nat, (s.gauge g).st = .active → valid → s.sup.vf = some vf →
          t.gauge g = { entered with
            vt := some vt, under := decide (vf ≤ vt),
            duty := if vf ≤ vt then 250 else (250 * vt ^ 2 + vf ^ 2 / 2) / vf ^ 2 }) ∧
        ((s.gauge g).st = .active → ¬ valid →
          t.gauge g = { s.gauge g with faultRun := min 4 ((s.gauge g).faultRun + 1) }) ∧
        ((s.gauge g).st = .faultHold ∨ (s.gauge g).st = .faultRest →
          t.gauge g = { s.gauge g with recoveryRun := if valid then min 4 ((s.gauge g).recoveryRun + 1) else 0 })

/-- REQUEST_ABANDON (R132, R134): the request leaves the list, and its source keeps its value, marked HELD. It comes
exactly where no step is left at which the request could be served (the moment is the model's choice between those R132
and 7.6 name: log 49), and CONVERSION_DONE only at the step that serves
(R131): each is without effect else (log 1). Which request a step serves (R128, R129, R131): the first, by trigger step
and then by source number, of those whose service window takes in the step, on a part that runs, with the converter
free. The window runs from the trigger step to step 249, on a channel other than the fan channel while its gate is
asserted. Sources are numbered bus, channels, senders (R125). Time waits while a step serves a request (log 35). -/
def Obligations.RequestAbandoned : Prop :=
  (∀ (src : Source) (r : Request) (s : State),
    s.request? src = some r → s.running = true → s.unservable r = true →
    ∃ t, exec (.requestAbandon src) s = .next t ∧ t = { s with seq := t.seq } ∧
      t.seq = { s.seq with requests := s.seq.requests.filter (fun q => q.src != src), values := t.seq.values } ∧
      ∀ x : Source, t.value x = if x = src then ⟨(s.value src).value, .held⟩ else s.value x) ∧
  (∀ (src : Source) (quantity : Nat) (s : State),
    ((∀ r : Request, s.request? src = some r → s.running = false ∨ s.unservable r = false) →
      exec (.requestAbandon src) s = .next s) ∧
    ((∀ r : Request, s.request? src = some r → s.servesNow r = false) →
      exec (.conversionDone src quantity) s = .next s)) ∧
  ∀ (r : Request) (n : Nat) (c : Channel) (s : State), (∀ d : Channel, (s.chan d).prevDuty ≤ 250) →
    let asserted (d : Channel) (k : Nat) : Prop :=
      (s.chRec d).phase ≤ k ∧ k < (s.chRec d).phase + (s.chan d).applied ∨
        k + 250 < (s.chRec d).phase + (s.chan d).prevDuty
    let within (q : Request) (k : Nat) : Prop := q.trigger ≤ k ∧ k < 250 ∧
      ∀ d : Channel, q.src = .channel d → s.fanChannel ≠ some d →
        ∀ j : Nat, j ≤ k → q.trigger ≤ j → asserted d j
    let before (q : Request) : Prop :=
      q.trigger < r.trigger ∨ q.trigger = r.trigger ∧ q.src.number < r.src.number
    ((s.clock = .awaiting ∨ s.clock = .started) → s.servesNow r = false) ∧
    (s.clock = .step n → (s.servesNow r = true ↔ s.running = true ∧ s.seq.served ≠ some n ∧ within r n ∧
      ∀ q ∈ s.seq.requests, within q n → ¬ before q)) ∧
    (s.clock = .step n → (s.unservable r = true ↔
      ∀ k : Nat, k < 250 → n ≤ k → (s.seq.served = some n → k ≠ n) → ¬ within r k)) ∧
    ((s.clock = .awaiting ∨ s.clock = .started) → (s.unservable r = true ↔ ∀ k : Nat, k < 250 → ¬ within r k)) ∧
    (s.conversionDue = true ↔ ∃ q ∈ s.seq.requests, s.servesNow q = true) ∧
    Source.bus.number = 0 ∧ (Source.channel c).number.val = c.val + 1 ∧ (Source.sender .s1).number = 17 ∧
    (Source.sender .s2).number = 18 ∧ (Source.sender .s3).number = 19

/-! ### Cranking and load shedding -/

/-- CRANK_ENTRY (R101, R115, R118, R143, R165), with the entry counter at 2 or START active: the state is CRANK with
both counters 0, CRANK is raised, each ACTIVE slot is HELD with its ring, average, target, duty and runs kept, a fan
that drove its channel is SUSPENDED, the fan channel's demand is 0, and the tick has ended. A sender fault or recovery
that readings already handled had brought comes first (log 26), and raises GAUGE (R153). CRANK_EXIT (R116, R118, R143,
R160, R165), with the exit counter at 20 and START inactive: the state is NORMAL with both counters 0, CRANK is raised,
each HELD slot is ACTIVE and, with a target and a Vf, computed (R151), and a SUSPENDED fan with T above 0 enters the
state that matches its channel's: with that in RUN it writes the applied duty moved toward T, above the cap duty too,
which is the model's choice between R160's table and R163 (log 44). Within the handling of a bus sample that sample is
then filtered and counted for dwell. GAUGE is raised exactly where an UNDERDRIVE changes, at the release or by that
sample (R150, R153). Each is without effect else (log 1). What is due of the supervisor is taken in the order return,
entry, level (log 2). -/
def Obligations.CrankStateMoves : Prop :=
  (∀ (s : State),
    let due := s.running = true ∧ s.sup.crank = .normal ∧
      (2 ≤ s.sup.crankIn ∨ (s.input .start).filtered = some true)
    let read := ∃ g : GaugeId, (s.gauge g).st = .active ∧ 4 ≤ (s.gauge g).faultRun ∨
      ((s.gauge g).st = .faultHold ∨ (s.gauge g).st = .faultRest) ∧ 4 ≤ (s.gauge g).recoveryRun
    (¬ due → exec .crankEntry s = .next s) ∧
    (due → ∃ t, exec .crankEntry s = .next t ∧
      t.sup = { s.sup with crank := .crank, crankIn := 0, crankOut := 0, inHand := none } ∧
      (∀ m : SlotId, ((s.slotRec m).mask &&& EventKind.crank.bit = EventKind.crank.bit →
        (t.slot m).pending &&& EventKind.crank.bit = EventKind.crank.bit) ∧
        (t.slot m).st = (s.slot m).st ∧ (t.slot m).timer = (s.slot m).timer) ∧
      (¬ read → ∀ m : SlotId, t.slot m = s.raisedTo .crank m) ∧
      (read → ∀ m : SlotId, t.slot m = { s.slot m with
        pending := (s.slot m).pending |||
          ((EventKind.crank.bit ||| EventKind.gauge.bit) &&& (s.slotRec m).mask) }) ∧
      (∀ g : GaugeId,
        let y := s.gauge g
        let fault := y.st = .faultHold ∨ y.st = .faultRest
        (y.st = .off ∨ y.st = .held → t.gauge g = y) ∧
        (y.st = .active → y.faultRun < 4 → t.gauge g = { y with st := .held }) ∧
        (y.st = .active → 4 ≤ y.faultRun →
          (t.gauge g).st = if (s.gaugeRec g).faultHold = 0 then .faultRest else .faultHold) ∧
        (fault → y.recoveryRun < 4 → t.gauge g = y) ∧
        (fault → 4 ≤ y.recoveryRun → (t.gauge g).st = .held)) ∧
      (s.BoundAreGauges → s.MapChecked → s.QueueIsWaiting → s.FanFollowsChannel →
        t.fan = (if s.fan.st = .starting ∨ s.fan.st = .kick ∨ s.fan.st = .ramp ∨ s.fan.st = .running then
          { s.fan with st := .suspended, ramp := 0, stallRun := 0 } else s.fan) ∧
        ∀ c : Channel, s.fanChannel = some c → (t.chan c).demand = 0 ∧ (t.chan c).source = .steady) ∧
      t.flash = { s.flash with tick := none, tone := false } ∧
      t = { s with slots := t.slots, chans := t.chans, flash := t.flash, sup := t.sup, gauges := t.gauges,
                   fan := t.fan })) ∧
  (∀ (s a b t : State), exec .crankExit s = .next a → exec .crankEntry a = .next b →
    (if b.running = true ∧ b.sup.crank = .normal ∧ b.sup.shed < 3 ∧ ∃ n ∈ b.sup.rise, b.cfg.supply.dwell ≤ n then
      exec .shedRise b = .next t else exec .shedFall b = .next t) → s.settleSupply = t) ∧
  ∀ (s : State),
    let due := s.running = true ∧ s.sup.crank = .crank ∧ 20 ≤ s.sup.crankOut ∧ (s.input .start).filtered ≠ some true
    let threshold (k : Nat) : Nat := if k = 1 then s.cfg.supply.shed1 else if k = 2 then s.cfg.supply.shed2
      else s.cfg.supply.shed3
    let rise (vf : Nat) : Option Nat := if s.sup.shed < 3 then
      s.sup.rise.map fun k => if vf < threshold (s.sup.shed + 1) then min s.cfg.supply.dwell (k + 1) else 0 else none
    let fall (vf : Nat) : Option Nat := if 0 < s.sup.shed then
      s.sup.fall.map fun k => if threshold s.sup.shed + s.cfg.supply.hysteresis < vf then min s.cfg.supply.dwell (k + 1)
        else 0 else none
    let released (g : GaugeId) : Bool := match (s.gauge g).st, s.gaugeTarget g, s.sup.vf with
      | .held, some vt, some vf => decide (vf ≤ vt)
      | _, _, _ => (s.gauge g).under
    (¬ due → exec .crankExit s = .next s) ∧
    (due → ∃ t, exec .crankExit s = .next t ∧
      (s.BoundAreGauges →
        (s.sup.inHand = none → t.sup = { s.sup with crank := .normal, crankIn := 0, crankOut := 0 }) ∧
        (∀ v : Nat, s.sup.inHand = some v → t.sup = { s.sup with
          crank := .normal, crankIn := 0, crankOut := 0, inHand := none, vf := some (filterStep s.sup.vf v),
          rise := rise (filterStep s.sup.vf v), fall := fall (filterStep s.sup.vf v) }) ∧
        ((∃ g : GaugeId, released g ≠ (s.gauge g).under ∨ (t.gauge g).under ≠ released g) →
          ∀ m : SlotId, t.slot m = { s.slot m with
            pending := (s.slot m).pending |||
              ((EventKind.crank.bit ||| EventKind.gauge.bit) &&& (s.slotRec m).mask) }) ∧
        ((∀ g : GaugeId, released g = (s.gauge g).under ∧ (t.gauge g).under = released g) →
          ∀ m : SlotId, t.slot m = s.raisedTo .crank m) ∧
        (∀ g : GaugeId,
          (t.gauge g).st = (if (s.gauge g).st = .held then .active else (s.gauge g).st) ∧
          ((s.gauge g).st ≠ .held → s.sup.inHand = none → t.gauge g = s.gauge g) ∧
          ((s.gauge g).st = .held → (s.gaugeTarget g = none ∨ s.sup.vf = none) → s.sup.inHand = none →
            t.gauge g = { s.gauge g with st := .active }) ∧
          ∀ vt vf : Nat, (s.gauge g).st = .held → s.gaugeTarget g = some vt → t.sup.vf = some vf →
            t.gauge g = { s.gauge g with
              st := .active, vt := some vt, under := decide (vf ≤ vt),
              duty := if vf ≤ vt then 250 else (250 * vt ^ 2 + vf ^ 2 / 2) / vf ^ 2 }) ∧
        (∀ c : Channel, s.fanChannel = some c → s.fan.st = .suspended → s.fan.target ≠ 0 →
          (s.chRec c).kind = .motor →
          let a := (s.chan c).applied
          let moved := if a < s.fan.target then min s.fan.target (a + s.cfg.fan.rampRate)
            else max s.fan.target (a - s.cfg.fan.rampRate)
          t.fan.st = (match (s.chan c).st with
            | .off | .waiting => .starting
            | .inrush => .kick
            | .run => .ramp
            | .cooling | .latched => .faulted) ∧
          (t.chan c).demand = (if (s.chan c).st = .run then moved else s.cfg.fan.kickDuty)) ∧
        (s.MapChecked → s.fan.st ≠ .suspended → t.fan = s.fan) ∧
        t = { s with slots := t.slots, chans := t.chans, sup := t.sup, gauges := t.gauges, fan := t.fan }))

/-- SHED_RISE and SHED_FALL (R15, R119 to R121), with the rise or the fall counter at the dwell in NORMAL: the level
moves by one, the counters of the new level start at 0, SHED is raised, and all fifteen functions are re-evaluated at
the new level. T follows the new cap (R159), and a fan channel in RUN whose applied duty the fallen cap duty no longer
allows is cut to OFF at once, the fan restarting or stopping (R164). Each is without effect else (log 1). -/
def Obligations.ShedLevelMoves : Prop :=
  ∀ (c : Instr) (level : Nat) (s : State),
    let may := s.running = true ∧ s.sup.crank = .normal
    let rises := may ∧ s.sup.shed < 3 ∧ ∃ n ∈ s.sup.rise, s.cfg.supply.dwell ≤ n
    let falls := may ∧ 0 < s.sup.shed ∧ ∃ n ∈ s.sup.fall, s.cfg.supply.dwell ≤ n
    (¬ rises → exec .shedRise s = .next s) ∧ (¬ falls → exec .shedFall s = .next s) ∧
    ((c = .shedRise ∧ rises ∧ level = s.sup.shed + 1 ∨ c = .shedFall ∧ falls ∧ level + 1 = s.sup.shed) →
    ∃ t, exec c s = .next t ∧
      t.sup = { s.sup with
        shed := level, rise := if level < 3 then some 0 else none, fall := if 0 < level then some 0 else none } ∧
      (∀ m : SlotId, t.slot m = s.raisedTo .shed m) ∧ t.ResultsEvaluated ∧
      (∀ f : Fn, t.result f =
        if (s.fnRec f).gate = .ign ∧ s.filtered .ign = false ∨ (s.fnRec f).rank.suppressedAt level = true then 0
        else s.combined f) ∧
      (∀ d : Channel, s.QueueIsWaiting → s.fanChannel = some d → (s.chan d).st = .run →
        let cap := s.cfg.fan.stepDuty (s.cfg.fan.cap level)
        if cap < s.cfg.fan.stepDuty (s.cfg.fan.cap s.sup.shed) ∧ cap < (s.chan d).applied then
          (t.chan d).st = .off ∧ (t.chan d).applied = 0 ∧ (t.chan d).prevDuty = 0 ∧ t.gates.out[d] = false ∧
            (t.chan d).runCount = none ∧ (t.chan d).trips = (s.chan d).trips ∧ t.request? (.channel d) = none ∧
            t.fan.st = (if t.fan.target = 0 then .stopped else .starting) ∧
            (t.chan d).demand = if t.fan.target = 0 then 0 else s.cfg.fan.kickDuty
        else (t.chan d).st = .run ∧ (t.chan d).applied = (s.chan d).applied ∧
          t.gates.out[d] = s.gates.out[d]) ∧
      t.fan.target = s.cfg.fan.stepDuty (min (min 3 (t.result .fan)) (s.cfg.fan.cap level)) ∧
      t = { s with sup := t.sup, slots := t.slots, results := t.results, chans := t.chans, queue := t.queue,
                   window := t.window, gates := t.gates, flash := t.flash, seq := t.seq, fan := t.fan })

/-! ### Gauge faults and arithmetic -/

/-- FAULT_HOLD_ENTRY (R146): four invalid readings take a slot to FAULT_HOLD with its duty and UNDERDRIVE standing and
its timer at the fault hold; a fault hold of 0 passes straight to FAULT_REST. GAUGE is raised. FAULT_HOLD_EXPIRY (R146),
at the start at which the timer reaches 0 or ahead of it, in step 249 once its conversion is done (R125; log 3): the
slot rests at duty 0, written as its channel's demand, with UNDERDRIVE clear, and GAUGE is raised. Each is without
effect else (log 1). -/
def Obligations.FaultHoldBeginsAndExpires : Prop :=
  (∀ (g : GaugeId) (s : State),
    let due := s.running = true ∧ (s.gauge g).st = .active ∧ 4 ≤ (s.gauge g).faultRun
    (¬ due → exec (.faultHoldEntry g) s = .next s) ∧
    (due → ∃ t, exec (.faultHoldEntry g) s = .next t ∧
      (∀ m : SlotId, t.slot m = s.raisedTo .gauge m) ∧ (∀ h : GaugeId, h ≠ g → t.gauge h = s.gauge h) ∧
      ((s.gaugeRec g).faultHold ≠ 0 → t = { s with gauges := t.gauges, slots := t.slots } ∧
        t.gauge g = { s.gauge g with
          st := .faultHold, recoveryRun := 0, timer := some (s.gaugeRec g).faultHold }) ∧
      ((s.gaugeRec g).faultHold = 0 →
        t = { s with gauges := t.gauges, slots := t.slots, chans := t.chans, fan := t.fan } ∧
        t.gauge g = { s.gauge g with st := .faultRest, recoveryRun := 0, timer := none, under := false, duty := 0 } ∧
        ∀ c : Channel, (s.gaugeRec g).bound = some c → s.fanChannel ≠ some c →
          (t.chan c).demand = 0 ∧ (t.chan c).source = .steady))) ∧
  ∀ (g : GaugeId) (s : State),
    let due := s.running = true ∧ (s.gauge g).st = .faultHold ∧
      ((s.gauge g).timer = some 0 ∨
        (s.clock = .awaiting ∨ s.clock = .step 249 ∧ s.conversionDue = false) ∧ (s.gauge g).timer = some 1)
    (¬ due → exec (.faultHoldExpiry g) s = .next s) ∧
    (due → ∃ t, exec (.faultHoldExpiry g) s = .next t ∧
      (∀ m : SlotId, t.slot m = s.raisedTo .gauge m) ∧ (∀ h : GaugeId, h ≠ g → t.gauge h = s.gauge h) ∧
      t.gauge g = { s.gauge g with st := .faultRest, timer := none, under := false, duty := 0 } ∧
      (∀ c : Channel, (s.gaugeRec g).bound = some c → s.fanChannel ≠ some c →
        (t.chan c).demand = 0 ∧ (t.chan c).source = .steady) ∧
      (∀ c : Channel, (s.gaugeRec g).bound ≠ some c → s.fanChannel ≠ some c → t.chan c = s.chan c) ∧
      t = { s with gauges := t.gauges, slots := t.slots, chans := t.chans, fan := t.fan })

/-- GAUGE_RECOVERY (R147, R148, R150, R151), with four valid readings in a fault state, in NORMAL: the slot is ACTIVE
with the sender's last reading the only one of its ring, both runs 0 and its timer discarded; with a Vf it computes its
target, duty and UNDERDRIVE and writes the duty as its channel's demand, with none it computes nothing. GAUGE is raised.
Without effect else (log 1). -/
def Obligations.GaugeRecovers : Prop :=
  ∀ (g : GaugeId) (v : Nat) (s : State),
    let due := s.running = true ∧ ((s.gauge g).st = .faultHold ∨ (s.gauge g).st = .faultRest) ∧
      4 ≤ (s.gauge g).recoveryRun ∧ s.sup.crank = .normal
    let vt := match (s.gaugeRec g).mode with
      | .stabilised => (s.gaugeRec g).target
      | .table => tableTarget v (s.gaugeRec g).table
    let back : GaugeSlot := { s.gauge g with
      st := .active, ring := [v], average := some v, faultRun := 0, recoveryRun := 0, timer := none }
    (¬ due → exec (.gaugeRecovery g) s = .next s) ∧
    (due → (s.value (.sender (s.gaugeRec g).sender)).value = some v → ∃ t, exec (.gaugeRecovery g) s = .next t ∧
      (∀ m : SlotId, t.slot m = s.raisedTo .gauge m) ∧ (∀ h : GaugeId, h ≠ g → t.gauge h = s.gauge h) ∧
      (s.sup.vf = none → t.gauge g = back ∧ t = { s with gauges := t.gauges, slots := t.slots }) ∧
      (∀ vf : Nat, s.sup.vf = some vf →
        let duty := if vf ≤ vt then 250 else (250 * vt ^ 2 + vf ^ 2 / 2) / vf ^ 2
        t.gauge g = { back with vt := some vt, duty := duty, under := decide (vf ≤ vt) } ∧
        ∀ c : Channel, (s.gaugeRec g).bound = some c → s.fanChannel ≠ some c →
          (t.chan c).demand = duty ∧ (t.chan c).source = .steady) ∧
      t = { s with gauges := t.gauges, slots := t.slots, chans := t.chans, fan := t.fan })

/-- R149: the target a table of points in strictly increasing order of reading gives an average: clamped at both ends,
interpolated between two neighbouring points with a quotient rounded to nearest and ties away from zero, within the
span of the targets, and a point's own target at its reading. -/
def Obligations.TableTargetInterpolates : Prop :=
  ∀ (a : Nat) (points : List (Nat × Nat)), 2 ≤ points.length → points.length ≤ 12 → readingsRise points = true →
    (∀ p ∈ points.head?, a ≤ p.1 → tableTarget a points = p.2) ∧
    (∀ p ∈ points.getLast?, p.1 ≤ a → tableTarget a points = p.2) ∧
    (∀ p ∈ points, a = p.1 → tableTarget a points = p.2) ∧
    (∀ w ∈ points.zip points.tail, w.1.1 ≤ a → a < w.2.1 →
      let n : Int := ((w.2.2 : Int) - w.1.2) * ((a : Int) - w.1.1)
      let d : Int := (w.2.1 : Int) - w.1.1
      let q : Int := (tableTarget a points : Int) - w.1.2
      2 * (q * d - n).natAbs ≤ d.natAbs ∧ (2 * (q * d - n).natAbs = d.natAbs → n.natAbs < (q * d).natAbs)) ∧
    (∃ p ∈ points, p.2 ≤ tableTarget a points) ∧ ∃ p ∈ points, tableTarget a points ≤ p.2

/-! ### Inputs, silence and holds -/

/-- INPUT_SEED and FILTERED_LEVEL_CHANGE (R187), with the run of an unseeded or a seeded input at the debounce count:
the filtered level is the level of the run, the run count restarts (after a seeding too: log 17), and the level is
handed on: IGN to the functions it gates (R11) and to the gauge slots (R142), where GAUGE is raised exactly where an
UNDERDRIVE is set or cleared and where a slot leaves a fault state, one that readings already handled had brought among
them (R142, R150, R153; log 26), BRAKE and HAZARD as claims of L (R10), START to the supervisor, which enters CRANK or
returns to NORMAL at that moment with all that CRANK_ENTRY or CRANK_EXIT does (R115, R116; from `u`, where a crank state
that START had already made due is taken: log 26). A seeding at the start at which STARTING ends comes after that end
(R189). `early`: taken ahead of the sample's start, in step 249 once its conversion is done (R125; log 3). Each is
without effect else (log 1). What is due of the inputs is taken in the order IGN, BRAKE, HAZARD, START (log 2, 48). -/
def Obligations.InputLevelTakesEffect : Prop :=
  (∀ (c : Instr) (i : InputId) (level early : Bool) (s u : State),
    let x := s.input i
    let count := (s.cfg.inputs.get i).debounce
    let reached := s.running = true ∧ count ≤ x.run
    let reaches := s.running = true ∧ (s.clock = .awaiting ∨ s.clock = .step 249 ∧ s.conversionDue = false) ∧
      x.run + 1 = count
    let ended := s.power.part = .starting ∧ 5 ≤ s.power.starts
    let ends := s.power.part = .starting ∧ s.power.starts = 4 ∧ s.clock = .step 249 ∧ s.conversionDue = false
    let seeds := x.filtered = none ∧ ¬ ended ∧ (reached ∨ reaches ∧ ¬ ends ∧ x.run ≠ 0)
    let changes := x.filtered ≠ none ∧ (reached ∨ reaches ∧ x.sampledNow = false)
    (¬ seeds → exec (.inputSeed i) s = .next s) ∧ (¬ changes → exec (.filteredLevelChange i) s = .next s) ∧
    ((c = .inputSeed i ∧ seeds ∧ level = x.raw ∨ c = .filteredLevelChange i ∧ changes ∧ x.filtered = some (!level)) →
    (early = true ↔ ¬ reached) → u = (if i = .start then s.settleSupply else s) →
    ∃ t, exec c s = .next t ∧
      t.input i = { raw := level, filtered := some level, run := 0, sampledNow := early } ∧
      (∀ j : InputId, j ≠ i → t.input j = s.input j) ∧ (s.ResultsEvaluated → t.ResultsEvaluated) ∧
      (∀ (f : Fn) (k : Claimant), t.cell f k =
        if (i = .brake ∧ f = .stop ∨ i = .hazard ∧ f = .hazard) ∧ k = .l then
          if level = true then some { value := 1, orphaned := false, hold := none } else none
        else s.cell f k) ∧
      (i = .ign → level = true → ∀ g : GaugeId, (s.gauge g).st = .off → (s.gaugeRec g).enabled = true →
        (s.gaugeRec g).bound ≠ none → (t.gauge g).st = if s.sup.crank = .crank then .held else .active) ∧
      (i = .ign → level = true → ∀ g : GaugeId, ((s.gauge g).st ≠ .off ∨ (s.gaugeRec g).enabled = false ∨
        (s.gaugeRec g).bound = none) → t.gauge g = s.gauge g) ∧
      (i = .ign → level = false → ∀ g : GaugeId, (t.gauge g).st = .off ∧ ((s.gauge g).st ≠ .off →
        t.gauge g = GaugeSlot.reset)) ∧
      (i = .ign → level = true →
        ((∃ g : GaugeId, (t.gauge g).under ≠ (s.gauge g).under) → ∀ m : SlotId, t.slot m = s.raisedTo .gauge m) ∧
        ((∀ g : GaugeId, (t.gauge g).under = (s.gauge g).under) → t.slots = s.slots)) ∧
      (i = .ign → level = false →
        let raises := ∃ g : GaugeId, (s.gauge g).st = .faultHold ∨ (s.gauge g).st = .faultRest ∨
          (s.gauge g).st = .active ∧ 4 ≤ (s.gauge g).faultRun ∨ (s.gauge g).st ≠ .off ∧ (s.gauge g).under = true
        (raises → ∀ m : SlotId, t.slot m = s.raisedTo .gauge m) ∧ (¬ raises → t.slots = s.slots)) ∧
      (i ≠ .ign → i ≠ .start → t.gauges = s.gauges ∧ t.slots = s.slots) ∧
      (i ≠ .start → t.sup = s.sup) ∧
      (i = .start → t.sup.crank = (if level = true then .crank
        else if u.sup.crank = .crank ∧ u.sup.crankOut < 20 then .crank else .normal) ∧
        ∃ a, exec .crankExit { u with inputs := t.inputs } = .next a ∧ exec .crankEntry a = .next t) ∧
      t = { u with inputs := t.inputs, claims := t.claims, results := t.results, chans := t.chans, queue := t.queue,
                   window := t.window, flash := t.flash, fan := t.fan, gauges := t.gauges, slots := t.slots,
                   sup := t.sup })) ∧
  ∀ (s a : State),
    let after (t : State) (c : Instr) : State := match exec c t with
      | .next u => u
      | .fault _ | .refused _ => t
    a = (if s.power.part = .starting ∧ 5 ≤ s.power.starts then after s .startingComplete else s) →
      s.settleInputs = [InputId.ign, .brake, .hazard, .start].foldl
        (fun t i => if (t.input i).run < (t.cfg.inputs.get i).debounce then t
          else if (t.input i).filtered = none then after t (.inputSeed i) else after t (.filteredLevelChange i)) a

/-- SILENCE_EXPIRY (R20): the slot is SILENT with its timer stopped, every claim of its column is kept, dropped or held
by its function's orphan policy, MASTER is raised to the other two, and no other claim changes. HOLD_EXPIRY (R21): the
held claim is removed and its function re-evaluated; no event is raised. Each comes at the start at which its timer
reaches its end, or ahead of it, in step 249 once its conversion is done (R125; log 3, 20), and is without effect else
(log 1). A silence that has taken the coming start is not followed by another of that slot at it. -/
def Obligations.SilenceAndHoldExpire : Prop :=
  (∀ (m : SlotId) (s : State),
    let count := (s.slot m).timer.getD 0
    let reached := s.running = true ∧ (s.slot m).st = .live ∧ (s.slotRec m).timeout ≤ count
    let reaches := s.running = true ∧ (s.clock = .awaiting ∨ s.clock = .step 249 ∧ s.conversionDue = false) ∧
      s.power.wakeStart = false ∧ (s.slot m).silencedNow = false ∧ (s.slot m).st = .live ∧
      (s.slotRec m).timeout = count + 1
    (¬ reached → ¬ reaches → exec (.silenceExpiry m) s = .next s) ∧
    ((reached ∨ reaches) → ∃ t, exec (.silenceExpiry m) s = .next t ∧
      (reached → t.slot m = { s.slot m with st := .silent, timer := none, silencedNow := false }) ∧
      (¬ reached → t.slot m = { s.slot m with st := .silent, timer := none, silencedNow := true }) ∧
      (∀ n : SlotId, n ≠ m → t.slot n = s.raisedTo .master n) ∧
      (∀ f : Fn, t.cell f m.claimant = (s.cell f m.claimant).bind fun c =>
        match (s.fnRec f).policy with
        | .keep => some { c with orphaned := true, hold := none }
        | .drop => none
        | .hold => if (s.fnRec f).hold = 0 then none else
            some { c with orphaned := true, hold := some (s.fnRec f).hold }) ∧
      (∀ (f : Fn) (k : Claimant), k ≠ m.claimant → t.cell f k = s.cell f k) ∧
      (s.ResultsEvaluated → t.ResultsEvaluated) ∧
      t = { s with slots := t.slots, claims := t.claims, results := t.results, chans := t.chans, queue := t.queue,
                   window := t.window, flash := t.flash, fan := t.fan })) ∧
  ∀ (m : SlotId) (f : Fn) (s : State),
    let due := s.running = true ∧ (s.holdOf m f = some 0 ∨
      (s.clock = .awaiting ∨ s.clock = .step 249 ∧ s.conversionDue = false) ∧
        (s.slot m).silencedNow = false ∧ s.holdOf m f = some 1)
    (¬ due → exec (.holdExpiry m f) s = .next s) ∧
    (due → ∃ t, exec (.holdExpiry m f) s = .next t ∧ t.cell f m.claimant = none ∧
      (∀ (h : Fn) (k : Claimant), (h ≠ f ∨ k ≠ m.claimant) → t.cell h k = s.cell h k) ∧
      t.result f = t.evaluated f ∧ (∀ h : Fn, h ≠ f → t.result h = s.result h) ∧
      t = { s with claims := t.claims, results := t.results, chans := t.chans, queue := t.queue, window := t.window,
                   flash := t.flash, fan := t.fan })

/-! ### Frames -/

/-- The CRC of R171 over the ASCII digits 1 to 9. What a frame's octets say (R171, R172, R183): the four header octets,
the body, whether the two check octets are the CRC of the rest; the unit address is answered, a group address in use
and 127 are taken unanswered, and no other is. How a body parses (R174, R183): only in a REQUEST, into items of a kind
octet, a length octet and that many content octets; an even length for CLAIM and CLAIM_ALL, 2 for READ, 0 for RESET, at
least 1 for CONFIG and CLEAR, and no other kind. What a READ or a CONFIG content names is free (log 9). -/
def Obligations.FrameIsChecked : Prop :=
  crc [0x31#8, 0x32#8, 0x33#8, 0x34#8, 0x35#8, 0x36#8, 0x37#8, 0x38#8, 0x39#8] = 0x29B1#16 ∧
  (∀ (d a k n x y : Byte) (body : List Byte) (r : UnitRec), n.toNat ≤ 56 → body.length = n.toNat →
    readFrame (d :: a :: k :: n :: (body ++ [x, y])) = some {
      dest := d, source := a, kind := k, body := body,
      good := decide (x ++ y = crc (d :: a :: k :: n :: body)) } ∧
    r.destination d.toNat =
      if d.toNat = r.address then some true
      else if d.toNat = 127 ∨ d.toNat ≠ 0 ∧ (d.toNat = r.group1 ∨ d.toNat = r.group2) then some false
      else none) ∧
  ∀ (f : Frame) (k n x y : Byte) (content rest : List Byte) (pairs : List (Byte × Byte)),
    (f.kind ≠ 0x51#8 → f.items? = none) ∧
    (f.kind = 0x51#8 →
      { f with body := [] }.items? = some [] ∧ { f with body := [k] }.items? = none ∧
      (rest.length < n.toNat → { f with body := k :: n :: rest }.items? = none) ∧
      (content.length = n.toNat → { f with body := k :: n :: (content ++ rest) }.items? =
        (itemOf k.toNat content).bind fun i => ({ f with body := rest }.items?).map fun is => i :: is)) ∧
    (∀ flat : List Byte, flat = pairs.flatMap (fun q => [q.1, q.2]) →
      itemOf 1 flat = some (.claim pairs) ∧ itemOf 2 flat = some (.claimAll pairs)) ∧
    (content.length % 2 = 1 → itemOf 1 content = none ∧ itemOf 2 content = none) ∧
    itemOf 3 [x, y] = some (.read (Config.readKind x) y) ∧ (content.length ≠ 2 → itemOf 3 content = none) ∧
    itemOf 4 (x :: rest) = some (.config (Config.configContent (x :: rest))) ∧ itemOf 4 [] = none ∧
    itemOf 5 (0x00#8 :: rest) = some (.clearChannels rest) ∧ itemOf 5 [0x01#8, x, y] = some (.clearEvents x y) ∧
    (rest.length ≠ 2 → itemOf 5 (0x01#8 :: rest) = some (.clearOther (0x01#8 :: rest))) ∧
    (2 ≤ x.toNat → itemOf 5 (x :: rest) = some (.clearOther (x :: rest))) ∧ itemOf 5 [] = none ∧
    itemOf 6 [] = some .reset ∧ (content ≠ [] → itemOf 6 content = none) ∧
    ((k.toNat = 0 ∨ 6 < k.toNat) → itemOf k.toNat content = none)

/-- FRAME_RECEIVED of a frame whose check is good, addressed to the part and from a slot's master on its port (R19,
R171, R172, R190): with room it takes the tail place, the slot is LIVE with its timer at 0 and its claims unmarked,
MASTER is raised to the others at a return, and the quiet count restarts; with two frames waiting the overrun flag is
set. FRAME_RECEIVED of a frame whose check fails, that is not addressed to the part, or that comes from no slot's
master on its port is discarded: the port returns to HUNT and nothing else changes (R171, R172). In each case the reply
of an answered frame in execution is lost, for the line was active before it (`run`; R180; log 21, 23). FRAME_RECEIVED
on a port that holds a built reply (R180; log 23): the frame is judged, and the reply ends and its frame leaves the
queue; an overrun stays reported; new bit rates take effect (R182; log 32), and a COMMANDED reset follows (R178), as
after an abandoned reply. The slots of R172 in the order A, B, C (log 47). -/
def Obligations.FrameIsJudged : Prop :=
  (∀ (p : Port) (octets : List Byte) (f : RawFrame) (answered : Bool) (m : SlotId) (s : State),
    s.running = true → (s.port p).assembly = .assembling → readFrame octets = some f → f.good = true →
    (∀ y : Reply, (s.port p).reply ≠ .built y) →
    s.cfg.unit.destination f.dest.toNat = some answered → s.slotOf p f.source.toNat = some m →
    let taken := if (s.port p).queue.length < 2 then (s.port p).queue ++
        [{ answered := answered, slot := m, source := f.source, kind := f.kind, body := f.body }]
      else (s.port p).queue
    let run := if (s.port p).reply = .quiet ∧ (∃ h : Frame, taken.head? = some h ∧ h.answered = true) then
        (s.port p).run.map fun r => { r with lost := true }
      else (s.port p).run
    ∃ t, exec (.frameReceived p octets) s = .next t ∧
      (2 ≤ (s.port p).queue.length →
        t = s.setPort p { s.port p with assembly := .hunt, idle := 0, overrun := true, run := run }) ∧
      ((s.port p).queue.length < 2 →
        t.ports = (s.setPort p { s.port p with assembly := .hunt, idle := 0, queue := taken, run := run }).ports ∧
        t.slot m = { s.slot m with st := .live, timer := some 0 } ∧
        (∀ n : SlotId, n ≠ m → t.slot n = if (s.slot m).st = .silent then s.raisedTo .master n else s.slot n) ∧
        (∀ (h : Fn) (k : Claimant), t.cell h k =
          if k = m.claimant ∧ (s.slot m).st = .silent then
            (s.cell h k).map fun c => { c with orphaned := false, hold := none }
          else s.cell h k) ∧
        (s.ResultsEvaluated → t.ResultsEvaluated) ∧ t.power = { s.power with quiet := 0 } ∧
        ((s.slot m).st ≠ .silent → t = { s with ports := t.ports, slots := t.slots, power := t.power }) ∧
        t = { s with ports := t.ports, slots := t.slots, power := t.power, claims := t.claims, results := t.results,
                     chans := t.chans, queue := t.queue, window := t.window, flash := t.flash, fan := t.fan })) ∧
  (∀ (p : Port) (octets : List Byte) (f : RawFrame) (s : State),
    s.running = true → (s.port p).assembly = .assembling → readFrame octets = some f →
    (∀ y : Reply, (s.port p).reply ≠ .built y) →
    (f.good = false ∨ s.cfg.unit.destination f.dest.toNat = none ∨ s.slotOf p f.source.toNat = none) →
    let run := if (s.port p).reply = .quiet ∧ (∃ h : Frame, (s.port p).queue.head? = some h ∧ h.answered = true) then
        (s.port p).run.map fun r => { r with lost := true }
      else (s.port p).run
    exec (.frameReceived p octets) s = .next (s.setPort p { s.port p with assembly := .hunt, idle := 0, run := run })) ∧
  ∀ (p : Port) (octets : List Byte) (f : RawFrame) (y : Reply) (s : State),
    s.running = true → (s.port p).assembly = .assembling → readFrame octets = some f →
    (s.port p).reply = .built y →
    ∃ t, exec (.frameReceived p octets) s = .next t ∧ t.pending = s.pending ∧
      (y.resetAfter = true → t.StartedAfter .commanded s.power.brownOuts s.storeAfterReset) ∧
      (y.resetAfter = false →
      (t.port p).assembly = .hunt ∧ (t.port p).idle = 0 ∧ (t.port p).run = none ∧ (t.port p).reply = .quiet ∧
      (t.port p).rate = (if y.rateAfter = true then s.cfg.unit.rates.get p else (s.port p).rate) ∧
      (∀ q : Port, q ≠ p → t.port q =
        if y.rateAfter = true ∧ (s.port q).rate ≠ s.cfg.unit.rates.get q then
          { s.port q with rate := s.cfg.unit.rates.get q, assembly := .hunt, idle := 0 } else s.port q) ∧
      (∀ (answered : Bool) (m : SlotId), f.good = true → s.cfg.unit.destination f.dest.toNat = some answered →
        ([SlotId.a, .b, .c].find? fun k => (s.slotRec k).port == p && (s.slotRec k).source == f.source.toNat) = some m →
        if (s.port p).queue.length < 2 then
          (t.port p).queue = ((s.port p).queue ++ [({
            answered := answered, slot := m, source := f.source, kind := f.kind, body := f.body } : Frame)]).tail ∧
            (t.port p).overrun = (s.port p).overrun ∧ (t.slot m).st = .live
        else (t.port p).queue = (s.port p).queue.tail ∧ (t.port p).overrun = true ∧ t = { s with ports := t.ports }) ∧
      ((f.good = false ∨ s.cfg.unit.destination f.dest.toNat = none ∨
          ∀ m : SlotId, (s.slotRec m).port ≠ p ∨ (s.slotRec m).source ≠ f.source.toNat) →
        (t.port p).queue = (s.port p).queue.tail ∧ (t.port p).overrun = (s.port p).overrun ∧
          t = { s with ports := t.ports }))

/-- SYNC (R170): in HUNT, the sync octet after at least 2 octet times of idle line begins a frame, and any other octet
restarts the idle count. An octet on the line of a port that owes a reply, built or of an answered frame in execution,
loses the reply instead, and begins no frame (`ended`; R180; log 21, 23); while a reply is sent none is taken.
FRAME_ABANDON_IDLE and FRAMING_FAULT (R169, R170): more than 4 octet times of idle, a missing stop bit, or a body length
above 56 abandon the frame being assembled, and nothing else changes but that a reply owed is lost; in HUNT an octet
with no stop bit is ignored, and idle line is counted from it. Each is without effect else (log 1). Where the reply so
lost was built, new bit rates take effect (R182; log 32) and a COMMANDED reset follows (R178), as after an abandoned
reply. -/
def Obligations.FrameIsAssembled : Prop :=
  (∀ (c : Instr) (p : Port) (octet : Byte) (idle : Nat) (n : Byte) (y : Reply) (s : State), s.running = true →
    (s.port p).reply = .built y →
    (s.port p).assembly = .hunt ∧ (c = .sync p octet idle ∨ c = .framingFault p .noStopBit) ∨
      (s.port p).assembly = .assembling ∧ (c = .frameAbandonIdle p idle ∧ 4 < idle ∨ c = .framingFault p .noStopBit ∨
        c = .framingFault p (.bodyLength n) ∧ 56 < n.toNat) →
    ∃ t, exec c s = .next t ∧ t.pending = s.pending ∧
      (y.resetAfter = true → t.StartedAfter .commanded s.power.brownOuts s.storeAfterReset) ∧
      (y.resetAfter = false → t = { s with ports := t.ports } ∧ ∀ q : Port,
        let x : PortState := if q = p then { s.port p with
          queue := (s.port p).queue.tail, run := none, reply := .quiet, assembly := .hunt, idle := 0 } else s.port q
        t.port q = if y.rateAfter = true ∧ x.rate ≠ s.cfg.unit.rates.get q then
          { x with rate := s.cfg.unit.rates.get q, assembly := .hunt, idle := 0 } else x)) ∧
  ∀ (p : Port) (octet : Byte) (idle : Nat) (n : Byte) (s : State), s.running = true →
    (∀ y : Reply, (s.port p).reply = .built y → y.rateAfter = false ∧ y.resetAfter = false) →
    let inRun := (s.port p).reply = .quiet ∧ (∃ r : Run, (s.port p).run = some r ∧ r.lost = false) ∧
      ∃ f : Frame, (s.port p).queue.head? = some f ∧ f.answered = true
    let built : Bool := match (s.port p).reply with
      | .built _ => true
      | .quiet | .sending _ => false
    let owes := built = true ∨ inRun
    let ended : PortState :=
      if inRun then { s.port p with run := (s.port p).run.map fun r => { r with lost := true },
                                    assembly := .hunt, idle := 0 }
      else { s.port p with queue := (s.port p).queue.tail, run := none, reply := .quiet, assembly := .hunt, idle := 0 }
    ((s.port p).assembly = .hunt →
      (owes → exec (.sync p octet idle) s = .next (s.setPort p ended)) ∧
      (¬ owes → (∀ y : Reply, (s.port p).reply ≠ .sending y) →
        exec (.sync p octet idle) s = .next (s.setPort p { s.port p with
          assembly := if octet = 0xA5#8 ∧ 2 ≤ (s.port p).idle + idle then .assembling else .hunt, idle := 0 })) ∧
      (∀ y : Reply, (s.port p).reply = .sending y →
        exec (.sync p octet idle) s = .next s ∧ exec (.framingFault p .noStopBit) s = .next s) ∧
      exec (.frameAbandonIdle p idle) s = .next s ∧ exec (.framingFault p (.bodyLength n)) s = .next s ∧
      ((∀ y : Reply, (s.port p).reply ≠ .sending y) → exec (.framingFault p .noStopBit) s =
        .next (s.setPort p (if owes then ended else { s.port p with assembly := .hunt, idle := 0 })))) ∧
    ((s.port p).assembly = .assembling →
      exec (.sync p octet idle) s = .next s ∧
      (idle ≤ 4 → exec (.frameAbandonIdle p idle) s = .next s) ∧
      (4 < idle → exec (.frameAbandonIdle p idle) s =
        .next (s.setPort p (if owes then ended else { s.port p with assembly := .hunt, idle := idle }))) ∧
      exec (.framingFault p .noStopBit) s =
        .next (s.setPort p (if owes then ended else { s.port p with assembly := .hunt, idle := 0 })) ∧
      (n.toNat ≤ 56 → exec (.framingFault p (.bodyLength n)) s = .next s) ∧
      (56 < n.toNat → exec (.framingFault p (.bodyLength n)) s =
        .next (s.setPort p (if owes then ended else { s.port p with assembly := .hunt, idle := 0 }))))

/-- FRAME_EXECUTE and FRAME_ERROR (R173, R174, R179): a head frame whose body parses begins execution with its items;
one with no item, or whose body does not parse, is finished at once: an answered one has its reply built, with no status
or with FRAME_ERROR, from the unit address to its source, and an unanswered one leaves its queue. FRAME_EXECUTE of an
item that has no row of its own (R174, R175; log 8): a READ of no known record kind is BAD_ITEM, and so is a CONFIG of
one once it passes the tests of R175; a CLEAR that is neither a list nor an event set has the free status of log 12 (and
the later items NO_ROOM where it is NO_ROOM: log 50). A reply on the line (R171, R179, R183): sync, destination, source,
RESULT, length, the four octets of the status digest, each answer's status with the length and record of a read, and the
CRC. The digest's pending set, part state, shed level, crank state, filtered IGN, overrun flag and flash state stand
where R183 has them. -/
def Obligations.FrameIsExecuted : Prop :=
  (∀ (p : Port) (f : Frame) (rest : List Frame) (s : State),
    s.running = true → (s.port p).queue = f :: rest → (s.port p).run = none → (s.port p).reply = .quiet →
    let reply (as : List Answer) : Reply :=
      { dest := f.source, source := BitVec.ofNat 8 s.cfg.unit.address, digest := s.digest p f.slot, answers := as,
        showedOverrun := (s.port p).overrun, rateAfter := false, resetAfter := false }
    (∀ items : List Item, f.items? = some items →
      (items ≠ [] → exec (.frameExecute p) s = .next (s.setPort p { s.port p with run := some {
        items := items, answers := [], oldAddress := none, rateAfter := false, resetAfter := false,
        lost := false } })) ∧ exec (.frameError p) s = .next s) ∧
    (f.items? = some [] → f.answered = true →
      exec (.frameExecute p) s = .next (s.setPort p { s.port p with reply := .built (reply []) })) ∧
    (f.items? = some [] → f.answered = false →
      exec (.frameExecute p) s = .next (s.setPort p { s.port p with queue := rest })) ∧
    (f.items? = none → exec (.frameExecute p) s = .next s) ∧
    (f.items? = none → f.answered = true →
      exec (.frameError p) s = .next (s.setPort p { s.port p with reply := .built (reply [⟨.frameError, none⟩]) })) ∧
    (f.items? = none → f.answered = false →
      exec (.frameError p) s = .next (s.setPort p { s.port p with queue := rest }))) ∧
  (∀ (p : Port) (f : Frame) (r : Run) (i : Item) (idx : Byte) (content : List Byte) (s : State), Executing s p f r i →
    (i = .read none idx ∨ i = .config .unknown ∨ i = .clearOther content) →
    ∃ t, exec (.frameExecute p) s = .next t ∧ t = { s with ports := t.ports } ∧
      (i = .read none idx → f.answered = true → Answered s t p f r r.items.tail (Status.only .badItem)) ∧
      (i = .read none idx → f.answered = false → Answered s t p f r r.items.tail []) ∧
      (i = .config .unknown → Answered s t p f r r.items.tail (Status.only ((s.configTest f.slot).getD .badItem))) ∧
      (i = .clearOther content → AnsweredWith s t p f r (Config.malformedClear content))) ∧
  ∀ (p : Port) (m : SlotId) (y : Reply) (st : Status) (v : ReadRecord) (s : State), s.running = true →
    let bit (b : Bool) (i : Nat) : Nat := if b then 2 ^ i else 0
    let body := y.digest ++ (y.answers.map fun a => a.octets).flatten
    let inner := [y.dest, y.source, 0x52#8, BitVec.ofNat 8 body.length] ++ body
    y.octets = [0xA5#8] ++ inner ++ [BitVec.ofNat 8 ((crc inner).toNat / 256), BitVec.ofNat 8 (crc inner).toNat] ∧
    [Status.ok, .clamped, .notPermitted, .badItem, .badValue, .inUse, .busy, .ignitionOn, .noRoom, .frameError].map
      Status.code = [0, 1, 2, 3, 4, 5, 6, 7, 8, 9] ∧
    Answer.octets ⟨st, none⟩ = [st.code] ∧
    Answer.octets ⟨st, some v⟩ = [st.code, BitVec.ofNat 8 v.octets.length] ++ v.octets ∧
    s.digest p m = [
      BitVec.ofNat 8 (s.slot m).pending.toNat, BitVec.ofNat 8 ((s.slot m).pending.toNat / 256),
      BitVec.ofNat 8 ((if s.power.part = .active then 1 else 0) + 4 * s.sup.shed + bit (s.sup.crank == .crank) 4 +
        bit ((s.input .ign).filtered == some true) 5 + bit (s.port p).overrun 6),
      match s.flash.phase with
        | .idle _ _ => 0
        | .onPhase _ => 1
        | .offPhase _ => 2] ∧
    [EventKind.trip, .bulb, .shed, .crank, .gauge, .master, .flashFast, .configDefaulted, .reset].map
      (fun k => k.bit.toNat) = [1, 2, 4, 8, 16, 32, 64, 128, 256]

/-- The value a wire octet gives a claim, by its function's kind (R1, R6), and whether it was clamped; 255 withdraws. A
CLAIM or CLAIM_ALL of one pair leaves the slot's cell with that value, or absent (R7, R8), and is answered CLAMPED or OK
(R173, R175, R179), a reply lost in execution (log 21), new bit rates (log 32) and the reply's address (log 40) as
`Answered` has them. -/
def Obligations.ClaimValuesReduced : Prop :=
  ∀ (f : Fn) (v : Byte),
    (v.toNat = 255 → reduceWire f v = (none, false)) ∧
    (v.toNat ≠ 255 → f ≠ .panel → f ≠ .fan → reduceWire f v = (some (if v.toNat = 0 then 0 else 1), false)) ∧
    (v.toNat ≤ 250 → reduceWire .panel v = (some v.toNat, false)) ∧
    (251 ≤ v.toNat → v.toNat ≤ 254 → reduceWire .panel v = (some 250, true)) ∧
    (v.toNat ≤ 3 → reduceWire .fan v = (some v.toNat, false)) ∧
    (4 ≤ v.toNat → v.toNat ≤ 254 → reduceWire .fan v = (some 3, true)) ∧
    ∀ (c : Instr) (i : Item) (p : Port) (x : Frame) (r : Run) (s : State), Executing s p x r i →
      (c = .claim p ∧ i = .claim [(BitVec.ofNat 8 (f.idx.val + 1), v)] ∨
        c = .claimAll p ∧ i = .claimAll [(BitVec.ofNat 8 (f.idx.val + 1), v)]) →
      ∃ t, exec c s = .next t ∧
        t.cell f x.slot.claimant = (reduceWire f v).1.map (fun n => { value := n, orphaned := false, hold := none }) ∧
        Answered s t p x r r.items.tail (Status.only (if (reduceWire f v).2 = true then .clamped else .ok))

/-! ### Items -/

/-- CLAIM (R6, R7, R9, R16): with every pair naming a function, each named function's cell of the slot's column is set
or withdrawn by the last pair that names it, and no other cell changes; the answer is CLAMPED if a value was. A pair
naming no function refuses the whole item BAD_ITEM. CLAIM_ALL (R8): with every pair naming a function, the slot's
column comes to match the list: a function no pair names is withdrawn. A pair naming no function refuses the whole item
BAD_ITEM. -/
def Obligations.ClaimsWriteColumn : Prop :=
  (∀ (p : Port) (f : Frame) (r : Run) (pairs : List (Byte × Byte)) (s : State),
    Executing s p f r (.claim pairs) →
    ∃ t, exec (.claim p) s = .next t ∧
      (pairsKnown pairs = false → RefusedWith s t p f r .badItem) ∧
      (pairsKnown pairs = true →
        (∀ (g : Fn) (k : Claimant), t.cell g k =
          if k = f.slot.claimant then
            match lastValue g pairs with
            | none => s.cell g k
            | some v => wireCell g v
          else s.cell g k) ∧
        (s.ResultsEvaluated → t.ResultsEvaluated) ∧
        Answered s t p f r r.items.tail (Status.only (if ∃ q ∈ pairs,
          (Fn.ofNat? q.1.toNat = some .panel ∧ 250 < q.2.toNat ∨ Fn.ofNat? q.1.toNat = some .fan ∧ 3 < q.2.toNat) ∧
            q.2.toNat ≠ 255 then .clamped else .ok))) ∧
      t = { s with ports := t.ports, claims := t.claims, results := t.results, chans := t.chans, queue := t.queue,
                   window := t.window, flash := t.flash, fan := t.fan }) ∧
  ∀ (p : Port) (f : Frame) (r : Run) (pairs : List (Byte × Byte)) (s : State),
    Executing s p f r (.claimAll pairs) →
    ∃ t, exec (.claimAll p) s = .next t ∧
      (pairsKnown pairs = false → RefusedWith s t p f r .badItem) ∧
      (pairsKnown pairs = true →
        (∀ (g : Fn) (k : Claimant), t.cell g k =
          if k = f.slot.claimant then (lastValue g pairs).bind (wireCell g) else s.cell g k) ∧
        (s.ResultsEvaluated → t.ResultsEvaluated) ∧
        Answered s t p f r r.items.tail (Status.only (if ∃ q ∈ pairs,
          (Fn.ofNat? q.1.toNat = some .panel ∧ 250 < q.2.toNat ∨ Fn.ofNat? q.1.toNat = some .fan ∧ 3 < q.2.toNat) ∧
            q.2.toNat ≠ 255 then .clamped else .ok))) ∧
      t = { s with ports := t.ports, claims := t.claims, results := t.results, chans := t.chans, queue := t.queue,
                   window := t.window, flash := t.flash, fan := t.fan }

/-- Each READ command (R175, R176): in an answered frame BAD_ITEM for an index out of range, the record as it stands
where it fits the reply, else NO_ROOM for it and every later item; in an unanswered frame nothing is answered. Nothing
but the port changes. What each status record holds, and its index (R17, R24, R69, R89, R106, R124, R154, R168, R176,
R187, R188); an index outside its range names no record. What a READ of a configuration record holds: the working copy,
at the index of its CONFIG record (R42, R176, R184); an index outside its range names no record. The code of a SLOT
index is free (log 11). The 15 octets of the CHANNEL record (R183); a current never measured is sent as 0 with mark 0
(log 13), and the octets of the other records are free (log 10). -/
def Obligations.ReadAnswersRecord : Prop :=
  (∀ (k : ReadKind) (p : Port) (f : Frame) (r : Run) (idx : Byte) (s : State),
    Executing s p f r (.read (some k) idx) →
    ∃ t, exec (readCommand k p) s = .next t ∧ t = { s with ports := t.ports } ∧
      (f.answered = false → Answered s t p f r r.items.tail []) ∧
      (f.answered = true → s.record? k idx = none → Answered s t p f r r.items.tail (Status.only .badItem)) ∧
      ∀ v : ReadRecord, s.record? k idx = some v → f.answered = true →
        if 4 + (r.answers.map fun a => a.octets.length).sum + 2 + v.octets.length + r.items.tail.length ≤ 56 then
          Answered s t p f r r.items.tail [⟨.ok, some v⟩]
        else AnsweredWith s t p f r .noRoom) ∧
  (∀ (idx : Byte) (s : State),
    (∀ c : Channel, idx.toNat = c.val + 1 →
      s.record? .trip idx = some (.trip (s.chan c).tripRec) ∧
      s.record? .channel idx = some (.channel {
        channel := c, kind := (s.chRec c).kind, st := (s.chan c).st, applied := (s.chan c).applied,
        demand := (s.chan c).demand, source := (s.chan c).source, stop := (s.chan c).stop,
        present := (s.chan c).present, following := s.follows c,
        inWindow := decide (c ∈ s.window.map Prod.fst), opening := (s.chan c).opening,
        bulbOut := (s.chan c).bulbOut, hasTrip := decide ((s.chan c).tripRec ≠ none),
        place := if c ∈ s.queued then s.queued.idxOf c + 1 else 0, urgent := decide ((c, .urgent) ∈ s.queue),
        inrushTimer := (s.chan c).inrushTimer.getD 0, coolOff := (s.chan c).coolOff.getD 0, trips := (s.chan c).trips,
        low := (s.chan c).low, high := (s.chan c).high, current := s.value (.channel c) })) ∧
    (∀ f : Fn, idx.toNat = f.idx.val + 1 → ∃ cells : PerClaimant (Option Claim),
      s.record? .function idx = some (.function (s.result f) cells) ∧ ∀ k : Claimant, cells.get k = s.cell f k) ∧
    (∀ g : GaugeId, idx.toNat = (match g with | .g1 => 1 | .g2 => 2 | .g3 => 3) →
      s.record? .gauge idx = some (.gauge {
        st := (s.gauge g).st, mode := (s.gaugeRec g).mode, bound := (s.gaugeRec g).bound,
        readings := (s.gauge g).ring.length, average := (s.gauge g).average, vt := (s.gauge g).vt,
        duty := (s.gauge g).duty, underdrive := (s.gauge g).under, faultRun := (s.gauge g).faultRun,
        recoveryRun := (s.gauge g).recoveryRun,
        timer := if (s.gauge g).st = .faultHold then (s.gauge g).timer else none,
        sender := s.value (.sender (s.gaugeRec g).sender) })) ∧
    (idx.toNat = 0 →
      s.record? .supply idx = some (.supply {
        cls := s.cfg.unit.cls, raw := s.value .bus, vf := s.sup.vf, crank := s.sup.crank,
        counter := if s.sup.crank = .crank then s.sup.crankOut else s.sup.crankIn, shed := s.sup.shed,
        rise := s.sup.rise, fall := s.sup.fall, allowance := s.cfg.supply.allowance,
        windowSum := (s.window.map Prod.snd).sum }) ∧
      s.record? .fan idx = some (.fan {
        st := s.fan.st, channel := s.fanChannel, requested := s.fan.requested, capped := s.fan.capped,
        target := s.fan.target, capDuty := s.cfg.fan.stepDuty (s.cfg.fan.cap s.sup.shed), ramp := s.fan.ramp,
        stallRun := s.fan.stallRun }) ∧
      s.record? .resetCause idx = some (.resetCause s.power.lastReset s.power.brownOuts) ∧
      (∃ x : PerInput InputReport, s.record? .inputs idx = some (.inputs x) ∧ ∀ i : InputId, x.get i =
        { raw := (s.input i).raw, filtered := (s.input i).filtered, run := (s.input i).run }) ∧
      (∃ x : PerSlot SlotReport, s.record? .slots idx = some (.slots x) ∧ ∀ m : SlotId, x.get m =
        let claims := Fn.all.filterMap fun f => s.cell f m.claimant
        { st := (s.slot m).st, timer := if (s.slot m).st = .live then (s.slot m).timer else none,
          claims := claims.length, orphaned := (claims.filter fun k => k.orphaned).length,
          held := (claims.filter fun k => k.hold ≠ none).length }) ∧
      ∃ x : FlasherReport, s.record? .flasher idx = some (.flasher x) ∧ x.st = s.flash.state ∧
        (x.startPending = true ↔ ∃ b : Bool, s.flash.phase = .idle true b) ∧
        (∀ k : Cycle, x.cycle = some k ↔ s.flash.phase = .onPhase k ∨ s.flash.phase = .offPhase k) ∧
        x.speed = s.flash.speed ∧
        (x.demand = true ↔ s.result .turnL ≠ 0 ∨ s.result .turnR ≠ 0 ∨ s.result .hazard ≠ 0) ∧
        (x.left = true ↔ s.result .turnL ≠ 0 ∨ s.result .hazard ≠ 0) ∧
        (x.right = true ↔ s.result .turnR ≠ 0 ∨ s.result .hazard ≠ 0) ∧ (x.ticking = true ↔ s.flash.tick ≠ none)) ∧
    (idx.toNat = 0 ∨ 16 < idx.toNat → s.record? .channel idx = none ∧ s.record? .trip idx = none) ∧
    (idx.toNat = 0 ∨ 15 < idx.toNat → s.record? .function idx = none) ∧
    (idx.toNat = 0 ∨ 3 < idx.toNat → s.record? .gauge idx = none) ∧
    (idx.toNat ≠ 0 → ∀ k : ReadKind, k ∈ [ReadKind.supply, .flasher, .fan, .slots, .inputs, .resetCause] →
      s.record? k idx = none)) ∧
  (∀ (idx : Byte) (s : State),
    (idx.toNat = 0 →
      s.record? (.config .unit) idx = some (.config (.unit s.cfg.unit)) ∧
      s.record? (.config .inputs) idx = some (.config (.inputs s.cfg.inputs)) ∧
      s.record? (.config .flasher) idx = some (.config (.flasher s.cfg.flasher)) ∧
      s.record? (.config .supply) idx = some (.config (.supply s.cfg.supply)) ∧
      s.record? (.config .fan) idx = some (.config (.fan s.cfg.fan))) ∧
    (idx.toNat ≠ 0 → ∀ k : ConfigKind, k ∈ [ConfigKind.unit, .inputs, .flasher, .supply, .fan] →
      s.record? (.config k) idx = none) ∧
    (∀ m : SlotId, Config.slotOfIndex idx = some m →
      s.record? (.config .slot) idx = some (.config (.slot m (s.slotRec m)))) ∧
    (Config.slotOfIndex idx = none → s.record? (.config .slot) idx = none) ∧
    (∀ f : Fn, idx.toNat = f.idx.val + 1 →
      s.record? (.config .function) idx = some (.config (.function f (s.fnRec f)))) ∧
    (idx.toNat = 0 ∨ 15 < idx.toNat → s.record? (.config .function) idx = none) ∧
    (∀ c : Channel, idx.toNat = c.val + 1 →
      s.record? (.config .channel) idx = some (.config (.channel c (s.chRec c)))) ∧
    (idx.toNat = 0 ∨ 16 < idx.toNat → s.record? (.config .channel) idx = none) ∧
    (∀ i : Fin 32, idx.toNat = i.val → s.record? (.config .map) idx = some (.config (.map i s.cfg.map[i]))) ∧
    (31 < idx.toNat → s.record? (.config .map) idx = none) ∧
    (∀ g : GaugeId, idx.toNat = (match g with | .g1 => 1 | .g2 => 2 | .g3 => 3) →
      s.record? (.config .gauge) idx = some (.config (.gauge g (s.gaugeRec g)))) ∧
    (idx.toNat = 0 ∨ 3 < idx.toNat → s.record? (.config .gauge) idx = none)) ∧
  ∀ (r : ChannelReport) (n : Nat),
    let octet (k : Nat) : Byte := BitVec.ofNat 8 k
    let bit (b : Bool) (i : Nat) : Nat := if b then 2 ^ i else 0
    let kind := match r.kind with
      | .none => 0
      | .lamp => 1
      | .gauge => 2
      | .motor => 3
    let st := match r.st with
      | .off => 0
      | .waiting => 1
      | .inrush => 2
      | .run => 3
      | .cooling => 4
      | .latched => 5
    let mark := match r.current.mark with
      | .none => 0
      | .fresh => 1
      | .held => 2
    r.current.value = some n ∨ r.current.value = none ∧ n = 0 →
      (ReadRecord.channel r).octets = [
        octet (r.channel.val + 1), octet kind, octet st, octet r.applied, octet r.demand,
        octet (bit (r.source == .flash) 0 + bit r.stop 1 + bit r.present 2 + bit r.following 3 + bit r.inWindow 4 +
          bit r.opening 5 + bit r.bulbOut 6 + bit r.hasTrip 7),
        octet (r.place + bit r.urgent 7), octet r.inrushTimer, octet (r.coolOff / 256), octet r.coolOff,
        octet r.trips, octet (r.low + 16 * r.high), octet (n / 256), octet n, octet mark]

/-- Each CONFIG command is refused, in this order, for want of the CONFIG right, with filtered IGN active, while a
store write is in flight or a reset is due, and for a record of the wrong length (R174, R175, R178, R185). Nothing but
the port changes. -/
def Obligations.ConfigTestsInOrder : Prop :=
  ∀ (k : ConfigKind) (p : Port) (f : Frame) (r : Run) (content : ConfigContent) (s : State),
    Executing s p f r (.config content) → content.kind = some k →
    let refusal : Option Status :=
      if (s.slotRec f.slot).rights.config = false then some .notPermitted
      else if (s.input .ign).filtered = some true then some .ignitionOn
      else if s.storeWrite ≠ none ∨ s.power.resetDue = true then some .busy
      else if content = .wrongLength k then some .badValue
      else none
    ∀ st : Status, refusal = some st →
      ∃ t, exec (configCommand k p) s = .next t ∧ t = { s with ports := t.ports } ∧
        Answered s t p f r r.items.tail (Status.only st)

/-- CONFIG of a UNIT record (R107, R110, R140, R182, R184): BAD_VALUE for a bit rate or a class outside its list, or
for a nonzero group address that, after clamping (log 29), equals the unit address or the other; else the clamped
record is in force at once and its store write begins. New bit rates take effect on both ports (log 32) after an
answered frame's reply, which goes out from the old unit address (log 40), and at once otherwise. A change of class,
once a crank state that START has brought is taken (log 26), replaces the supply record and the stabilised targets. -/
def Obligations.ConfigUnitApplied : Prop :=
  ∀ (p : Port) (f : Frame) (r : Run) (w : WUnit) (s : State), Executing s p f r (.config (.unit w)) →
    s.configTest f.slot = none →
    ∃ t, exec (.configUnit p) s = .next t ∧
      (w.rate1 = none ∨ w.rate2 = none ∨ w.cls = none → RefusedWith s t p f r .badValue) ∧
      ∀ (r1 r2 : BitRate) (cls : VClass), w.rate1 = some r1 → w.rate2 = some r2 → w.cls = some cls →
        let x : UnitRec := { address := clampTo 1 126 w.address, group1 := min 126 w.group1, group2 := min 126 w.group2,
                             rates := ⟨r1, r2⟩, cls := cls, dormantDelay := clampTo 1000 120000 w.dormantDelay }
        let clash := x.group1 ≠ 0 ∧ (x.group1 = x.address ∨ x.group1 = x.group2) ∨ x.group2 ≠ 0 ∧ x.group2 = x.address
        let status := Status.only (acceptedStatus (decide (x.address ≠ w.address ∨ x.group1 ≠ w.group1 ∨
          x.group2 ≠ w.group2 ∨ x.dormantDelay ≠ w.dormantDelay)))
        let u := if cls = s.cfg.unit.cls then s else s.settleSupply
        let retimed (q : Port) : PortState := if (s.port q).rate = x.rates.get q then s.port q
          else { s.port q with rate := x.rates.get q, assembly := .hunt, idle := 0 }
        (clash → RefusedWith s t p f r .badValue) ∧
        (¬ clash → t.cfg.unit = x ∧ t.storeWrite = some (.unit x) ∧
          (f.answered = true → Answered s t p f { r with
            oldAddress := some (r.oldAddress.getD s.cfg.unit.address),
            rateAfter := r.rateAfter || decide (x.rates ≠ s.cfg.unit.rates) } r.items.tail status) ∧
          (f.answered = false →
            Answered { s with ports := ⟨retimed .link1, retimed .link2⟩ } t p f r r.items.tail status) ∧
          (cls = s.cfg.unit.cls → t = { s with cfg := { s.cfg with unit := x }, storeWrite := t.storeWrite,
                                               ports := t.ports }) ∧
          (cls ≠ s.cfg.unit.cls → t.cfg.supply = SupplyRec.default cls ∧
            (∀ g : GaugeId, t.gaugeRec g = { s.gaugeRec g with target := if cls = .c12 then 10000 else 5000 }) ∧
            t.sup = { u.sup with crankIn := 0, crankOut := 0, rise := u.sup.rise.map fun _ => 0,
                                 fall := u.sup.fall.map fun _ => 0, inHand := none } ∧
            ∀ d : Channel, t.queued.head? = some d → t.window ≠ [] ∧
              30000 < t.windowSum + (t.chRec d).rated * (t.chRec d).inrushFactor) ∧
          t = { u with cfg := { s.cfg with unit := x, supply := t.cfg.supply, gauges := t.cfg.gauges },
                       storeWrite := t.storeWrite, ports := t.ports, sup := t.sup, chans := t.chans, queue := t.queue,
                       window := t.window, fan := t.fan })

/-- CONFIG of an INPUTS record (R187), once the seedings and changes of level that the samples already taken have
brought are taken (`u`; log 48): refused IGNITION_ON where they make filtered IGN active (R185), and BAD_VALUE for a
polarity that is neither; else the clamped record is in force at once with every run count 0 and the filtered levels
kept. Where a sample of the coming start has been taken ahead of it the item waits for that start (log 48). CONFIG of a
FLASHER record (R103, R104): refused BAD_VALUE for an enable that is neither; else the clamped record is in force at
once. Both begin a store write. -/
def Obligations.ConfigInputsAndFlasherApplied : Prop :=
  ∀ (p : Port) (f : Frame) (r : Run) (w : PerInput WInput) (v : WFlasher) (s u : State), s.configTest f.slot = none →
    u = s.settleInputs →
    (Executing s p f r (.config (.inputs w)) → (∃ i : InputId, (s.input i).sampledNow = true) →
      exec (.configInputs p) s = .next s) ∧
    (Executing s p f r (.config (.inputs w)) → (∀ i : InputId, (s.input i).sampledNow = false) →
      ∃ t, exec (.configInputs p) s = .next t ∧
        ((u.input .ign).filtered = some true → RefusedWith s t p f r .ignitionOn) ∧
        ((u.input .ign).filtered ≠ some true → (∃ i : InputId, (w.get i).polarity = none) →
          RefusedWith s t p f r .badValue) ∧
        ((u.input .ign).filtered ≠ some true → (∀ i : InputId, (w.get i).polarity ≠ none) →
          (∀ i : InputId, some (t.cfg.inputs.get i).polarity = (w.get i).polarity ∧
            (t.cfg.inputs.get i).debounce = clampTo 2 16 (w.get i).debounce ∧
            t.input i = { u.input i with run := 0 }) ∧
          t.storeWrite = some (.inputs t.cfg.inputs) ∧
          t = { u with cfg := { u.cfg with inputs := t.cfg.inputs }, inputs := t.inputs, storeWrite := t.storeWrite,
                       ports := t.ports } ∧
          Answered s t p f r r.items.tail (Status.only (acceptedStatus
            (allInputs.any fun i => clampTo 2 16 (w.get i).debounce != (w.get i).debounce))))) ∧
    (Executing s p f r (.config (.flasher v)) →
      ∃ t, exec (.configFlasher p) s = .next t ∧
        (v.enable = none → RefusedWith s t p f r .badValue) ∧
        ∀ enable : Bool, v.enable = some enable →
          let x : FlasherRec := { period := clampTo 80 300 v.period, tone := clampTo 500 4000 v.tone,
                                  tick := clampTo 2 20 v.tick, enable := enable }
          t = { s with cfg := { s.cfg with flasher := x }, storeWrite := some (.flasher x), ports := t.ports } ∧
            Answered s t p f r r.items.tail (Status.only (acceptedStatus
              (decide (x.period ≠ v.period ∨ x.tone ≠ v.tone ∨ x.tick ≠ v.tick)))))

/-- CONFIG of a SLOT record (R22, R181; clamping first, and the order of the checks: log 29): BAD_ITEM for no slot;
BAD_VALUE for no port or another slot's port and source address; IN_USE for a move while another accepted frame of the
slot waits; else the clamped record, with the CLAIM right, is in force at once, and a kind the new mask lacks leaves
the pending set. A move of port or source address empties the slot's column, makes it UNHEARD, raises MASTER to the
other two if it had been heard, and leaves the later items BUSY where the slot is the requesting one; without a move
the claims stand, but a LIVE slot whose timer stands at the new timeout falls silent (R20). -/
def Obligations.ConfigSlotApplied : Prop :=
  ∀ (p : Port) (f : Frame) (r : Run) (w : WSlot) (s : State), Executing s p f r (.config (.slot w)) →
    s.configTest f.slot = none →
    ∃ t, exec (.configSlot p) s = .next t ∧
      (w.slot = none → RefusedWith s t p f r .badItem) ∧
      (w.slot ≠ none → w.port = none → RefusedWith s t p f r .badValue) ∧
      ∀ (m : SlotId) (port : Port), w.slot = some m → w.port = some port →
        let x : SlotRec := { port := port, source := clampTo 1 126 w.source, rights := { w.rights with claim := true },
                             timeout := clampTo 20 1000 w.timeout, mask := w.mask }
        let clash := ∃ n : SlotId, n ≠ m ∧ (s.slotRec n).port = x.port ∧ (s.slotRec n).source = x.source
        let moves := x.port ≠ (s.slotRec m).port ∨ x.source ≠ (s.slotRec m).source
        let waits := ∃ q : Port, ∃ y ∈ (if q = p then (s.port q).queue.tail else (s.port q).queue), y.slot = m
        let status := acceptedStatus (decide (x.source ≠ w.source ∨ x.timeout ≠ w.timeout ∨ w.rights.claim = false))
        let falls := ¬ moves ∧ (s.slot m).st = .live ∧ x.timeout ≤ (s.slot m).timer.getD 0
        (clash → RefusedWith s t p f r .badValue) ∧
        (¬ clash → moves → waits → RefusedWith s t p f r .inUse) ∧
        (¬ clash → ¬ (moves ∧ waits) →
          t.slotRec m = x ∧ (∀ n : SlotId, n ≠ m → t.slotRec n = s.slotRec n) ∧ t.storeWrite = some (.slot m x) ∧
          (t.slot m).pending = (s.slot m).pending &&& x.mask ∧
          (t.slot m).st = (if moves then .unheard else if falls then .silent else (s.slot m).st) ∧
          (t.slot m).timer = (if moves ∨ falls then none else (s.slot m).timer) ∧
          (∀ n : SlotId, n ≠ m → t.slot n =
            if moves ∧ (s.slot m).st ≠ .unheard ∨ falls then s.raisedTo .master n else s.slot n) ∧
          (∀ g : Fn, t.cell g m.claimant =
            if moves then none
            else if falls then (s.cell g m.claimant).bind fun k =>
              match (s.fnRec g).policy with
              | .keep => some { k with orphaned := true, hold := none }
              | .drop => none
              | .hold => if (s.fnRec g).hold = 0 then none else
                  some { k with orphaned := true, hold := some (s.fnRec g).hold }
            else s.cell g m.claimant) ∧
          (∀ (g : Fn) (k : Claimant), k ≠ m.claimant → t.cell g k = s.cell g k) ∧
          (¬ moves → ¬ falls → t.results = s.results) ∧ (s.ResultsEvaluated → t.ResultsEvaluated) ∧
          (if moves ∧ m = f.slot then
            Answered s t p f r [] (⟨status, none⟩ :: r.items.tail.map fun _ => ⟨.busy, none⟩)
          else Answered s t p f r r.items.tail (Status.only status)) ∧
          t = { s with cfg := { s.cfg with slots := t.cfg.slots }, storeWrite := t.storeWrite, ports := t.ports,
                       slots := t.slots, claims := t.claims, results := t.results, chans := t.chans, queue := t.queue,
                       window := t.window, flash := t.flash, fan := t.fan })

/-- CONFIG of a FUNCTION record (R2, R3, R4, R12): BAD_ITEM for no function; BAD_VALUE for a field outside its list or
a rank order that does not name each claimant once; else the record is in force at once with its hold time clamped and
the rank NEVER forced on the six functions (answered CLAMPED: log 41), the function's orphaned claims come under it,
and it is re-evaluated. -/
def Obligations.ConfigFunctionApplied : Prop :=
  ∀ (p : Port) (f : Frame) (r : Run) (w : WFunction) (s : State), Executing s p f r (.config (.function w)) →
    s.configTest f.slot = none →
    ∃ t, exec (.configFunction p) s = .next t ∧
      (w.fn = 0 ∨ 15 < w.fn → RefusedWith s t p f r .badItem) ∧
      ∀ g : Fn, w.fn = g.idx.val + 1 →
        let ordered := w.order.length = 4 ∧ ∀ k : Claimant, some k ∈ w.order
        (w.gate = none ∨ w.policy = none ∨ w.rank = none ∨ w.combine = none ∨ ¬ ordered →
          RefusedWith s t p f r .badValue) ∧
        ∀ (gate : Gate) (policy : OrphanPolicy) (rank : ShedRank) (combine : Combine), w.gate = some gate →
          w.policy = some policy → w.rank = some rank → w.combine = some combine → ordered →
          let forced := g = .side ∨ g = .headDip ∨ g = .stop ∨ g = .turnL ∨ g = .turnR ∨ g = .hazard
          let x : FunctionRec := { gate := gate, policy := policy, hold := min 12000 w.hold,
                                   rank := if forced then .never else rank, combine := combine,
                                   order := w.order.filterMap id }
          t.fnRec g = x ∧ x.order.map some = w.order ∧ (∀ h : Fn, h ≠ g → t.fnRec h = s.fnRec h) ∧
          t.storeWrite = some (.function g x) ∧ t.result g = t.evaluated g ∧
          (∀ h : Fn, h ≠ g → t.result h = s.result h) ∧
          (∀ (h : Fn) (k : Claimant), h ≠ g → t.cell h k = s.cell h k) ∧
          (∀ k : Claimant, t.cell g k = (s.cell g k).bind fun y =>
            if y.orphaned = false then some y
            else match x.policy with
              | .keep => some (if (s.fnRec g).policy = .keep then { y with hold := y.hold.map (min x.hold) }
                  else { y with orphaned := true, hold := none })
              | .drop => if (s.fnRec g).policy = .drop then some { y with hold := y.hold.map (min x.hold) } else none
              | .hold => if x.hold = 0 then none
                  else if (s.fnRec g).policy = .hold then some { y with hold := y.hold.map (min x.hold) }
                  else some { y with orphaned := true, hold := some x.hold }) ∧
          Answered s t p f r r.items.tail
            (Status.only (acceptedStatus (decide (12000 < w.hold ∨ forced ∧ rank ≠ .never)))) ∧
          t = { s with cfg := { s.cfg with functions := t.cfg.functions }, storeWrite := t.storeWrite, ports := t.ports,
                       claims := t.claims, results := t.results, chans := t.chans, queue := t.queue, window := t.window,
                       flash := t.flash, fan := t.fan }

/-- CONFIG of a CHANNEL record (R31, R43 to R45, R82, R84, R87), by the checks of R44 in their order: BAD_ITEM for no
channel; BAD_VALUE for a field outside its list, for a kind that the map's entries on the channel forbid, and for a
bound channel that leaves GAUGE; IN_USE outside OFF; else the clamped record is in force at once, the trip count,
BULB_OUT and both counters are cleared, BULB is raised if the flag was set or the low counter had brought it (log 2),
and a change of kind recomputes the channel's demand. -/
def Obligations.ConfigChannelApplied : Prop :=
  ∀ (p : Port) (f : Frame) (r : Run) (w : WChannel) (s : State), Executing s p f r (.config (.channel w)) →
    s.configTest f.slot = none → s.QueueIsWaiting →
    ∃ t, exec (.configChannel p) s = .next t ∧
      (w.channel = 0 ∨ 16 < w.channel → RefusedWith s t p f r .badItem) ∧
      ∀ c : Channel, w.channel = c.val + 1 →
        (w.kind = none ∨ w.protect = none → RefusedWith s t p f r .badValue) ∧
        ∀ (kind : ChKind) (protect : Protect), w.kind = some kind → w.protect = some protect →
          let old := s.chRec c
          let bad := (∃ e ∈ s.entries, e.chan = c ∧
              ((kind = .gauge ∨ kind = .none) ∧ kind ≠ old.kind ∨ kind = .lamp ∧ e.fn = .fan)) ∨
            old.kind = .gauge ∧ kind ≠ .gauge ∧ ∃ g : GaugeId, (s.gaugeRec g).bound = some c
          let run := clampTo 100 32000 w.runLimit
          let x : ChannelRec := {
            kind := kind, phase := min 249 w.phase, rated := clampTo 50 16000 w.rated,
            inrushFactor := clampTo 1 12 w.inrushFactor, window := min 100 w.window, runLimit := run,
            inrushLimit := clampTo run 32000 w.inrushLimit, openThreshold := min 5000 w.openThreshold,
            blanking := min 50 w.blanking, protect := protect, retryLimit := clampTo 1 15 w.retryLimit,
            coolOff := clampTo 20 2000 w.coolOff, signalLamp := w.signalLamp }
          let clamped := x.phase ≠ w.phase ∨ x.rated ≠ w.rated ∨ x.inrushFactor ≠ w.inrushFactor ∨ x.window ≠ w.window ∨
            x.runLimit ≠ w.runLimit ∨ x.inrushLimit ≠ w.inrushLimit ∨ x.openThreshold ≠ w.openThreshold ∨
            x.blanking ≠ w.blanking ∨ x.retryLimit ≠ w.retryLimit ∨ x.coolOff ≠ w.coolOff
          (bad → RefusedWith s t p f r .badValue) ∧
          (¬ bad → (s.chan c).st ≠ .off → RefusedWith s t p f r .inUse) ∧
          (¬ bad → (s.chan c).st = .off →
            t.chRec c = x ∧ (∀ d : Channel, d ≠ c → t.chRec d = s.chRec d ∧ t.chan d = s.chan d) ∧
            t.storeWrite = some (.channel c x) ∧
            (t.chan c = { s.chan c with
              trips := 0, bulbOut := false, low := 0, high := 0,
              demand := (t.chan c).demand, source := (t.chan c).source, onEdge := (t.chan c).onEdge,
              stop := (t.chan c).stop, present := (t.chan c).present }) ∧
            (kind = old.kind → (t.chan c).demand = (s.chan c).demand ∧ (t.chan c).source = (s.chan c).source ∧
              (t.chan c).onEdge = (s.chan c).onEdge ∧ (t.chan c).stop = (s.chan c).stop ∧
              (t.chan c).present = (s.chan c).present) ∧
            (kind ≠ old.kind → s.fanChannel ≠ some c →
              ((t.chan c).demand, (t.chan c).source) = (match kind with
                | .none => (0, .steady)
                | .gauge => if [GaugeId.g1, .g2, .g3].any fun g =>
                      (s.gaugeRec g).enabled && (s.gaugeRec g).bound == some c then
                    ((s.chan c).demand, (s.chan c).source) else (0, .steady)
                | .lamp | .motor => t.composed c)) ∧
            (∀ m : SlotId, t.slot m =
              if (s.chan c).bulbOut = true ∨ (s.chan c).low = 3 then s.raisedTo .bulb m else s.slot m) ∧
            Answered s t p f r r.items.tail (Status.only (acceptedStatus (decide clamped))) ∧
            t = { s with cfg := { s.cfg with channels := t.cfg.channels }, storeWrite := t.storeWrite, ports := t.ports,
                         chans := t.chans, slots := t.slots })

/-- CONFIG of a MAP record (R25 to R30, R37), by the nine checks of R29 in their order: BAD_ITEM for no index, function
or channel; BAD_VALUE for a contribution outside its list or not allowed for the function, a GAUGE or NONE channel, a
FAN entry that does not stand alone on a MOTOR channel, or a second entry of the function on the channel; NO_ROOM for a
fifth entry, and for every later item of the frame, unexecuted (R175; log 50); IN_USE where either channel is not in
OFF; else the entry, its DIM level clamped, is in force at once, every composed channel that had or has it is
recomputed, and the fan unit takes a change of the fan channel (R36, R160, R161; with T at 0 it writes 0 STEADY: log
46). -/
def Obligations.ConfigMapApplied : Prop :=
  ∀ (p : Port) (f : Frame) (r : Run) (w : WMap) (s : State), Executing s p f r (.config (.map w)) →
    s.configTest f.slot = none →
    ∃ t, exec (.configMap p) s = .next t ∧
      (31 < w.idx → RefusedWith s t p f r .badItem) ∧
      ∀ i : Fin 32, w.idx = i.val →
        let before := (s.cfg.map[i]).map MapEntry.chan
        let busy := ∃ d : Channel, before = some d ∧ (s.chan d).st ≠ .off
        let taken (x : Option MapEntry) (clamped : Bool) : Prop :=
          t.cfg = { s.cfg with map := s.cfg.map.set i x } ∧ t.storeWrite = some (.map i x) ∧
          (∀ c : Channel, (x.map MapEntry.chan = some c ∨ before = some c) → t.composes c = true →
            ((t.chan c).demand, (t.chan c).source) = t.composed c) ∧
          (t.fanChannel = none → s.fanChannel ≠ none →
            t.fan = { s.fan with st := .stopped, ramp := 0, stallRun := 0 }) ∧
          (∀ c : Channel, s.QueueIsWaiting → t.fanChannel = some c → s.fanChannel ≠ some c → (s.chan c).st = .off →
            t.fan.st = (if s.fan.target = 0 then .stopped else if s.sup.crank = .crank then .suspended else .starting) ∧
            (t.chan c).demand = (if s.fan.target = 0 ∨ s.sup.crank = .crank then 0 else s.cfg.fan.kickDuty) ∧
            (t.chan c).source = .steady) ∧
          Answered s t p f r r.items.tail (Status.only (acceptedStatus clamped)) ∧
          t = { s with cfg := t.cfg, storeWrite := t.storeWrite, ports := t.ports, chans := t.chans, queue := t.queue,
                       window := t.window, fan := t.fan }
        (w.entry = none → busy → RefusedWith s t p f r .inUse) ∧
        (w.entry = none → ¬ busy → taken none false) ∧
        ∀ e : WEntry, w.entry = some e →
          (e.fn = 0 ∨ 15 < e.fn ∨ e.channel = 0 ∨ 16 < e.channel → RefusedWith s t p f r .badItem) ∧
          ∀ (g : Fn) (c : Channel), e.fn = g.idx.val + 1 → e.channel = c.val + 1 →
            (e.contrib = none → RefusedWith s t p f r .badValue) ∧
            ∀ k : ContribKind, e.contrib = some k →
              let kind := (s.chRec c).kind
              let bad := k = .level ∧ g ≠ .panel ∨ k = .flash ∧ g ≠ .turnL ∧ g ≠ .turnR ∧ g ≠ .hazard ∨
                g = .fan ∧ k ≠ .full ∨ kind = .gauge ∨ kind = .none ∨ g = .fan ∧ kind ≠ .motor ∨
                ∃ j : Fin 32, j ≠ i ∧ ∃ o ∈ s.cfg.map[j],
                  o.fn = .fan ∧ g = .fan ∨ o.chan = c ∧ (g = .fan ∨ o.fn = .fan ∨ o.fn = g)
              let full := 4 ≤ ((List.finRange 32).filter fun j =>
                j ≠ i && (s.cfg.map[j]).map MapEntry.chan == some c).length
              let inUse := (s.chan c).st ≠ .off ∨ busy
              (bad → RefusedWith s t p f r .badValue) ∧
              (¬ bad → full → RefusedWith s t p f r .noRoom) ∧
              (¬ bad → ¬ full → inUse → RefusedWith s t p f r .inUse) ∧
              (¬ bad → ¬ full → ¬ inUse → taken
                (some { fn := g, chan := c, contrib := match k with
                  | .full => .full
                  | .dim => .dim (clampTo 1 249 e.level)
                  | .level => .level
                  | .flash => .flash })
                (decide (k = .dim ∧ clampTo 1 249 e.level ≠ e.level)))

/-- CONFIG of a GAUGE record (R138 to R140), by the checks of R139 in their order: BAD_ITEM for no slot or no channel;
BAD_VALUE for a field outside its list, an enabled slot with no channel, a bound channel that is not GAUGE or is
another slot's, a table of fewer than 2 or more than 12 points, readings that do not rise strictly and a low limit not
below the high one, after clamping; IN_USE with the new or the present channel not in OFF; else the clamped record is
in force at once with the working class as its tag, the slot's state stands, and a channel the slot leaves has demand
0. -/
def Obligations.ConfigGaugeApplied : Prop :=
  ∀ (p : Port) (f : Frame) (r : Run) (w : WGauge) (s : State), Executing s p f r (.config (.gauge w)) →
    s.configTest f.slot = none → s.BoundAreGauges →
    ∃ t, exec (.configGauge p) s = .next t ∧
      (w.gauge = none ∨ (∃ n : Nat, w.bound = some n ∧ (n = 0 ∨ 16 < n)) → RefusedWith s t p f r .badItem) ∧
      ∀ (g : GaugeId) (bound : Option Channel), w.gauge = some g → w.bound = bound.map (fun c => c.val + 1) →
        (w.enabled = none ∨ w.mode = none ∨ w.sender = none → RefusedWith s t p f r .badValue) ∧
        ∀ (enabled : Bool) (mode : GaugeMode) (sender : Sender), w.enabled = some enabled → w.mode = some mode →
          w.sender = some sender →
          let x : GaugeRec := {
            enabled := enabled, bound := bound, mode := mode, target := clampTo 3000 12000 w.target, sender := sender,
            table := w.table.map fun q => (min 20000 q.1, min 12000 q.2), ringLength := clampTo 1 64 w.ringLength,
            divisor := clampTo 1 16 w.divisor, validLow := min 20000 w.validLow, validHigh := min 20000 w.validHigh,
            faultHold := min 2000 w.faultHold, tag := s.cfg.unit.cls }
          let bad := enabled = true ∧ bound = none ∨
            (∃ c : Channel, bound = some c ∧ ((s.chRec c).kind ≠ .gauge ∨
              ∃ h : GaugeId, h ≠ g ∧ (s.gaugeRec h).bound = some c)) ∨
            w.table.length < 2 ∨ 12 < w.table.length ∨ ¬ (x.table.map Prod.fst).Pairwise (· < ·) ∨
            x.validHigh ≤ x.validLow
          let inUse := ∃ c : Channel, (bound = some c ∨ (s.gaugeRec g).bound = some c) ∧ (s.chan c).st ≠ .off
          let clamped := x.target ≠ w.target ∨ x.table ≠ w.table ∨ x.ringLength ≠ w.ringLength ∨
            x.divisor ≠ w.divisor ∨ x.validLow ≠ w.validLow ∨ x.validHigh ≠ w.validHigh ∨ x.faultHold ≠ w.faultHold
          (bad → RefusedWith s t p f r .badValue) ∧
          (¬ bad → inUse → RefusedWith s t p f r .inUse) ∧
          (¬ bad → ¬ inUse →
            t.cfg = { s.cfg with gauges := s.cfg.gauges.set g x } ∧ t.storeWrite = some (.gauge g x) ∧
            (∀ c : Channel, (s.gaugeRec g).bound = some c → bound ≠ some c → s.fanChannel ≠ some c →
              (∀ h : GaugeId, h ≠ g → (s.gaugeRec h).bound ≠ some c) → (t.chan c).demand = 0) ∧
            (∀ c : Channel, ((s.gaugeRec g).bound ≠ some c ∨ bound = some c) → (s.chan c).st ≠ .waiting →
              t.chan c = s.chan c) ∧
            Answered s t p f r r.items.tail (Status.only (acceptedStatus (decide clamped))) ∧
            t = { s with cfg := t.cfg, storeWrite := t.storeWrite, ports := t.ports, chans := t.chans, queue := t.queue,
                         window := t.window, fan := t.fan })

/-- CONFIG of a SUPPLY record (R107 to R110, R122): BAD_VALUE where the clamped thresholds do not fall strictly; else,
once a crank state that START has brought is taken (`u`; log 26), the clamped record is in force at once, the
counters restart at 0, Vf, crank state and shed level stand, and the admission test is applied at the new allowance.
CONFIG of a FAN record (R156, R157): BAD_VALUE where the clamped step duties do not rise, IN_USE with a fan channel
outside OFF; else the clamped record is in force at once, T is recomputed, and a fan that writes the kick duty writes
the new one. -/
def Obligations.ConfigSupplyAndFanApplied : Prop :=
  ∀ (p : Port) (f : Frame) (r : Run) (w : WSupply) (v : WFan) (s u : State), s.configTest f.slot = none →
    u = s.settleSupply →
    (Executing s p f r (.config (.supply w)) →
      let x : SupplyRec := match s.cfg.unit.cls with
        | .c12 => { shed1 := clampTo 9000 14000 w.shed1, shed2 := clampTo 9000 14000 w.shed2,
                    shed3 := clampTo 9000 14000 w.shed3, hysteresis := clampTo 50 1000 w.hysteresis,
                    dwell := clampTo 20 4000 w.dwell, crankThreshold := clampTo 6000 11000 w.crankThreshold,
                    crankMargin := clampTo 100 2000 w.crankMargin, allowance := clampTo 5000 60000 w.allowance,
                    tag := .c12 }
        | .c6 => { shed1 := clampTo 4500 7000 w.shed1, shed2 := clampTo 4500 7000 w.shed2,
                   shed3 := clampTo 4500 7000 w.shed3, hysteresis := clampTo 25 500 w.hysteresis,
                   dwell := clampTo 20 4000 w.dwell, crankThreshold := clampTo 4000 5500 w.crankThreshold,
                   crankMargin := clampTo 50 1000 w.crankMargin, allowance := clampTo 5000 60000 w.allowance,
                   tag := .c6 }
      let clamped := x.shed1 ≠ w.shed1 ∨ x.shed2 ≠ w.shed2 ∨ x.shed3 ≠ w.shed3 ∨ x.hysteresis ≠ w.hysteresis ∨
        x.dwell ≠ w.dwell ∨ x.crankThreshold ≠ w.crankThreshold ∨ x.crankMargin ≠ w.crankMargin ∨
        x.allowance ≠ w.allowance
      ∃ t, exec (.configSupply p) s = .next t ∧
        (¬ (x.shed3 < x.shed2 ∧ x.shed2 < x.shed1) → RefusedWith s t p f r .badValue) ∧
        (x.shed3 < x.shed2 ∧ x.shed2 < x.shed1 →
          t.sup = { u.sup with crankIn := 0, crankOut := 0, rise := u.sup.rise.map fun _ => 0,
                               fall := u.sup.fall.map fun _ => 0, inHand := none } ∧
          (∀ d : Channel, t.queued.head? = some d → t.window ≠ [] ∧
            x.allowance < t.windowSum + (t.chRec d).rated * (t.chRec d).inrushFactor) ∧
          Answered s t p f r r.items.tail (Status.only (acceptedStatus (decide clamped))) ∧
          t = { u with cfg := { s.cfg with supply := x }, storeWrite := some (.supply x), ports := t.ports,
                       sup := t.sup, chans := t.chans, queue := t.queue, window := t.window, fan := t.fan })) ∧
    (Executing s p f r (.config (.fan v)) →
      let x : FanRec := {
        duty1 := clampTo 1 250 v.duty1, duty2 := clampTo 1 250 v.duty2, duty3 := clampTo 1 250 v.duty3,
        kickDuty := clampTo 1 250 v.kickDuty, kickTime := min 200 v.kickTime, rampRate := clampTo 1 25 v.rampRate,
        stallThreshold := clampTo 500 40000 v.stallThreshold, stallSamples := clampTo 2 200 v.stallSamples,
        cap0 := min 3 v.cap0, cap1 := min 3 v.cap1, cap2 := min 3 v.cap2, cap3 := min 3 v.cap3 }
      let rises := x.duty1 ≤ x.duty2 ∧ x.duty2 ≤ x.duty3
      let inUse := ∃ c : Channel, s.fanChannel = some c ∧ (s.chan c).st ≠ .off
      ∃ t, exec (.configFan p) s = .next t ∧
        (¬ rises → RefusedWith s t p f r .badValue) ∧
        (rises → inUse → RefusedWith s t p f r .inUse) ∧
        (rises → ¬ inUse →
          t.fan.target = x.stepDuty (min (min 3 (s.result .fan)) (x.cap s.sup.shed)) ∧
          (∀ c : Channel, s.fanChannel = some c → (t.fan.st = .starting ∨ t.fan.st = .kick) →
            (t.chan c).demand = x.kickDuty ∧ (t.chan c).source = .steady) ∧
          (∀ c : Channel, s.fanChannel ≠ some c → t.chan c = s.chan c) ∧
          Answered s t p f r r.items.tail (Status.only (acceptedStatus (decide (x ≠ v)))) ∧
          t = { s with cfg := { s.cfg with fan := x }, storeWrite := some (.fan x), ports := t.ports, chans := t.chans,
                       fan := t.fan }))

/-- STORE_WRITE_DONE (R185): the stored record and its check hold the contents, and the store is free. Without a write
in flight nothing changes (log 1). -/
def Obligations.StoreWriteEnds : Prop :=
  (∀ (s : State), s.storeWrite = none → exec .storeWriteDone s = .next s) ∧
  ∀ (x : ConfigRecord) (s : State), s.storeWrite = some x →
    exec .storeWriteDone s = .next { s with
      storeWrite := none,
      store := match x with
        | .unit v => { s.store with unit := some v }
        | .inputs v => { s.store with inputs := some v }
        | .slot m v => { s.store with slots := s.store.slots.set m (some v) }
        | .function g v => { s.store with functions := s.store.functions.set g.idx (some v) }
        | .channel c v => { s.store with channels := s.store.channels.set c (some v) }
        | .map i e => { s.store with map := s.store.map.set i (some e) }
        | .gauge g v => { s.store with gauges := s.store.gauges.set g (some v) }
        | .flasher v => { s.store with flasher := some v }
        | .supply v => { s.store with supply := some v }
        | .fan v => { s.store with fan := some v } }

/-- CLEAR_CHANNELS (R80, R81, R177): NOT_PERMITTED without the CLEAR right, BAD_ITEM where a number names no channel,
else every named LATCHED channel is released to OFF with trip count 0 and all else of it kept, its trip record, its
BULB_OUT flag and counters and its pending demand with source and marks, and every other channel stands. A FAULTED fan
on a released channel leaves FAULTED: STOPPED with T at 0, else SUSPENDED in CRANK and STARTING in NORMAL, its demand 0
or the kick duty (R160, R161, R165, R167); the fan stands else. CLEAR_EVENTS (R177, R181): BAD_VALUE for a set with an
unused bit, else the named kinds leave the requesting slot's set. -/
def Obligations.ClearsTakeEffect : Prop :=
  ∀ (p : Port) (f : Frame) (r : Run) (list : List Byte) (low high : Byte) (s : State),
    (Executing s p f r (.clearChannels list) →
      ∃ t, exec (.clearChannels p) s = .next t ∧
        ((s.slotRec f.slot).rights.clear = false →
          RefusedWith s t p f r .notPermitted) ∧
        ((s.slotRec f.slot).rights.clear = true → (∃ b ∈ list, Channel.ofNat? b.toNat = none) →
          RefusedWith s t p f r .badItem) ∧
        ((s.slotRec f.slot).rights.clear = true → (∀ b ∈ list, Channel.ofNat? b.toNat ≠ none) →
          Answered s t p f r r.items.tail (Status.only .ok) ∧
          (∀ c : Channel,
            let released := (s.chan c).st = .latched ∧ ∃ b ∈ list, Channel.ofNat? b.toNat = some c
            let fanLeaves := released ∧ s.fanChannel = some c ∧ s.fan.st = .faulted
            (¬ released → t.chan c = s.chan c) ∧
            (released → ¬ fanLeaves → t.chan c = { s.chan c with st := .off, trips := 0 }) ∧
            (fanLeaves → t.chan c = { s.chan c with
              st := .off, trips := 0, source := .steady, onEdge := false,
              demand := if s.fan.target ≠ 0 ∧ s.sup.crank = .normal then s.cfg.fan.kickDuty else 0 }) ∧
            (fanLeaves → s.fan.target = 0 → t.fan = { s.fan with st := .stopped, ramp := 0, stallRun := 0 }) ∧
            (fanLeaves → s.fan.target ≠ 0 → s.sup.crank = .crank →
              t.fan = { s.fan with st := .suspended, ramp := 0, stallRun := 0 }) ∧
            (fanLeaves → s.fan.target ≠ 0 → s.sup.crank = .normal →
              t.fan = { s.fan with st := .starting, stallRun := 0 }) ∧
            (s.fanChannel = some c → ¬ fanLeaves → t.fan = s.fan)) ∧
          (s.fanChannel = none → t.fan = s.fan)) ∧
        t = { s with ports := t.ports, chans := t.chans, fan := t.fan }) ∧
    (Executing s p f r (.clearEvents low high) →
      ∃ t, exec (.clearEvents p) s = .next t ∧
        (2 ≤ high.toNat → RefusedWith s t p f r .badValue) ∧
        (high.toNat < 2 →
          t.slot f.slot = { s.slot f.slot with
            pending := (s.slot f.slot).pending &&& ~~~((high ++ low).extractLsb' 0 9) } ∧
          (∀ m : SlotId, m ≠ f.slot → t.slot m = s.slot m) ∧ Answered s t p f r r.items.tail (Status.only .ok)) ∧
        t = { s with ports := t.ports, slots := t.slots })

/-- RESET (R178): NOT_PERMITTED without the RESET right, BUSY while a store write is in flight or a reset is due, else
OK with every later item BUSY; the COMMANDED reset follows the reply, and comes at once of an unanswered frame and of
one whose reply is lost (R188; log 21). -/
def Obligations.ResetItemAnswered : Prop :=
  ∀ (p : Port) (f : Frame) (r : Run) (s : State), Executing s p f r .reset →
    let late := r.items.tail.map fun _ => (⟨.busy, none⟩ : Answer)
    ∃ t, exec (.reset p) s = .next t ∧
      ((s.slotRec f.slot).rights.reset = false →
        RefusedWith s t p f r .notPermitted) ∧
      ((s.slotRec f.slot).rights.reset = true → (s.storeWrite ≠ none ∨ s.power.resetDue = true) →
        RefusedWith s t p f r .busy) ∧
      ((s.slotRec f.slot).rights.reset = true → s.storeWrite = none → s.power.resetDue = false →
        (f.answered = false ∨ r.lost = true →
          t.StartedAfter .commanded s.power.brownOuts s.store ∧ t.pending = s.pending) ∧
        (f.answered = true → r.lost = false →
          t = { s with ports := t.ports, power := { s.power with resetDue := true } } ∧
          (∀ q : Port, q ≠ p → t.port q = s.port q) ∧
          t.port p = { s.port p with
            run := none,
            reply := .built { replyTo t p f r (r.answers ++ ⟨.ok, none⟩ :: late) with resetAfter := true } }))

/-! ### Replies -/

/-- REPLY_START (R179): a built reply begins no sooner than 2 octet times (20 bit times) and no later than 5 ms after
the request, on a line on which no frame is being assembled (the delay is the sender's operand: log 22), and not else.
REPLY_SENT (R170, R173, R178, R179, R182): the frame leaves its queue, the port is in HUNT, and the overrun flag is
cleared if the digest showed it; new bit rates then take effect, on both ports (log 32), and a commanded reset follows.
REPLY_ABANDON (R180): line activity before the reply has begun, and an octet read back unlike the one driven, abandon
the reply: the frame leaves its queue, the port returns to HUNT, and the overrun flag stands; what the frame asked for
follows as after a sent reply (log 32). Activity while an answered frame is in execution loses its reply, and its items
go on (log 21). With no reply to end, neither has an effect (log 1). -/
def Obligations.RepliesBeginAndEnd : Prop :=
  (∀ (p : Port) (delay : Nat) (y : Reply) (s : State),
    let timely := 20 * 1000000 ≤ delay * (s.port p).rate.bps ∧ delay ≤ 5000
    (s.running = true → (s.port p).reply = .built y → (s.port p).assembly = .hunt → timely →
      exec (.replyStart p delay) s = .next (s.setPort p { s.port p with reply := .sending y })) ∧
    (s.running = false ∨ (∀ x : Reply, (s.port p).reply ≠ .built x) ∨ (s.port p).assembly ≠ .hunt ∨ ¬ timely →
      exec (.replyStart p delay) s = .next s)) ∧
  (∀ (p : Port) (y : Reply) (s : State), s.running = true →
    ((∀ x : Reply, (s.port p).reply ≠ .sending x) → exec (.replySent p) s = .next s) ∧
    ((s.port p).reply = .sending y → ∃ t, exec (.replySent p) s = .next t ∧
      (y.resetAfter = true → t.StartedAfter .commanded s.power.brownOuts s.storeAfterReset ∧ t.pending = s.pending) ∧
      (y.resetAfter = false → t = { s with ports := t.ports } ∧
        (t.port p).queue = (s.port p).queue.tail ∧ (t.port p).run = none ∧ (t.port p).reply = .quiet ∧
        (t.port p).assembly = .hunt ∧ (t.port p).idle = 0 ∧
        (t.port p).overrun = ((s.port p).overrun && !y.showedOverrun)) ∧
      (y.resetAfter = false → y.rateAfter = true → ∀ q : Port, (t.port q).rate = s.cfg.unit.rates.get q) ∧
      (y.resetAfter = false → y.rateAfter = false →
        (t.port p).rate = (s.port p).rate ∧ ∀ q : Port, q ≠ p → t.port q = s.port q))) ∧
  ∀ (p : Port) (cause : AbandonCause) (driven got : Byte) (y : Reply) (s : State), s.running = true →
    let inRun := (s.port p).reply = .quiet ∧ (∃ r : Run, (s.port p).run = some r ∧ r.lost = false) ∧
      ∃ f : Frame, (s.port p).queue.head? = some f ∧ f.answered = true
    (cause = .lineActive → inRun → exec (.replyAbandon p cause) s = .next (s.setPort p { s.port p with
      run := (s.port p).run.map fun r => { r with lost := true }, assembly := .hunt, idle := 0 })) ∧
    (cause = .lineActive → ¬ inRun → (∀ x : Reply, (s.port p).reply ≠ .built x) →
      exec (.replyAbandon p cause) s = .next s) ∧
    (cause = .readBack driven got → (driven = got ∨ ∀ x : Reply, (s.port p).reply ≠ .sending x) →
      exec (.replyAbandon p cause) s = .next s) ∧
    ((cause = .lineActive ∧ (s.port p).reply = .built y ∨
      cause = .readBack driven got ∧ driven ≠ got ∧ (s.port p).reply = .sending y) →
    ∃ t, exec (.replyAbandon p cause) s = .next t ∧
      (y.resetAfter = true → t.StartedAfter .commanded s.power.brownOuts s.storeAfterReset ∧ t.pending = s.pending) ∧
      (y.resetAfter = false → t = { s with ports := t.ports } ∧
        (t.port p).queue = (s.port p).queue.tail ∧ (t.port p).run = none ∧ (t.port p).reply = .quiet ∧
        (t.port p).assembly = .hunt ∧ (t.port p).idle = 0 ∧ (t.port p).overrun = (s.port p).overrun) ∧
      (y.resetAfter = false → y.rateAfter = true → ∀ q : Port, (t.port q).rate = s.cfg.unit.rates.get q) ∧
      (y.resetAfter = false → y.rateAfter = false →
        (t.port p).rate = (s.port p).rate ∧ ∀ q : Port, q ≠ p → t.port q = s.port q))

/-! ### Dormancy -/

/-- DORMANT_ENTRY (R190, R191, R136), judged once the start's own steps are taken (log 2): the part is DORMANT, every
gate is negated, every request is abandoned and its source's last value marked HELD (R132), each port watches its line,
and all else is kept, the period count, the averaging stage and the other sources' values and marks among it; where one
of its conditions fails nothing changes. WAKE (R23, R123, R192): the start of an octet on a line, START becoming active,
or any change of the raw level of IGN, BRAKE or HAZARD wakes the part to ACTIVE: debounce runs and LIVE slots' timers
restart, the ports hunt, the quiet count and the supervisor's counters are 0, and Vf is absent in NORMAL; claims,
results and configuration are kept. START becoming inactive wakes nothing (its raw level follows: log 33), and a part
that is not DORMANT is not woken. -/
def Obligations.PartSleepsAndWakes : Prop :=
  (∀ (s u : State), s.settleSteps = u →
    let sleeps := u.power.part = .active ∧ u.clock = .started ∧
      (∀ i : InputId, i ≠ .start → (u.input i).filtered ≠ some true ∧ (u.input i).raw = false) ∧
      (∀ c : Channel, (u.chan c).st = .off ∧ (u.chan c).demand = 0) ∧
      (∀ p : Port, (u.port p).queue = [] ∧ (u.port p).reply = .quiet) ∧ u.storeWrite = none ∧
      u.cfg.unit.dormantDelay ≤ u.power.quiet
    (¬ sleeps → exec .dormantEntry s = .next s) ∧
    (sleeps → ∃ t, exec .dormantEntry s = .next t ∧ t.power = { u.power with part := .dormant } ∧
      t.gates = ⟨Vector.replicate 16 false, 0⟩ ∧ t.seq = { u.seq with requests := [], values := t.seq.values } ∧
      (∀ x : Source, t.value x = if (u.request? x).isSome then { u.value x with mark := .held } else u.value x) ∧
      (∀ p : Port, t.port p = { u.port p with assembly := .watching }) ∧
      t = { u with power := t.power, gates := t.gates, seq := t.seq, ports := t.ports })) ∧
  ∀ (cause : WakeCause) (s : State),
    (s.power.part ≠ .dormant → exec (.wake cause) s = .next s) ∧
    (s.power.part = .dormant → cause = .rawChange .start → (s.input .start).raw = true →
      exec (.wake cause) s = .next (s.setInput .start { s.input .start with raw := false })) ∧
    (s.power.part = .dormant → (cause ≠ .rawChange .start ∨ (s.input .start).raw = false) →
    ∃ t, exec (.wake cause) s = .next t ∧ t.clock = .awaiting ∧
      t.power = { s.power with part := .active, quiet := 0, wakeStart := true } ∧
      (∀ i : InputId, t.input i = { s.input i with
        raw := if cause = .rawChange i then !(s.input i).raw else (s.input i).raw, run := 0, sampledNow := false }) ∧
      (∀ m : SlotId, t.slot m = { s.slot m with
        timer := if (s.slot m).st = .live then some 0 else (s.slot m).timer, silencedNow := false }) ∧
      (∀ p : Port, t.port p = { s.port p with assembly := .hunt, idle := 0 }) ∧
      t.sup = { s.sup with
        crankIn := 0, crankOut := 0, rise := s.sup.rise.map fun _ => 0, fall := s.sup.fall.map fun _ => 0,
        inHand := none, vf := if s.sup.crank = .normal then none else s.sup.vf } ∧
      t = { s with clock := t.clock, power := t.power, inputs := t.inputs, slots := t.slots, ports := t.ports,
                   sup := t.sup })
end

