-- ==== Sys2Proof/Laws/State.lean ====
section
/-! SUPPORT. What each setter of the state does to each field, and what each accessor reads after it. -/

namespace Sys2Proof.Machine
open Sys2Proof

/-! ### setChan -/

@[simp] theorem State.setChan_pending (s : State) (c : Channel) (v : Chan) : (s.setChan c v).pending = s.pending := rfl
@[simp] theorem State.setChan_power (s : State) (c : Channel) (v : Chan) : (s.setChan c v).power = s.power := rfl
@[simp] theorem State.setChan_clock (s : State) (c : Channel) (v : Chan) : (s.setChan c v).clock = s.clock := rfl
@[simp] theorem State.setChan_cfg (s : State) (c : Channel) (v : Chan) : (s.setChan c v).cfg = s.cfg := rfl
@[simp] theorem State.setChan_store (s : State) (c : Channel) (v : Chan) : (s.setChan c v).store = s.store := rfl
@[simp] theorem State.setChan_storeWrite (s : State) (c : Channel) (v : Chan) : (s.setChan c v).storeWrite = s.storeWrite := rfl
@[simp] theorem State.setChan_ports (s : State) (c : Channel) (v : Chan) : (s.setChan c v).ports = s.ports := rfl
@[simp] theorem State.setChan_slots (s : State) (c : Channel) (v : Chan) : (s.setChan c v).slots = s.slots := rfl
@[simp] theorem State.setChan_inputs (s : State) (c : Channel) (v : Chan) : (s.setChan c v).inputs = s.inputs := rfl
@[simp] theorem State.setChan_claims (s : State) (c : Channel) (v : Chan) : (s.setChan c v).claims = s.claims := rfl
@[simp] theorem State.setChan_results (s : State) (c : Channel) (v : Chan) : (s.setChan c v).results = s.results := rfl
@[simp] theorem State.setChan_chans (s : State) (c : Channel) (v : Chan) : (s.setChan c v).chans = s.chans.set c v := rfl
@[simp] theorem State.setChan_queue (s : State) (c : Channel) (v : Chan) : (s.setChan c v).queue = s.queue := rfl
@[simp] theorem State.setChan_window (s : State) (c : Channel) (v : Chan) : (s.setChan c v).window = s.window := rfl
@[simp] theorem State.setChan_gates (s : State) (c : Channel) (v : Chan) : (s.setChan c v).gates = s.gates := rfl
@[simp] theorem State.setChan_flash (s : State) (c : Channel) (v : Chan) : (s.setChan c v).flash = s.flash := rfl
@[simp] theorem State.setChan_sup (s : State) (c : Channel) (v : Chan) : (s.setChan c v).sup = s.sup := rfl
@[simp] theorem State.setChan_seq (s : State) (c : Channel) (v : Chan) : (s.setChan c v).seq = s.seq := rfl
@[simp] theorem State.setChan_gauges (s : State) (c : Channel) (v : Chan) : (s.setChan c v).gauges = s.gauges := rfl
@[simp] theorem State.setChan_fan (s : State) (c : Channel) (v : Chan) : (s.setChan c v).fan = s.fan := rfl

/-! ### setResult -/

@[simp] theorem State.setResult_pending (s : State) (f : Fn) (v : Nat) : (s.setResult f v).pending = s.pending := rfl
@[simp] theorem State.setResult_power (s : State) (f : Fn) (v : Nat) : (s.setResult f v).power = s.power := rfl
@[simp] theorem State.setResult_clock (s : State) (f : Fn) (v : Nat) : (s.setResult f v).clock = s.clock := rfl
@[simp] theorem State.setResult_cfg (s : State) (f : Fn) (v : Nat) : (s.setResult f v).cfg = s.cfg := rfl
@[simp] theorem State.setResult_store (s : State) (f : Fn) (v : Nat) : (s.setResult f v).store = s.store := rfl
@[simp] theorem State.setResult_storeWrite (s : State) (f : Fn) (v : Nat) : (s.setResult f v).storeWrite = s.storeWrite := rfl
@[simp] theorem State.setResult_ports (s : State) (f : Fn) (v : Nat) : (s.setResult f v).ports = s.ports := rfl
@[simp] theorem State.setResult_slots (s : State) (f : Fn) (v : Nat) : (s.setResult f v).slots = s.slots := rfl
@[simp] theorem State.setResult_inputs (s : State) (f : Fn) (v : Nat) : (s.setResult f v).inputs = s.inputs := rfl
@[simp] theorem State.setResult_claims (s : State) (f : Fn) (v : Nat) : (s.setResult f v).claims = s.claims := rfl
@[simp] theorem State.setResult_results (s : State) (f : Fn) (v : Nat) : (s.setResult f v).results = s.results.set f.idx v := rfl
@[simp] theorem State.setResult_chans (s : State) (f : Fn) (v : Nat) : (s.setResult f v).chans = s.chans := rfl
@[simp] theorem State.setResult_queue (s : State) (f : Fn) (v : Nat) : (s.setResult f v).queue = s.queue := rfl
@[simp] theorem State.setResult_window (s : State) (f : Fn) (v : Nat) : (s.setResult f v).window = s.window := rfl
@[simp] theorem State.setResult_gates (s : State) (f : Fn) (v : Nat) : (s.setResult f v).gates = s.gates := rfl
@[simp] theorem State.setResult_flash (s : State) (f : Fn) (v : Nat) : (s.setResult f v).flash = s.flash := rfl
@[simp] theorem State.setResult_sup (s : State) (f : Fn) (v : Nat) : (s.setResult f v).sup = s.sup := rfl
@[simp] theorem State.setResult_seq (s : State) (f : Fn) (v : Nat) : (s.setResult f v).seq = s.seq := rfl
@[simp] theorem State.setResult_gauges (s : State) (f : Fn) (v : Nat) : (s.setResult f v).gauges = s.gauges := rfl
@[simp] theorem State.setResult_fan (s : State) (f : Fn) (v : Nat) : (s.setResult f v).fan = s.fan := rfl

/-! ### setCell -/

@[simp] theorem State.setCell_pending (s : State) (f : Fn) (k : Claimant) (v : Option Claim) : (s.setCell f k v).pending = s.pending := rfl
@[simp] theorem State.setCell_power (s : State) (f : Fn) (k : Claimant) (v : Option Claim) : (s.setCell f k v).power = s.power := rfl
@[simp] theorem State.setCell_clock (s : State) (f : Fn) (k : Claimant) (v : Option Claim) : (s.setCell f k v).clock = s.clock := rfl
@[simp] theorem State.setCell_cfg (s : State) (f : Fn) (k : Claimant) (v : Option Claim) : (s.setCell f k v).cfg = s.cfg := rfl
@[simp] theorem State.setCell_store (s : State) (f : Fn) (k : Claimant) (v : Option Claim) : (s.setCell f k v).store = s.store := rfl
@[simp] theorem State.setCell_storeWrite (s : State) (f : Fn) (k : Claimant) (v : Option Claim) : (s.setCell f k v).storeWrite = s.storeWrite := rfl
@[simp] theorem State.setCell_ports (s : State) (f : Fn) (k : Claimant) (v : Option Claim) : (s.setCell f k v).ports = s.ports := rfl
@[simp] theorem State.setCell_slots (s : State) (f : Fn) (k : Claimant) (v : Option Claim) : (s.setCell f k v).slots = s.slots := rfl
@[simp] theorem State.setCell_inputs (s : State) (f : Fn) (k : Claimant) (v : Option Claim) : (s.setCell f k v).inputs = s.inputs := rfl
@[simp] theorem State.setCell_claims (s : State) (f : Fn) (k : Claimant) (v : Option Claim) : (s.setCell f k v).claims = s.claims.set f.idx ((s.claims[f.idx]).set k v) := rfl
@[simp] theorem State.setCell_results (s : State) (f : Fn) (k : Claimant) (v : Option Claim) : (s.setCell f k v).results = s.results := rfl
@[simp] theorem State.setCell_chans (s : State) (f : Fn) (k : Claimant) (v : Option Claim) : (s.setCell f k v).chans = s.chans := rfl
@[simp] theorem State.setCell_queue (s : State) (f : Fn) (k : Claimant) (v : Option Claim) : (s.setCell f k v).queue = s.queue := rfl
@[simp] theorem State.setCell_window (s : State) (f : Fn) (k : Claimant) (v : Option Claim) : (s.setCell f k v).window = s.window := rfl
@[simp] theorem State.setCell_gates (s : State) (f : Fn) (k : Claimant) (v : Option Claim) : (s.setCell f k v).gates = s.gates := rfl
@[simp] theorem State.setCell_flash (s : State) (f : Fn) (k : Claimant) (v : Option Claim) : (s.setCell f k v).flash = s.flash := rfl
@[simp] theorem State.setCell_sup (s : State) (f : Fn) (k : Claimant) (v : Option Claim) : (s.setCell f k v).sup = s.sup := rfl
@[simp] theorem State.setCell_seq (s : State) (f : Fn) (k : Claimant) (v : Option Claim) : (s.setCell f k v).seq = s.seq := rfl
@[simp] theorem State.setCell_gauges (s : State) (f : Fn) (k : Claimant) (v : Option Claim) : (s.setCell f k v).gauges = s.gauges := rfl
@[simp] theorem State.setCell_fan (s : State) (f : Fn) (k : Claimant) (v : Option Claim) : (s.setCell f k v).fan = s.fan := rfl

/-! ### setPort -/

@[simp] theorem State.setPort_pending (s : State) (p : Port) (v : PortState) : (s.setPort p v).pending = s.pending := rfl
@[simp] theorem State.setPort_power (s : State) (p : Port) (v : PortState) : (s.setPort p v).power = s.power := rfl
@[simp] theorem State.setPort_clock (s : State) (p : Port) (v : PortState) : (s.setPort p v).clock = s.clock := rfl
@[simp] theorem State.setPort_cfg (s : State) (p : Port) (v : PortState) : (s.setPort p v).cfg = s.cfg := rfl
@[simp] theorem State.setPort_store (s : State) (p : Port) (v : PortState) : (s.setPort p v).store = s.store := rfl
@[simp] theorem State.setPort_storeWrite (s : State) (p : Port) (v : PortState) : (s.setPort p v).storeWrite = s.storeWrite := rfl
@[simp] theorem State.setPort_ports (s : State) (p : Port) (v : PortState) : (s.setPort p v).ports = s.ports.set p v := rfl
@[simp] theorem State.setPort_slots (s : State) (p : Port) (v : PortState) : (s.setPort p v).slots = s.slots := rfl
@[simp] theorem State.setPort_inputs (s : State) (p : Port) (v : PortState) : (s.setPort p v).inputs = s.inputs := rfl
@[simp] theorem State.setPort_claims (s : State) (p : Port) (v : PortState) : (s.setPort p v).claims = s.claims := rfl
@[simp] theorem State.setPort_results (s : State) (p : Port) (v : PortState) : (s.setPort p v).results = s.results := rfl
@[simp] theorem State.setPort_chans (s : State) (p : Port) (v : PortState) : (s.setPort p v).chans = s.chans := rfl
@[simp] theorem State.setPort_queue (s : State) (p : Port) (v : PortState) : (s.setPort p v).queue = s.queue := rfl
@[simp] theorem State.setPort_window (s : State) (p : Port) (v : PortState) : (s.setPort p v).window = s.window := rfl
@[simp] theorem State.setPort_gates (s : State) (p : Port) (v : PortState) : (s.setPort p v).gates = s.gates := rfl
@[simp] theorem State.setPort_flash (s : State) (p : Port) (v : PortState) : (s.setPort p v).flash = s.flash := rfl
@[simp] theorem State.setPort_sup (s : State) (p : Port) (v : PortState) : (s.setPort p v).sup = s.sup := rfl
@[simp] theorem State.setPort_seq (s : State) (p : Port) (v : PortState) : (s.setPort p v).seq = s.seq := rfl
@[simp] theorem State.setPort_gauges (s : State) (p : Port) (v : PortState) : (s.setPort p v).gauges = s.gauges := rfl
@[simp] theorem State.setPort_fan (s : State) (p : Port) (v : PortState) : (s.setPort p v).fan = s.fan := rfl

/-! ### setSlot -/

@[simp] theorem State.setSlot_pending (s : State) (m : SlotId) (v : Slot) : (s.setSlot m v).pending = s.pending := rfl
@[simp] theorem State.setSlot_power (s : State) (m : SlotId) (v : Slot) : (s.setSlot m v).power = s.power := rfl
@[simp] theorem State.setSlot_clock (s : State) (m : SlotId) (v : Slot) : (s.setSlot m v).clock = s.clock := rfl
@[simp] theorem State.setSlot_cfg (s : State) (m : SlotId) (v : Slot) : (s.setSlot m v).cfg = s.cfg := rfl
@[simp] theorem State.setSlot_store (s : State) (m : SlotId) (v : Slot) : (s.setSlot m v).store = s.store := rfl
@[simp] theorem State.setSlot_storeWrite (s : State) (m : SlotId) (v : Slot) : (s.setSlot m v).storeWrite = s.storeWrite := rfl
@[simp] theorem State.setSlot_ports (s : State) (m : SlotId) (v : Slot) : (s.setSlot m v).ports = s.ports := rfl
@[simp] theorem State.setSlot_slots (s : State) (m : SlotId) (v : Slot) : (s.setSlot m v).slots = s.slots.set m v := rfl
@[simp] theorem State.setSlot_inputs (s : State) (m : SlotId) (v : Slot) : (s.setSlot m v).inputs = s.inputs := rfl
@[simp] theorem State.setSlot_claims (s : State) (m : SlotId) (v : Slot) : (s.setSlot m v).claims = s.claims := rfl
@[simp] theorem State.setSlot_results (s : State) (m : SlotId) (v : Slot) : (s.setSlot m v).results = s.results := rfl
@[simp] theorem State.setSlot_chans (s : State) (m : SlotId) (v : Slot) : (s.setSlot m v).chans = s.chans := rfl
@[simp] theorem State.setSlot_queue (s : State) (m : SlotId) (v : Slot) : (s.setSlot m v).queue = s.queue := rfl
@[simp] theorem State.setSlot_window (s : State) (m : SlotId) (v : Slot) : (s.setSlot m v).window = s.window := rfl
@[simp] theorem State.setSlot_gates (s : State) (m : SlotId) (v : Slot) : (s.setSlot m v).gates = s.gates := rfl
@[simp] theorem State.setSlot_flash (s : State) (m : SlotId) (v : Slot) : (s.setSlot m v).flash = s.flash := rfl
@[simp] theorem State.setSlot_sup (s : State) (m : SlotId) (v : Slot) : (s.setSlot m v).sup = s.sup := rfl
@[simp] theorem State.setSlot_seq (s : State) (m : SlotId) (v : Slot) : (s.setSlot m v).seq = s.seq := rfl
@[simp] theorem State.setSlot_gauges (s : State) (m : SlotId) (v : Slot) : (s.setSlot m v).gauges = s.gauges := rfl
@[simp] theorem State.setSlot_fan (s : State) (m : SlotId) (v : Slot) : (s.setSlot m v).fan = s.fan := rfl

/-! ### setInput -/

@[simp] theorem State.setInput_pending (s : State) (i : InputId) (v : Input) : (s.setInput i v).pending = s.pending := rfl
@[simp] theorem State.setInput_power (s : State) (i : InputId) (v : Input) : (s.setInput i v).power = s.power := rfl
@[simp] theorem State.setInput_clock (s : State) (i : InputId) (v : Input) : (s.setInput i v).clock = s.clock := rfl
@[simp] theorem State.setInput_cfg (s : State) (i : InputId) (v : Input) : (s.setInput i v).cfg = s.cfg := rfl
@[simp] theorem State.setInput_store (s : State) (i : InputId) (v : Input) : (s.setInput i v).store = s.store := rfl
@[simp] theorem State.setInput_storeWrite (s : State) (i : InputId) (v : Input) : (s.setInput i v).storeWrite = s.storeWrite := rfl
@[simp] theorem State.setInput_ports (s : State) (i : InputId) (v : Input) : (s.setInput i v).ports = s.ports := rfl
@[simp] theorem State.setInput_slots (s : State) (i : InputId) (v : Input) : (s.setInput i v).slots = s.slots := rfl
@[simp] theorem State.setInput_inputs (s : State) (i : InputId) (v : Input) : (s.setInput i v).inputs = s.inputs.set i v := rfl
@[simp] theorem State.setInput_claims (s : State) (i : InputId) (v : Input) : (s.setInput i v).claims = s.claims := rfl
@[simp] theorem State.setInput_results (s : State) (i : InputId) (v : Input) : (s.setInput i v).results = s.results := rfl
@[simp] theorem State.setInput_chans (s : State) (i : InputId) (v : Input) : (s.setInput i v).chans = s.chans := rfl
@[simp] theorem State.setInput_queue (s : State) (i : InputId) (v : Input) : (s.setInput i v).queue = s.queue := rfl
@[simp] theorem State.setInput_window (s : State) (i : InputId) (v : Input) : (s.setInput i v).window = s.window := rfl
@[simp] theorem State.setInput_gates (s : State) (i : InputId) (v : Input) : (s.setInput i v).gates = s.gates := rfl
@[simp] theorem State.setInput_flash (s : State) (i : InputId) (v : Input) : (s.setInput i v).flash = s.flash := rfl
@[simp] theorem State.setInput_sup (s : State) (i : InputId) (v : Input) : (s.setInput i v).sup = s.sup := rfl
@[simp] theorem State.setInput_seq (s : State) (i : InputId) (v : Input) : (s.setInput i v).seq = s.seq := rfl
@[simp] theorem State.setInput_gauges (s : State) (i : InputId) (v : Input) : (s.setInput i v).gauges = s.gauges := rfl
@[simp] theorem State.setInput_fan (s : State) (i : InputId) (v : Input) : (s.setInput i v).fan = s.fan := rfl

/-! ### setGauge -/

@[simp] theorem State.setGauge_pending (s : State) (g : GaugeId) (v : GaugeSlot) : (s.setGauge g v).pending = s.pending := rfl
@[simp] theorem State.setGauge_power (s : State) (g : GaugeId) (v : GaugeSlot) : (s.setGauge g v).power = s.power := rfl
@[simp] theorem State.setGauge_clock (s : State) (g : GaugeId) (v : GaugeSlot) : (s.setGauge g v).clock = s.clock := rfl
@[simp] theorem State.setGauge_cfg (s : State) (g : GaugeId) (v : GaugeSlot) : (s.setGauge g v).cfg = s.cfg := rfl
@[simp] theorem State.setGauge_store (s : State) (g : GaugeId) (v : GaugeSlot) : (s.setGauge g v).store = s.store := rfl
@[simp] theorem State.setGauge_storeWrite (s : State) (g : GaugeId) (v : GaugeSlot) : (s.setGauge g v).storeWrite = s.storeWrite := rfl
@[simp] theorem State.setGauge_ports (s : State) (g : GaugeId) (v : GaugeSlot) : (s.setGauge g v).ports = s.ports := rfl
@[simp] theorem State.setGauge_slots (s : State) (g : GaugeId) (v : GaugeSlot) : (s.setGauge g v).slots = s.slots := rfl
@[simp] theorem State.setGauge_inputs (s : State) (g : GaugeId) (v : GaugeSlot) : (s.setGauge g v).inputs = s.inputs := rfl
@[simp] theorem State.setGauge_claims (s : State) (g : GaugeId) (v : GaugeSlot) : (s.setGauge g v).claims = s.claims := rfl
@[simp] theorem State.setGauge_results (s : State) (g : GaugeId) (v : GaugeSlot) : (s.setGauge g v).results = s.results := rfl
@[simp] theorem State.setGauge_chans (s : State) (g : GaugeId) (v : GaugeSlot) : (s.setGauge g v).chans = s.chans := rfl
@[simp] theorem State.setGauge_queue (s : State) (g : GaugeId) (v : GaugeSlot) : (s.setGauge g v).queue = s.queue := rfl
@[simp] theorem State.setGauge_window (s : State) (g : GaugeId) (v : GaugeSlot) : (s.setGauge g v).window = s.window := rfl
@[simp] theorem State.setGauge_gates (s : State) (g : GaugeId) (v : GaugeSlot) : (s.setGauge g v).gates = s.gates := rfl
@[simp] theorem State.setGauge_flash (s : State) (g : GaugeId) (v : GaugeSlot) : (s.setGauge g v).flash = s.flash := rfl
@[simp] theorem State.setGauge_sup (s : State) (g : GaugeId) (v : GaugeSlot) : (s.setGauge g v).sup = s.sup := rfl
@[simp] theorem State.setGauge_seq (s : State) (g : GaugeId) (v : GaugeSlot) : (s.setGauge g v).seq = s.seq := rfl
@[simp] theorem State.setGauge_gauges (s : State) (g : GaugeId) (v : GaugeSlot) : (s.setGauge g v).gauges = s.gauges.set g v := rfl
@[simp] theorem State.setGauge_fan (s : State) (g : GaugeId) (v : GaugeSlot) : (s.setGauge g v).fan = s.fan := rfl

/-! ### setFan -/

@[simp] theorem State.setFan_pending (s : State) (v : Fan) : (s.setFan v).pending = s.pending := rfl
@[simp] theorem State.setFan_power (s : State) (v : Fan) : (s.setFan v).power = s.power := rfl
@[simp] theorem State.setFan_clock (s : State) (v : Fan) : (s.setFan v).clock = s.clock := rfl
@[simp] theorem State.setFan_cfg (s : State) (v : Fan) : (s.setFan v).cfg = s.cfg := rfl
@[simp] theorem State.setFan_store (s : State) (v : Fan) : (s.setFan v).store = s.store := rfl
@[simp] theorem State.setFan_storeWrite (s : State) (v : Fan) : (s.setFan v).storeWrite = s.storeWrite := rfl
@[simp] theorem State.setFan_ports (s : State) (v : Fan) : (s.setFan v).ports = s.ports := rfl
@[simp] theorem State.setFan_slots (s : State) (v : Fan) : (s.setFan v).slots = s.slots := rfl
@[simp] theorem State.setFan_inputs (s : State) (v : Fan) : (s.setFan v).inputs = s.inputs := rfl
@[simp] theorem State.setFan_claims (s : State) (v : Fan) : (s.setFan v).claims = s.claims := rfl
@[simp] theorem State.setFan_results (s : State) (v : Fan) : (s.setFan v).results = s.results := rfl
@[simp] theorem State.setFan_chans (s : State) (v : Fan) : (s.setFan v).chans = s.chans := rfl
@[simp] theorem State.setFan_queue (s : State) (v : Fan) : (s.setFan v).queue = s.queue := rfl
@[simp] theorem State.setFan_window (s : State) (v : Fan) : (s.setFan v).window = s.window := rfl
@[simp] theorem State.setFan_gates (s : State) (v : Fan) : (s.setFan v).gates = s.gates := rfl
@[simp] theorem State.setFan_flash (s : State) (v : Fan) : (s.setFan v).flash = s.flash := rfl
@[simp] theorem State.setFan_sup (s : State) (v : Fan) : (s.setFan v).sup = s.sup := rfl
@[simp] theorem State.setFan_seq (s : State) (v : Fan) : (s.setFan v).seq = s.seq := rfl
@[simp] theorem State.setFan_gauges (s : State) (v : Fan) : (s.setFan v).gauges = s.gauges := rfl
@[simp] theorem State.setFan_fan (s : State) (v : Fan) : (s.setFan v).fan = v := rfl

/-! ### setSup -/

@[simp] theorem State.setSup_pending (s : State) (v : Supervisor) : (s.setSup v).pending = s.pending := rfl
@[simp] theorem State.setSup_power (s : State) (v : Supervisor) : (s.setSup v).power = s.power := rfl
@[simp] theorem State.setSup_clock (s : State) (v : Supervisor) : (s.setSup v).clock = s.clock := rfl
@[simp] theorem State.setSup_cfg (s : State) (v : Supervisor) : (s.setSup v).cfg = s.cfg := rfl
@[simp] theorem State.setSup_store (s : State) (v : Supervisor) : (s.setSup v).store = s.store := rfl
@[simp] theorem State.setSup_storeWrite (s : State) (v : Supervisor) : (s.setSup v).storeWrite = s.storeWrite := rfl
@[simp] theorem State.setSup_ports (s : State) (v : Supervisor) : (s.setSup v).ports = s.ports := rfl
@[simp] theorem State.setSup_slots (s : State) (v : Supervisor) : (s.setSup v).slots = s.slots := rfl
@[simp] theorem State.setSup_inputs (s : State) (v : Supervisor) : (s.setSup v).inputs = s.inputs := rfl
@[simp] theorem State.setSup_claims (s : State) (v : Supervisor) : (s.setSup v).claims = s.claims := rfl
@[simp] theorem State.setSup_results (s : State) (v : Supervisor) : (s.setSup v).results = s.results := rfl
@[simp] theorem State.setSup_chans (s : State) (v : Supervisor) : (s.setSup v).chans = s.chans := rfl
@[simp] theorem State.setSup_queue (s : State) (v : Supervisor) : (s.setSup v).queue = s.queue := rfl
@[simp] theorem State.setSup_window (s : State) (v : Supervisor) : (s.setSup v).window = s.window := rfl
@[simp] theorem State.setSup_gates (s : State) (v : Supervisor) : (s.setSup v).gates = s.gates := rfl
@[simp] theorem State.setSup_flash (s : State) (v : Supervisor) : (s.setSup v).flash = s.flash := rfl
@[simp] theorem State.setSup_sup (s : State) (v : Supervisor) : (s.setSup v).sup = v := rfl
@[simp] theorem State.setSup_seq (s : State) (v : Supervisor) : (s.setSup v).seq = s.seq := rfl
@[simp] theorem State.setSup_gauges (s : State) (v : Supervisor) : (s.setSup v).gauges = s.gauges := rfl
@[simp] theorem State.setSup_fan (s : State) (v : Supervisor) : (s.setSup v).fan = s.fan := rfl

/-! ### setFlash -/

@[simp] theorem State.setFlash_pending (s : State) (v : Flash) : (s.setFlash v).pending = s.pending := rfl
@[simp] theorem State.setFlash_power (s : State) (v : Flash) : (s.setFlash v).power = s.power := rfl
@[simp] theorem State.setFlash_clock (s : State) (v : Flash) : (s.setFlash v).clock = s.clock := rfl
@[simp] theorem State.setFlash_cfg (s : State) (v : Flash) : (s.setFlash v).cfg = s.cfg := rfl
@[simp] theorem State.setFlash_store (s : State) (v : Flash) : (s.setFlash v).store = s.store := rfl
@[simp] theorem State.setFlash_storeWrite (s : State) (v : Flash) : (s.setFlash v).storeWrite = s.storeWrite := rfl
@[simp] theorem State.setFlash_ports (s : State) (v : Flash) : (s.setFlash v).ports = s.ports := rfl
@[simp] theorem State.setFlash_slots (s : State) (v : Flash) : (s.setFlash v).slots = s.slots := rfl
@[simp] theorem State.setFlash_inputs (s : State) (v : Flash) : (s.setFlash v).inputs = s.inputs := rfl
@[simp] theorem State.setFlash_claims (s : State) (v : Flash) : (s.setFlash v).claims = s.claims := rfl
@[simp] theorem State.setFlash_results (s : State) (v : Flash) : (s.setFlash v).results = s.results := rfl
@[simp] theorem State.setFlash_chans (s : State) (v : Flash) : (s.setFlash v).chans = s.chans := rfl
@[simp] theorem State.setFlash_queue (s : State) (v : Flash) : (s.setFlash v).queue = s.queue := rfl
@[simp] theorem State.setFlash_window (s : State) (v : Flash) : (s.setFlash v).window = s.window := rfl
@[simp] theorem State.setFlash_gates (s : State) (v : Flash) : (s.setFlash v).gates = s.gates := rfl
@[simp] theorem State.setFlash_flash (s : State) (v : Flash) : (s.setFlash v).flash = v := rfl
@[simp] theorem State.setFlash_sup (s : State) (v : Flash) : (s.setFlash v).sup = s.sup := rfl
@[simp] theorem State.setFlash_seq (s : State) (v : Flash) : (s.setFlash v).seq = s.seq := rfl
@[simp] theorem State.setFlash_gauges (s : State) (v : Flash) : (s.setFlash v).gauges = s.gauges := rfl
@[simp] theorem State.setFlash_fan (s : State) (v : Flash) : (s.setFlash v).fan = s.fan := rfl

/-! ### setSeq -/

@[simp] theorem State.setSeq_pending (s : State) (v : Sequencer) : (s.setSeq v).pending = s.pending := rfl
@[simp] theorem State.setSeq_power (s : State) (v : Sequencer) : (s.setSeq v).power = s.power := rfl
@[simp] theorem State.setSeq_clock (s : State) (v : Sequencer) : (s.setSeq v).clock = s.clock := rfl
@[simp] theorem State.setSeq_cfg (s : State) (v : Sequencer) : (s.setSeq v).cfg = s.cfg := rfl
@[simp] theorem State.setSeq_store (s : State) (v : Sequencer) : (s.setSeq v).store = s.store := rfl
@[simp] theorem State.setSeq_storeWrite (s : State) (v : Sequencer) : (s.setSeq v).storeWrite = s.storeWrite := rfl
@[simp] theorem State.setSeq_ports (s : State) (v : Sequencer) : (s.setSeq v).ports = s.ports := rfl
@[simp] theorem State.setSeq_slots (s : State) (v : Sequencer) : (s.setSeq v).slots = s.slots := rfl
@[simp] theorem State.setSeq_inputs (s : State) (v : Sequencer) : (s.setSeq v).inputs = s.inputs := rfl
@[simp] theorem State.setSeq_claims (s : State) (v : Sequencer) : (s.setSeq v).claims = s.claims := rfl
@[simp] theorem State.setSeq_results (s : State) (v : Sequencer) : (s.setSeq v).results = s.results := rfl
@[simp] theorem State.setSeq_chans (s : State) (v : Sequencer) : (s.setSeq v).chans = s.chans := rfl
@[simp] theorem State.setSeq_queue (s : State) (v : Sequencer) : (s.setSeq v).queue = s.queue := rfl
@[simp] theorem State.setSeq_window (s : State) (v : Sequencer) : (s.setSeq v).window = s.window := rfl
@[simp] theorem State.setSeq_gates (s : State) (v : Sequencer) : (s.setSeq v).gates = s.gates := rfl
@[simp] theorem State.setSeq_flash (s : State) (v : Sequencer) : (s.setSeq v).flash = s.flash := rfl
@[simp] theorem State.setSeq_sup (s : State) (v : Sequencer) : (s.setSeq v).sup = s.sup := rfl
@[simp] theorem State.setSeq_seq (s : State) (v : Sequencer) : (s.setSeq v).seq = v := rfl
@[simp] theorem State.setSeq_gauges (s : State) (v : Sequencer) : (s.setSeq v).gauges = s.gauges := rfl
@[simp] theorem State.setSeq_fan (s : State) (v : Sequencer) : (s.setSeq v).fan = s.fan := rfl

/-! ### setPower -/

@[simp] theorem State.setPower_pending (s : State) (v : Power) : (s.setPower v).pending = s.pending := rfl
@[simp] theorem State.setPower_power (s : State) (v : Power) : (s.setPower v).power = v := rfl
@[simp] theorem State.setPower_clock (s : State) (v : Power) : (s.setPower v).clock = s.clock := rfl
@[simp] theorem State.setPower_cfg (s : State) (v : Power) : (s.setPower v).cfg = s.cfg := rfl
@[simp] theorem State.setPower_store (s : State) (v : Power) : (s.setPower v).store = s.store := rfl
@[simp] theorem State.setPower_storeWrite (s : State) (v : Power) : (s.setPower v).storeWrite = s.storeWrite := rfl
@[simp] theorem State.setPower_ports (s : State) (v : Power) : (s.setPower v).ports = s.ports := rfl
@[simp] theorem State.setPower_slots (s : State) (v : Power) : (s.setPower v).slots = s.slots := rfl
@[simp] theorem State.setPower_inputs (s : State) (v : Power) : (s.setPower v).inputs = s.inputs := rfl
@[simp] theorem State.setPower_claims (s : State) (v : Power) : (s.setPower v).claims = s.claims := rfl
@[simp] theorem State.setPower_results (s : State) (v : Power) : (s.setPower v).results = s.results := rfl
@[simp] theorem State.setPower_chans (s : State) (v : Power) : (s.setPower v).chans = s.chans := rfl
@[simp] theorem State.setPower_queue (s : State) (v : Power) : (s.setPower v).queue = s.queue := rfl
@[simp] theorem State.setPower_window (s : State) (v : Power) : (s.setPower v).window = s.window := rfl
@[simp] theorem State.setPower_gates (s : State) (v : Power) : (s.setPower v).gates = s.gates := rfl
@[simp] theorem State.setPower_flash (s : State) (v : Power) : (s.setPower v).flash = s.flash := rfl
@[simp] theorem State.setPower_sup (s : State) (v : Power) : (s.setPower v).sup = s.sup := rfl
@[simp] theorem State.setPower_seq (s : State) (v : Power) : (s.setPower v).seq = s.seq := rfl
@[simp] theorem State.setPower_gauges (s : State) (v : Power) : (s.setPower v).gauges = s.gauges := rfl
@[simp] theorem State.setPower_fan (s : State) (v : Power) : (s.setPower v).fan = s.fan := rfl

/-! ### setClock -/

@[simp] theorem State.setClock_pending (s : State) (v : Clock) : (s.setClock v).pending = s.pending := rfl
@[simp] theorem State.setClock_power (s : State) (v : Clock) : (s.setClock v).power = s.power := rfl
@[simp] theorem State.setClock_clock (s : State) (v : Clock) : (s.setClock v).clock = v := rfl
@[simp] theorem State.setClock_cfg (s : State) (v : Clock) : (s.setClock v).cfg = s.cfg := rfl
@[simp] theorem State.setClock_store (s : State) (v : Clock) : (s.setClock v).store = s.store := rfl
@[simp] theorem State.setClock_storeWrite (s : State) (v : Clock) : (s.setClock v).storeWrite = s.storeWrite := rfl
@[simp] theorem State.setClock_ports (s : State) (v : Clock) : (s.setClock v).ports = s.ports := rfl
@[simp] theorem State.setClock_slots (s : State) (v : Clock) : (s.setClock v).slots = s.slots := rfl
@[simp] theorem State.setClock_inputs (s : State) (v : Clock) : (s.setClock v).inputs = s.inputs := rfl
@[simp] theorem State.setClock_claims (s : State) (v : Clock) : (s.setClock v).claims = s.claims := rfl
@[simp] theorem State.setClock_results (s : State) (v : Clock) : (s.setClock v).results = s.results := rfl
@[simp] theorem State.setClock_chans (s : State) (v : Clock) : (s.setClock v).chans = s.chans := rfl
@[simp] theorem State.setClock_queue (s : State) (v : Clock) : (s.setClock v).queue = s.queue := rfl
@[simp] theorem State.setClock_window (s : State) (v : Clock) : (s.setClock v).window = s.window := rfl
@[simp] theorem State.setClock_gates (s : State) (v : Clock) : (s.setClock v).gates = s.gates := rfl
@[simp] theorem State.setClock_flash (s : State) (v : Clock) : (s.setClock v).flash = s.flash := rfl
@[simp] theorem State.setClock_sup (s : State) (v : Clock) : (s.setClock v).sup = s.sup := rfl
@[simp] theorem State.setClock_seq (s : State) (v : Clock) : (s.setClock v).seq = s.seq := rfl
@[simp] theorem State.setClock_gauges (s : State) (v : Clock) : (s.setClock v).gauges = s.gauges := rfl
@[simp] theorem State.setClock_fan (s : State) (v : Clock) : (s.setClock v).fan = s.fan := rfl

/-! ### setQueue -/

@[simp] theorem State.setQueue_pending (s : State) (v : List (Channel × Urgency)) : (s.setQueue v).pending = s.pending := rfl
@[simp] theorem State.setQueue_power (s : State) (v : List (Channel × Urgency)) : (s.setQueue v).power = s.power := rfl
@[simp] theorem State.setQueue_clock (s : State) (v : List (Channel × Urgency)) : (s.setQueue v).clock = s.clock := rfl
@[simp] theorem State.setQueue_cfg (s : State) (v : List (Channel × Urgency)) : (s.setQueue v).cfg = s.cfg := rfl
@[simp] theorem State.setQueue_store (s : State) (v : List (Channel × Urgency)) : (s.setQueue v).store = s.store := rfl
@[simp] theorem State.setQueue_storeWrite (s : State) (v : List (Channel × Urgency)) : (s.setQueue v).storeWrite = s.storeWrite := rfl
@[simp] theorem State.setQueue_ports (s : State) (v : List (Channel × Urgency)) : (s.setQueue v).ports = s.ports := rfl
@[simp] theorem State.setQueue_slots (s : State) (v : List (Channel × Urgency)) : (s.setQueue v).slots = s.slots := rfl
@[simp] theorem State.setQueue_inputs (s : State) (v : List (Channel × Urgency)) : (s.setQueue v).inputs = s.inputs := rfl
@[simp] theorem State.setQueue_claims (s : State) (v : List (Channel × Urgency)) : (s.setQueue v).claims = s.claims := rfl
@[simp] theorem State.setQueue_results (s : State) (v : List (Channel × Urgency)) : (s.setQueue v).results = s.results := rfl
@[simp] theorem State.setQueue_chans (s : State) (v : List (Channel × Urgency)) : (s.setQueue v).chans = s.chans := rfl
@[simp] theorem State.setQueue_queue (s : State) (v : List (Channel × Urgency)) : (s.setQueue v).queue = v := rfl
@[simp] theorem State.setQueue_window (s : State) (v : List (Channel × Urgency)) : (s.setQueue v).window = s.window := rfl
@[simp] theorem State.setQueue_gates (s : State) (v : List (Channel × Urgency)) : (s.setQueue v).gates = s.gates := rfl
@[simp] theorem State.setQueue_flash (s : State) (v : List (Channel × Urgency)) : (s.setQueue v).flash = s.flash := rfl
@[simp] theorem State.setQueue_sup (s : State) (v : List (Channel × Urgency)) : (s.setQueue v).sup = s.sup := rfl
@[simp] theorem State.setQueue_seq (s : State) (v : List (Channel × Urgency)) : (s.setQueue v).seq = s.seq := rfl
@[simp] theorem State.setQueue_gauges (s : State) (v : List (Channel × Urgency)) : (s.setQueue v).gauges = s.gauges := rfl
@[simp] theorem State.setQueue_fan (s : State) (v : List (Channel × Urgency)) : (s.setQueue v).fan = s.fan := rfl

/-! ### setWindow -/

@[simp] theorem State.setWindow_pending (s : State) (v : List (Channel × Nat)) : (s.setWindow v).pending = s.pending := rfl
@[simp] theorem State.setWindow_power (s : State) (v : List (Channel × Nat)) : (s.setWindow v).power = s.power := rfl
@[simp] theorem State.setWindow_clock (s : State) (v : List (Channel × Nat)) : (s.setWindow v).clock = s.clock := rfl
@[simp] theorem State.setWindow_cfg (s : State) (v : List (Channel × Nat)) : (s.setWindow v).cfg = s.cfg := rfl
@[simp] theorem State.setWindow_store (s : State) (v : List (Channel × Nat)) : (s.setWindow v).store = s.store := rfl
@[simp] theorem State.setWindow_storeWrite (s : State) (v : List (Channel × Nat)) : (s.setWindow v).storeWrite = s.storeWrite := rfl
@[simp] theorem State.setWindow_ports (s : State) (v : List (Channel × Nat)) : (s.setWindow v).ports = s.ports := rfl
@[simp] theorem State.setWindow_slots (s : State) (v : List (Channel × Nat)) : (s.setWindow v).slots = s.slots := rfl
@[simp] theorem State.setWindow_inputs (s : State) (v : List (Channel × Nat)) : (s.setWindow v).inputs = s.inputs := rfl
@[simp] theorem State.setWindow_claims (s : State) (v : List (Channel × Nat)) : (s.setWindow v).claims = s.claims := rfl
@[simp] theorem State.setWindow_results (s : State) (v : List (Channel × Nat)) : (s.setWindow v).results = s.results := rfl
@[simp] theorem State.setWindow_chans (s : State) (v : List (Channel × Nat)) : (s.setWindow v).chans = s.chans := rfl
@[simp] theorem State.setWindow_queue (s : State) (v : List (Channel × Nat)) : (s.setWindow v).queue = s.queue := rfl
@[simp] theorem State.setWindow_window (s : State) (v : List (Channel × Nat)) : (s.setWindow v).window = v := rfl
@[simp] theorem State.setWindow_gates (s : State) (v : List (Channel × Nat)) : (s.setWindow v).gates = s.gates := rfl
@[simp] theorem State.setWindow_flash (s : State) (v : List (Channel × Nat)) : (s.setWindow v).flash = s.flash := rfl
@[simp] theorem State.setWindow_sup (s : State) (v : List (Channel × Nat)) : (s.setWindow v).sup = s.sup := rfl
@[simp] theorem State.setWindow_seq (s : State) (v : List (Channel × Nat)) : (s.setWindow v).seq = s.seq := rfl
@[simp] theorem State.setWindow_gauges (s : State) (v : List (Channel × Nat)) : (s.setWindow v).gauges = s.gauges := rfl
@[simp] theorem State.setWindow_fan (s : State) (v : List (Channel × Nat)) : (s.setWindow v).fan = s.fan := rfl

/-! ### setGates -/

@[simp] theorem State.setGates_pending (s : State) (v : Gates) : (s.setGates v).pending = s.pending := rfl
@[simp] theorem State.setGates_power (s : State) (v : Gates) : (s.setGates v).power = s.power := rfl
@[simp] theorem State.setGates_clock (s : State) (v : Gates) : (s.setGates v).clock = s.clock := rfl
@[simp] theorem State.setGates_cfg (s : State) (v : Gates) : (s.setGates v).cfg = s.cfg := rfl
@[simp] theorem State.setGates_store (s : State) (v : Gates) : (s.setGates v).store = s.store := rfl
@[simp] theorem State.setGates_storeWrite (s : State) (v : Gates) : (s.setGates v).storeWrite = s.storeWrite := rfl
@[simp] theorem State.setGates_ports (s : State) (v : Gates) : (s.setGates v).ports = s.ports := rfl
@[simp] theorem State.setGates_slots (s : State) (v : Gates) : (s.setGates v).slots = s.slots := rfl
@[simp] theorem State.setGates_inputs (s : State) (v : Gates) : (s.setGates v).inputs = s.inputs := rfl
@[simp] theorem State.setGates_claims (s : State) (v : Gates) : (s.setGates v).claims = s.claims := rfl
@[simp] theorem State.setGates_results (s : State) (v : Gates) : (s.setGates v).results = s.results := rfl
@[simp] theorem State.setGates_chans (s : State) (v : Gates) : (s.setGates v).chans = s.chans := rfl
@[simp] theorem State.setGates_queue (s : State) (v : Gates) : (s.setGates v).queue = s.queue := rfl
@[simp] theorem State.setGates_window (s : State) (v : Gates) : (s.setGates v).window = s.window := rfl
@[simp] theorem State.setGates_gates (s : State) (v : Gates) : (s.setGates v).gates = v := rfl
@[simp] theorem State.setGates_flash (s : State) (v : Gates) : (s.setGates v).flash = s.flash := rfl
@[simp] theorem State.setGates_sup (s : State) (v : Gates) : (s.setGates v).sup = s.sup := rfl
@[simp] theorem State.setGates_seq (s : State) (v : Gates) : (s.setGates v).seq = s.seq := rfl
@[simp] theorem State.setGates_gauges (s : State) (v : Gates) : (s.setGates v).gauges = s.gauges := rfl
@[simp] theorem State.setGates_fan (s : State) (v : Gates) : (s.setGates v).fan = s.fan := rfl

/-! ### setCfg -/

@[simp] theorem State.setCfg_pending (s : State) (v : Working) : (s.setCfg v).pending = s.pending := rfl
@[simp] theorem State.setCfg_power (s : State) (v : Working) : (s.setCfg v).power = s.power := rfl
@[simp] theorem State.setCfg_clock (s : State) (v : Working) : (s.setCfg v).clock = s.clock := rfl
@[simp] theorem State.setCfg_cfg (s : State) (v : Working) : (s.setCfg v).cfg = v := rfl
@[simp] theorem State.setCfg_store (s : State) (v : Working) : (s.setCfg v).store = s.store := rfl
@[simp] theorem State.setCfg_storeWrite (s : State) (v : Working) : (s.setCfg v).storeWrite = s.storeWrite := rfl
@[simp] theorem State.setCfg_ports (s : State) (v : Working) : (s.setCfg v).ports = s.ports := rfl
@[simp] theorem State.setCfg_slots (s : State) (v : Working) : (s.setCfg v).slots = s.slots := rfl
@[simp] theorem State.setCfg_inputs (s : State) (v : Working) : (s.setCfg v).inputs = s.inputs := rfl
@[simp] theorem State.setCfg_claims (s : State) (v : Working) : (s.setCfg v).claims = s.claims := rfl
@[simp] theorem State.setCfg_results (s : State) (v : Working) : (s.setCfg v).results = s.results := rfl
@[simp] theorem State.setCfg_chans (s : State) (v : Working) : (s.setCfg v).chans = s.chans := rfl
@[simp] theorem State.setCfg_queue (s : State) (v : Working) : (s.setCfg v).queue = s.queue := rfl
@[simp] theorem State.setCfg_window (s : State) (v : Working) : (s.setCfg v).window = s.window := rfl
@[simp] theorem State.setCfg_gates (s : State) (v : Working) : (s.setCfg v).gates = s.gates := rfl
@[simp] theorem State.setCfg_flash (s : State) (v : Working) : (s.setCfg v).flash = s.flash := rfl
@[simp] theorem State.setCfg_sup (s : State) (v : Working) : (s.setCfg v).sup = s.sup := rfl
@[simp] theorem State.setCfg_seq (s : State) (v : Working) : (s.setCfg v).seq = s.seq := rfl
@[simp] theorem State.setCfg_gauges (s : State) (v : Working) : (s.setCfg v).gauges = s.gauges := rfl
@[simp] theorem State.setCfg_fan (s : State) (v : Working) : (s.setCfg v).fan = s.fan := rfl

/-! ### setStore -/

@[simp] theorem State.setStore_pending (s : State) (v : Store) : (s.setStore v).pending = s.pending := rfl
@[simp] theorem State.setStore_power (s : State) (v : Store) : (s.setStore v).power = s.power := rfl
@[simp] theorem State.setStore_clock (s : State) (v : Store) : (s.setStore v).clock = s.clock := rfl
@[simp] theorem State.setStore_cfg (s : State) (v : Store) : (s.setStore v).cfg = s.cfg := rfl
@[simp] theorem State.setStore_store (s : State) (v : Store) : (s.setStore v).store = v := rfl
@[simp] theorem State.setStore_storeWrite (s : State) (v : Store) : (s.setStore v).storeWrite = s.storeWrite := rfl
@[simp] theorem State.setStore_ports (s : State) (v : Store) : (s.setStore v).ports = s.ports := rfl
@[simp] theorem State.setStore_slots (s : State) (v : Store) : (s.setStore v).slots = s.slots := rfl
@[simp] theorem State.setStore_inputs (s : State) (v : Store) : (s.setStore v).inputs = s.inputs := rfl
@[simp] theorem State.setStore_claims (s : State) (v : Store) : (s.setStore v).claims = s.claims := rfl
@[simp] theorem State.setStore_results (s : State) (v : Store) : (s.setStore v).results = s.results := rfl
@[simp] theorem State.setStore_chans (s : State) (v : Store) : (s.setStore v).chans = s.chans := rfl
@[simp] theorem State.setStore_queue (s : State) (v : Store) : (s.setStore v).queue = s.queue := rfl
@[simp] theorem State.setStore_window (s : State) (v : Store) : (s.setStore v).window = s.window := rfl
@[simp] theorem State.setStore_gates (s : State) (v : Store) : (s.setStore v).gates = s.gates := rfl
@[simp] theorem State.setStore_flash (s : State) (v : Store) : (s.setStore v).flash = s.flash := rfl
@[simp] theorem State.setStore_sup (s : State) (v : Store) : (s.setStore v).sup = s.sup := rfl
@[simp] theorem State.setStore_seq (s : State) (v : Store) : (s.setStore v).seq = s.seq := rfl
@[simp] theorem State.setStore_gauges (s : State) (v : Store) : (s.setStore v).gauges = s.gauges := rfl
@[simp] theorem State.setStore_fan (s : State) (v : Store) : (s.setStore v).fan = s.fan := rfl

/-! ### setStoreWrite -/

@[simp] theorem State.setStoreWrite_pending (s : State) (v : Option ConfigRecord) : (s.setStoreWrite v).pending = s.pending := rfl
@[simp] theorem State.setStoreWrite_power (s : State) (v : Option ConfigRecord) : (s.setStoreWrite v).power = s.power := rfl
@[simp] theorem State.setStoreWrite_clock (s : State) (v : Option ConfigRecord) : (s.setStoreWrite v).clock = s.clock := rfl
@[simp] theorem State.setStoreWrite_cfg (s : State) (v : Option ConfigRecord) : (s.setStoreWrite v).cfg = s.cfg := rfl
@[simp] theorem State.setStoreWrite_store (s : State) (v : Option ConfigRecord) : (s.setStoreWrite v).store = s.store := rfl
@[simp] theorem State.setStoreWrite_storeWrite (s : State) (v : Option ConfigRecord) : (s.setStoreWrite v).storeWrite = v := rfl
@[simp] theorem State.setStoreWrite_ports (s : State) (v : Option ConfigRecord) : (s.setStoreWrite v).ports = s.ports := rfl
@[simp] theorem State.setStoreWrite_slots (s : State) (v : Option ConfigRecord) : (s.setStoreWrite v).slots = s.slots := rfl
@[simp] theorem State.setStoreWrite_inputs (s : State) (v : Option ConfigRecord) : (s.setStoreWrite v).inputs = s.inputs := rfl
@[simp] theorem State.setStoreWrite_claims (s : State) (v : Option ConfigRecord) : (s.setStoreWrite v).claims = s.claims := rfl
@[simp] theorem State.setStoreWrite_results (s : State) (v : Option ConfigRecord) : (s.setStoreWrite v).results = s.results := rfl
@[simp] theorem State.setStoreWrite_chans (s : State) (v : Option ConfigRecord) : (s.setStoreWrite v).chans = s.chans := rfl
@[simp] theorem State.setStoreWrite_queue (s : State) (v : Option ConfigRecord) : (s.setStoreWrite v).queue = s.queue := rfl
@[simp] theorem State.setStoreWrite_window (s : State) (v : Option ConfigRecord) : (s.setStoreWrite v).window = s.window := rfl
@[simp] theorem State.setStoreWrite_gates (s : State) (v : Option ConfigRecord) : (s.setStoreWrite v).gates = s.gates := rfl
@[simp] theorem State.setStoreWrite_flash (s : State) (v : Option ConfigRecord) : (s.setStoreWrite v).flash = s.flash := rfl
@[simp] theorem State.setStoreWrite_sup (s : State) (v : Option ConfigRecord) : (s.setStoreWrite v).sup = s.sup := rfl
@[simp] theorem State.setStoreWrite_seq (s : State) (v : Option ConfigRecord) : (s.setStoreWrite v).seq = s.seq := rfl
@[simp] theorem State.setStoreWrite_gauges (s : State) (v : Option ConfigRecord) : (s.setStoreWrite v).gauges = s.gauges := rfl
@[simp] theorem State.setStoreWrite_fan (s : State) (v : Option ConfigRecord) : (s.setStoreWrite v).fan = s.fan := rfl

/-! ### Tables -/

theorem PerPort_get_set {α : Type} (t : PerPort α) (i j : Port) (v : α) :
    (t.set i v).get j = if i = j then v else t.get j := by
  cases i <;> cases j <;> rfl

theorem PerSlot_get_set {α : Type} (t : PerSlot α) (i j : SlotId) (v : α) :
    (t.set i v).get j = if i = j then v else t.get j := by
  cases i <;> cases j <;> rfl

theorem PerClaimant_get_set {α : Type} (t : PerClaimant α) (i j : Claimant) (v : α) :
    (t.set i v).get j = if i = j then v else t.get j := by
  cases i <;> cases j <;> rfl

theorem PerInput_get_set {α : Type} (t : PerInput α) (i j : InputId) (v : α) :
    (t.set i v).get j = if i = j then v else t.get j := by
  cases i <;> cases j <;> rfl

theorem PerGauge_get_set {α : Type} (t : PerGauge α) (i j : GaugeId) (v : α) :
    (t.set i v).get j = if i = j then v else t.get j := by
  cases i <;> cases j <;> rfl

theorem Fn.idx_inj (f g : Fn) : f.idx = g.idx ↔ f = g := by cases f <;> cases g <;> decide

theorem Fn.mem_all (f : Fn) : f ∈ Fn.all := by cases f <;> decide

theorem mem_allChannels (c : Channel) : c ∈ allChannels := by revert c; decide

theorem mem_allSlots (m : SlotId) : m ∈ allSlots := by cases m <;> decide

theorem mem_allPorts (p : Port) : p ∈ allPorts := by cases p <;> decide

theorem mem_allGauges (g : GaugeId) : g ∈ allGauges := by cases g <;> decide

theorem mem_allInputs (i : InputId) : i ∈ allInputs := by cases i <;> decide

theorem SlotId.claimant_inj (m n : SlotId) : m.claimant = n.claimant ↔ m = n := by cases m <;> cases n <;> decide

/-! ### Accessors after their own setter -/

@[simp] theorem State.chan_setChan (s : State) (c d : Channel) (v : Chan) :
    (s.setChan c v).chan d = if c = d then v else s.chan d := by
  simp [State.chan, State.setChan, Vector.getElem_set, Fin.ext_iff]

@[simp] theorem State.chan_modChan (s : State) (c d : Channel) (f : Chan → Chan) :
    (s.modChan c f).chan d = if c = d then f (s.chan c) else s.chan d := by
  simp [State.modChan]

@[simp] theorem State.result_setResult (s : State) (f g : Fn) (v : Nat) :
    (s.setResult f v).result g = if f = g then v else s.result g := by
  simp [State.result, State.setResult, Vector.getElem_set, ← Fn.idx_inj, Fin.ext_iff]

@[simp] theorem State.cell_setCell (s : State) (f g : Fn) (k j : Claimant) (v : Option Claim) :
    (s.setCell f k v).cell g j = if f = g ∧ k = j then v else s.cell g j := by
  by_cases h : f = g
  · subst h; simp [State.cell, State.setCell, PerClaimant_get_set]
  · have hi : f.idx.val ≠ g.idx.val := fun e => h ((Fn.idx_inj f g).mp (Fin.ext e))
    simp [State.cell, State.setCell, h, hi]

@[simp] theorem State.port_setPort (s : State) (p q : Port) (v : PortState) :
    (s.setPort p v).port q = if p = q then v else s.port q := PerPort_get_set ..

@[simp] theorem State.slot_setSlot (s : State) (m n : SlotId) (v : Slot) :
    (s.setSlot m v).slot n = if m = n then v else s.slot n := PerSlot_get_set ..

@[simp] theorem State.input_setInput (s : State) (i j : InputId) (v : Input) :
    (s.setInput i v).input j = if i = j then v else s.input j := PerInput_get_set ..

@[simp] theorem State.gauge_setGauge (s : State) (g h : GaugeId) (v : GaugeSlot) :
    (s.setGauge g v).gauge h = if g = h then v else s.gauge h := PerGauge_get_set ..

/-! ### modChan -/

@[simp] theorem State.modChan_pending (s : State) (c : Channel) (f : Chan → Chan) : (s.modChan c f).pending = s.pending := rfl
@[simp] theorem State.modChan_power (s : State) (c : Channel) (f : Chan → Chan) : (s.modChan c f).power = s.power := rfl
@[simp] theorem State.modChan_clock (s : State) (c : Channel) (f : Chan → Chan) : (s.modChan c f).clock = s.clock := rfl
@[simp] theorem State.modChan_cfg (s : State) (c : Channel) (f : Chan → Chan) : (s.modChan c f).cfg = s.cfg := rfl
@[simp] theorem State.modChan_store (s : State) (c : Channel) (f : Chan → Chan) : (s.modChan c f).store = s.store := rfl
@[simp] theorem State.modChan_storeWrite (s : State) (c : Channel) (f : Chan → Chan) : (s.modChan c f).storeWrite = s.storeWrite := rfl
@[simp] theorem State.modChan_ports (s : State) (c : Channel) (f : Chan → Chan) : (s.modChan c f).ports = s.ports := rfl
@[simp] theorem State.modChan_slots (s : State) (c : Channel) (f : Chan → Chan) : (s.modChan c f).slots = s.slots := rfl
@[simp] theorem State.modChan_inputs (s : State) (c : Channel) (f : Chan → Chan) : (s.modChan c f).inputs = s.inputs := rfl
@[simp] theorem State.modChan_claims (s : State) (c : Channel) (f : Chan → Chan) : (s.modChan c f).claims = s.claims := rfl
@[simp] theorem State.modChan_results (s : State) (c : Channel) (f : Chan → Chan) : (s.modChan c f).results = s.results := rfl
@[simp] theorem State.modChan_chans (s : State) (c : Channel) (f : Chan → Chan) : (s.modChan c f).chans = s.chans.set c (f (s.chan c)) := rfl
@[simp] theorem State.modChan_queue (s : State) (c : Channel) (f : Chan → Chan) : (s.modChan c f).queue = s.queue := rfl
@[simp] theorem State.modChan_window (s : State) (c : Channel) (f : Chan → Chan) : (s.modChan c f).window = s.window := rfl
@[simp] theorem State.modChan_gates (s : State) (c : Channel) (f : Chan → Chan) : (s.modChan c f).gates = s.gates := rfl
@[simp] theorem State.modChan_flash (s : State) (c : Channel) (f : Chan → Chan) : (s.modChan c f).flash = s.flash := rfl
@[simp] theorem State.modChan_sup (s : State) (c : Channel) (f : Chan → Chan) : (s.modChan c f).sup = s.sup := rfl
@[simp] theorem State.modChan_seq (s : State) (c : Channel) (f : Chan → Chan) : (s.modChan c f).seq = s.seq := rfl
@[simp] theorem State.modChan_gauges (s : State) (c : Channel) (f : Chan → Chan) : (s.modChan c f).gauges = s.gauges := rfl
@[simp] theorem State.modChan_fan (s : State) (c : Channel) (f : Chan → Chan) : (s.modChan c f).fan = s.fan := rfl

end Sys2Proof.Machine
end

