-- ==== Sys2Proof/Laws/Keep.lean ====
section
/-! SUPPORT. For each shared operation, the fields it leaves as they were. The `_keep` lemmas say it once for any reading
of the state that the operation's own fields do not reach; the `_frame` lemmas say it field by field, as a conjunction
that the simplifier splits. A later proof cites these and does not unfold the operation. -/

namespace Sys2Proof.Machine
open Sys2Proof

variable {β : Type}

/-- A reading of the state that the field pending does not reach. -/
abbrev Free_pending (rd : State → β) : Prop := ∀ (s : State) (v : List Instr), rd { s with pending := v } = rd s

/-- A reading of the state that the field power does not reach. -/
abbrev Free_power (rd : State → β) : Prop := ∀ (s : State) (v : Power), rd { s with power := v } = rd s

/-- A reading of the state that the field clock does not reach. -/
abbrev Free_clock (rd : State → β) : Prop := ∀ (s : State) (v : Clock), rd { s with clock := v } = rd s

/-- A reading of the state that the field cfg does not reach. -/
abbrev Free_cfg (rd : State → β) : Prop := ∀ (s : State) (v : Working), rd { s with cfg := v } = rd s

/-- A reading of the state that the field store does not reach. -/
abbrev Free_store (rd : State → β) : Prop := ∀ (s : State) (v : Store), rd { s with store := v } = rd s

/-- A reading of the state that the field storeWrite does not reach. -/
abbrev Free_storeWrite (rd : State → β) : Prop := ∀ (s : State) (v : Option ConfigRecord), rd { s with storeWrite := v } = rd s

/-- A reading of the state that the field ports does not reach. -/
abbrev Free_ports (rd : State → β) : Prop := ∀ (s : State) (v : PerPort PortState), rd { s with ports := v } = rd s

/-- A reading of the state that the field slots does not reach. -/
abbrev Free_slots (rd : State → β) : Prop := ∀ (s : State) (v : PerSlot Slot), rd { s with slots := v } = rd s

/-- A reading of the state that the field inputs does not reach. -/
abbrev Free_inputs (rd : State → β) : Prop := ∀ (s : State) (v : PerInput Input), rd { s with inputs := v } = rd s

/-- A reading of the state that the field claims does not reach. -/
abbrev Free_claims (rd : State → β) : Prop := ∀ (s : State) (v : Vector (PerClaimant (Option Claim)) 15), rd { s with claims := v } = rd s

/-- A reading of the state that the field results does not reach. -/
abbrev Free_results (rd : State → β) : Prop := ∀ (s : State) (v : Vector Nat 15), rd { s with results := v } = rd s

/-- A reading of the state that the field chans does not reach. -/
abbrev Free_chans (rd : State → β) : Prop := ∀ (s : State) (v : Vector Chan 16), rd { s with chans := v } = rd s

/-- A reading of the state that the field queue does not reach. -/
abbrev Free_queue (rd : State → β) : Prop := ∀ (s : State) (v : List (Channel × Urgency)), rd { s with queue := v } = rd s

/-- A reading of the state that the field window does not reach. -/
abbrev Free_window (rd : State → β) : Prop := ∀ (s : State) (v : List (Channel × Nat)), rd { s with window := v } = rd s

/-- A reading of the state that the field gates does not reach. -/
abbrev Free_gates (rd : State → β) : Prop := ∀ (s : State) (v : Gates), rd { s with gates := v } = rd s

/-- A reading of the state that the field flash does not reach. -/
abbrev Free_flash (rd : State → β) : Prop := ∀ (s : State) (v : Flash), rd { s with flash := v } = rd s

/-- A reading of the state that the field sup does not reach. -/
abbrev Free_sup (rd : State → β) : Prop := ∀ (s : State) (v : Supervisor), rd { s with sup := v } = rd s

/-- A reading of the state that the field seq does not reach. -/
abbrev Free_seq (rd : State → β) : Prop := ∀ (s : State) (v : Sequencer), rd { s with seq := v } = rd s

/-- A reading of the state that the field gauges does not reach. -/
abbrev Free_gauges (rd : State → β) : Prop := ∀ (s : State) (v : PerGauge GaugeSlot), rd { s with gauges := v } = rd s

/-- A reading of the state that the field fan does not reach. -/
abbrev Free_fan (rd : State → β) : Prop := ∀ (s : State) (v : Fan), rd { s with fan := v } = rd s

/-- What every step of a fold keeps, the fold keeps. -/
theorem foldl_keep {α : Type} (rd : State → β) (f : State → α → State) (h : ∀ s a, rd (f s a) = rd s) :
    ∀ (l : List α) (s : State), rd (l.foldl f s) = rd s
  | [], _ => rfl
  | a :: l, s => by rw [List.foldl_cons, foldl_keep rd f h l, h]

/-- A state named by a `let` and read as `s` may be replaced by its name. -/
theorem let_keep (rd : State → β) {s x : State} {f : State → State} (hx : rd x = rd s)
    (h : ∀ a, rd a = rd s → rd (f a) = rd s) : rd (let a := x; f a) = rd s := h x hx

theorem State.ifFan_keep (rd : State → β) (s : State) (c : Channel) (f : State → State)
    (h : ∀ t, rd (f t) = rd t) : rd (s.ifFan c f) = rd s := by
  unfold State.ifFan; split <;> simp only [h]

theorem State.whenDue_keep (rd : State → β) (s : State) (b : Bool) (f : State → State)
    (h : ∀ t, rd (f t) = rd t) : rd (s.whenDue b f) = rd s := by
  unfold State.whenDue; split <;> simp only [h]

theorem State.setChan_keep (rd : State → β) (h_chans : Free_chans rd) (s : State) (c : Channel) (v : Chan) :
    rd (s.setChan c v) = rd s := h_chans _ _

theorem State.modChan_keep (rd : State → β) (h_chans : Free_chans rd) (s : State) (c : Channel) (f : Chan → Chan) :
    rd (s.modChan c f) = rd s := h_chans _ _

theorem State.setResult_keep (rd : State → β) (h_results : Free_results rd) (s : State) (f : Fn) (v : Nat) :
    rd (s.setResult f v) = rd s := h_results _ _

theorem State.setCell_keep (rd : State → β) (h_claims : Free_claims rd) (s : State) (f : Fn) (k : Claimant) (v : Option Claim) :
    rd (s.setCell f k v) = rd s := h_claims _ _

theorem State.setPort_keep (rd : State → β) (h_ports : Free_ports rd) (s : State) (p : Port) (v : PortState) :
    rd (s.setPort p v) = rd s := h_ports _ _

theorem State.setSlot_keep (rd : State → β) (h_slots : Free_slots rd) (s : State) (m : SlotId) (v : Slot) :
    rd (s.setSlot m v) = rd s := h_slots _ _

theorem State.setInput_keep (rd : State → β) (h_inputs : Free_inputs rd) (s : State) (i : InputId) (v : Input) :
    rd (s.setInput i v) = rd s := h_inputs _ _

theorem State.setGauge_keep (rd : State → β) (h_gauges : Free_gauges rd) (s : State) (g : GaugeId) (v : GaugeSlot) :
    rd (s.setGauge g v) = rd s := h_gauges _ _

theorem State.setFan_keep (rd : State → β) (h_fan : Free_fan rd) (s : State) (v : Fan) :
    rd (s.setFan v) = rd s := h_fan _ _

theorem State.setSup_keep (rd : State → β) (h_sup : Free_sup rd) (s : State) (v : Supervisor) :
    rd (s.setSup v) = rd s := h_sup _ _

theorem State.setFlash_keep (rd : State → β) (h_flash : Free_flash rd) (s : State) (v : Flash) :
    rd (s.setFlash v) = rd s := h_flash _ _

theorem State.setSeq_keep (rd : State → β) (h_seq : Free_seq rd) (s : State) (v : Sequencer) :
    rd (s.setSeq v) = rd s := h_seq _ _

theorem State.setPower_keep (rd : State → β) (h_power : Free_power rd) (s : State) (v : Power) :
    rd (s.setPower v) = rd s := h_power _ _

theorem State.setClock_keep (rd : State → β) (h_clock : Free_clock rd) (s : State) (v : Clock) :
    rd (s.setClock v) = rd s := h_clock _ _

theorem State.setQueue_keep (rd : State → β) (h_queue : Free_queue rd) (s : State) (v : List (Channel × Urgency)) :
    rd (s.setQueue v) = rd s := h_queue _ _

theorem State.setWindow_keep (rd : State → β) (h_window : Free_window rd) (s : State) (v : List (Channel × Nat)) :
    rd (s.setWindow v) = rd s := h_window _ _

theorem State.setGates_keep (rd : State → β) (h_gates : Free_gates rd) (s : State) (v : Gates) :
    rd (s.setGates v) = rd s := h_gates _ _

theorem State.setCfg_keep (rd : State → β) (h_cfg : Free_cfg rd) (s : State) (v : Working) :
    rd (s.setCfg v) = rd s := h_cfg _ _

theorem State.setStore_keep (rd : State → β) (h_store : Free_store rd) (s : State) (v : Store) :
    rd (s.setStore v) = rd s := h_store _ _

theorem State.setStoreWrite_keep (rd : State → β) (h_storeWrite : Free_storeWrite rd) (s : State) (v : Option ConfigRecord) :
    rd (s.setStoreWrite v) = rd s := h_storeWrite _ _

/-- A reading that no field but the queue reaches. -/
theorem State.copy_keep (rd : State → β) (h_power : Free_power rd) (h_clock : Free_clock rd) (h_cfg : Free_cfg rd) (h_store : Free_store rd) (h_storeWrite : Free_storeWrite rd) (h_ports : Free_ports rd) (h_slots : Free_slots rd) (h_inputs : Free_inputs rd) (h_claims : Free_claims rd) (h_results : Free_results rd) (h_chans : Free_chans rd) (h_queue : Free_queue rd) (h_window : Free_window rd) (h_gates : Free_gates rd) (h_flash : Free_flash rd) (h_sup : Free_sup rd) (h_seq : Free_seq rd) (h_gauges : Free_gauges rd) (h_fan : Free_fan rd) (s t : State)
    (h : t.pending = s.pending) : rd t = rd s := by
  obtain ⟨q, a0, a1, a2, a3, a4, a5, a6, a7, a8, a9, a10, a11, a12, a13, a14, a15, a16, a17, a18⟩ := t
  obtain ⟨q', b0, b1, b2, b3, b4, b5, b6, b7, b8, b9, b10, b11, b12, b13, b14, b15, b16, b17, b18⟩ := s
  obtain rfl : q = q' := h
  exact
    (h_power (State.mk q b0 a1 a2 a3 a4 a5 a6 a7 a8 a9 a10 a11 a12 a13 a14 a15 a16 a17 a18) a0).trans <|
    (h_clock (State.mk q b0 b1 a2 a3 a4 a5 a6 a7 a8 a9 a10 a11 a12 a13 a14 a15 a16 a17 a18) a1).trans <|
    (h_cfg (State.mk q b0 b1 b2 a3 a4 a5 a6 a7 a8 a9 a10 a11 a12 a13 a14 a15 a16 a17 a18) a2).trans <|
    (h_store (State.mk q b0 b1 b2 b3 a4 a5 a6 a7 a8 a9 a10 a11 a12 a13 a14 a15 a16 a17 a18) a3).trans <|
    (h_storeWrite (State.mk q b0 b1 b2 b3 b4 a5 a6 a7 a8 a9 a10 a11 a12 a13 a14 a15 a16 a17 a18) a4).trans <|
    (h_ports (State.mk q b0 b1 b2 b3 b4 b5 a6 a7 a8 a9 a10 a11 a12 a13 a14 a15 a16 a17 a18) a5).trans <|
    (h_slots (State.mk q b0 b1 b2 b3 b4 b5 b6 a7 a8 a9 a10 a11 a12 a13 a14 a15 a16 a17 a18) a6).trans <|
    (h_inputs (State.mk q b0 b1 b2 b3 b4 b5 b6 b7 a8 a9 a10 a11 a12 a13 a14 a15 a16 a17 a18) a7).trans <|
    (h_claims (State.mk q b0 b1 b2 b3 b4 b5 b6 b7 b8 a9 a10 a11 a12 a13 a14 a15 a16 a17 a18) a8).trans <|
    (h_results (State.mk q b0 b1 b2 b3 b4 b5 b6 b7 b8 b9 a10 a11 a12 a13 a14 a15 a16 a17 a18) a9).trans <|
    (h_chans (State.mk q b0 b1 b2 b3 b4 b5 b6 b7 b8 b9 b10 a11 a12 a13 a14 a15 a16 a17 a18) a10).trans <|
    (h_queue (State.mk q b0 b1 b2 b3 b4 b5 b6 b7 b8 b9 b10 b11 a12 a13 a14 a15 a16 a17 a18) a11).trans <|
    (h_window (State.mk q b0 b1 b2 b3 b4 b5 b6 b7 b8 b9 b10 b11 b12 a13 a14 a15 a16 a17 a18) a12).trans <|
    (h_gates (State.mk q b0 b1 b2 b3 b4 b5 b6 b7 b8 b9 b10 b11 b12 b13 a14 a15 a16 a17 a18) a13).trans <|
    (h_flash (State.mk q b0 b1 b2 b3 b4 b5 b6 b7 b8 b9 b10 b11 b12 b13 b14 a15 a16 a17 a18) a14).trans <|
    (h_sup (State.mk q b0 b1 b2 b3 b4 b5 b6 b7 b8 b9 b10 b11 b12 b13 b14 b15 a16 a17 a18) a15).trans <|
    (h_seq (State.mk q b0 b1 b2 b3 b4 b5 b6 b7 b8 b9 b10 b11 b12 b13 b14 b15 b16 a17 a18) a16).trans <|
    (h_gauges (State.mk q b0 b1 b2 b3 b4 b5 b6 b7 b8 b9 b10 b11 b12 b13 b14 b15 b16 b17 a18) a17).trans <|
    h_fan (State.mk q b0 b1 b2 b3 b4 b5 b6 b7 b8 b9 b10 b11 b12 b13 b14 b15 b16 b17 b18) a18

theorem State.raiseTo_keep (rd : State → β) (h_slots : Free_slots rd) (s : State) (k : EventKind) (m : SlotId) :
    rd (s.raiseTo k m) = rd s := by
  unfold State.raiseTo
  try dsimp only
  repeat' first
    | with_reducible rfl
    | rw [State.setSlot_keep rd h_slots]

theorem State.raise_keep (rd : State → β) (h_slots : Free_slots rd) (s : State) (k : EventKind) :
    rd (s.raise k) = rd s := by
  unfold State.raise
  try dsimp only
  repeat' first
    | with_reducible rfl
    | rw [State.raiseTo_keep rd h_slots]
    | refine (foldl_keep rd _ (fun _ _ => ?_) _ _).trans ?_

theorem State.raiseOthers_keep (rd : State → β) (h_slots : Free_slots rd) (s : State) (m : SlotId) :
    rd (s.raiseOthers m) = rd s := by
  unfold State.raiseOthers
  try dsimp only
  repeat' first
    | with_reducible rfl
    | rw [State.raiseTo_keep rd h_slots]
    | refine (foldl_keep rd _ (fun _ _ => ?_) _ _).trans ?_

theorem State.writeDemand_keep (rd : State → β) (h_chans : Free_chans rd) (s : State) (c : Channel) (d : Nat) (src : DemandSource) :
    rd (s.writeDemand c d src) = rd s := by
  unfold State.writeDemand
  try dsimp only
  repeat' first
    | with_reducible rfl
    | rw [State.modChan_keep rd h_chans]

theorem State.negateGate_keep (rd : State → β) (h_gates : Free_gates rd) (s : State) (c : Channel) :
    rd (s.negateGate c) = rd s := by
  unfold State.negateGate
  try dsimp only
  repeat' first
    | with_reducible rfl
    | rw [State.setGates_keep rd h_gates]

theorem State.abandon_keep (rd : State → β) (h_seq : Free_seq rd) (s : State) (x : Source) :
    rd (s.abandon x) = rd s := by
  unfold State.abandon
  try dsimp only
  repeat' first
    | with_reducible rfl
    | rw [State.setSeq_keep rd h_seq]
    | split

theorem State.abandonAll_keep (rd : State → β) (h_seq : Free_seq rd) (s : State) :
    rd (s.abandonAll) = rd s := by
  unfold State.abandonAll
  try dsimp only
  repeat' first
    | with_reducible rfl
    | rw [State.abandon_keep rd h_seq]
    | refine (foldl_keep rd _ (fun _ _ => ?_) _ _).trans ?_

theorem State.fanWrite_keep (rd : State → β) (h_chans : Free_chans rd) (s : State) (d : Nat) :
    rd (s.fanWrite d) = rd s := by
  unfold State.fanWrite
  try dsimp only
  repeat' first
    | with_reducible rfl
    | rw [State.writeDemand_keep rd h_chans]
    | split

theorem State.fanStop_keep (rd : State → β) (h_chans : Free_chans rd) (h_fan : Free_fan rd) (s : State) :
    rd (s.fanStop) = rd s := by
  unfold State.fanStop
  try dsimp only
  repeat' first
    | with_reducible rfl
    | rw [State.setFan_keep rd h_fan]
    | rw [State.fanWrite_keep rd h_chans]

theorem State.fanSuspend_keep (rd : State → β) (h_chans : Free_chans rd) (h_fan : Free_fan rd) (s : State) :
    rd (s.fanSuspend) = rd s := by
  unfold State.fanSuspend
  try dsimp only
  repeat' first
    | with_reducible rfl
    | rw [State.setFan_keep rd h_fan]
    | rw [State.fanWrite_keep rd h_chans]

theorem State.fanStarting_keep (rd : State → β) (h_chans : Free_chans rd) (h_fan : Free_fan rd) (s : State) :
    rd (s.fanStarting) = rd s := by
  unfold State.fanStarting
  try dsimp only
  repeat' first
    | with_reducible rfl
    | rw [State.setFan_keep rd h_fan]
    | rw [State.fanWrite_keep rd h_chans]

theorem State.fanKick_keep (rd : State → β) (h_chans : Free_chans rd) (h_fan : Free_fan rd) (s : State) :
    rd (s.fanKick) = rd s := by
  unfold State.fanKick
  try dsimp only
  repeat' first
    | with_reducible rfl
    | rw [State.setFan_keep rd h_fan]
    | rw [State.fanWrite_keep rd h_chans]

theorem State.fanRamp_keep (rd : State → β) (h_chans : Free_chans rd) (h_fan : Free_fan rd) (s : State) (d : Nat) :
    rd (s.fanRamp d) = rd s := by
  unfold State.fanRamp
  try dsimp only
  repeat' first
    | with_reducible rfl
    | rw [State.setFan_keep rd h_fan]
    | rw [State.fanWrite_keep rd h_chans]

theorem State.fanFault_keep (rd : State → β) (h_chans : Free_chans rd) (h_fan : Free_fan rd) (s : State) :
    rd (s.fanFault) = rd s := by
  unfold State.fanFault
  try dsimp only
  repeat' first
    | with_reducible rfl
    | rw [State.setFan_keep rd h_fan]
    | rw [State.fanWrite_keep rd h_chans]

theorem State.fanStart_keep (rd : State → β) (h_chans : Free_chans rd) (h_fan : Free_fan rd) (s : State) :
    rd (s.fanStart) = rd s := by
  unfold State.fanStart
  try dsimp only
  repeat' first
    | with_reducible rfl
    | rw [State.fanStarting_keep rd h_chans h_fan]
    | rw [State.fanKick_keep rd h_chans h_fan]
    | rw [State.fanRamp_keep rd h_chans h_fan]
    | rw [State.fanFault_keep rd h_chans h_fan]
    | split

theorem State.fanStartOrSuspend_keep (rd : State → β) (h_chans : Free_chans rd) (h_fan : Free_fan rd) (s : State) :
    rd (s.fanStartOrSuspend) = rd s := by
  unfold State.fanStartOrSuspend
  try dsimp only
  repeat' first
    | with_reducible rfl
    | rw [State.fanSuspend_keep rd h_chans h_fan]
    | rw [State.fanStart_keep rd h_chans h_fan]
    | split

theorem State.fanRetarget_keep (rd : State → β) (h_chans : Free_chans rd) (h_fan : Free_fan rd) (s : State) :
    rd (s.fanRetarget) = rd s := by
  unfold State.fanRetarget
  try dsimp only
  repeat' first
    | with_reducible rfl
    | rw [State.setFan_keep rd h_fan]
    | rw [State.fanWrite_keep rd h_chans]
    | rw [State.fanStop_keep rd h_chans h_fan]
    | rw [State.fanStartOrSuspend_keep rd h_chans h_fan]
    | split

theorem State.fanSawInrush_keep (rd : State → β) (h_chans : Free_chans rd) (h_fan : Free_fan rd) (s : State) :
    rd (s.fanSawInrush) = rd s := by
  unfold State.fanSawInrush
  try dsimp only
  repeat' first
    | with_reducible rfl
    | rw [State.fanKick_keep rd h_chans h_fan]
    | split

theorem State.fanSawRun_keep (rd : State → β) (h_chans : Free_chans rd) (h_fan : Free_fan rd) (s : State) :
    rd (s.fanSawRun) = rd s := by
  unfold State.fanSawRun
  try dsimp only
  repeat' first
    | with_reducible rfl
    | rw [State.fanRamp_keep rd h_chans h_fan]
    | split

theorem State.fanSawRelease_keep (rd : State → β) (h_chans : Free_chans rd) (h_fan : Free_fan rd) (s : State) :
    rd (s.fanSawRelease) = rd s := by
  unfold State.fanSawRelease
  try dsimp only
  repeat' first
    | with_reducible rfl
    | rw [State.fanStop_keep rd h_chans h_fan]
    | rw [State.fanSuspend_keep rd h_chans h_fan]
    | rw [State.fanStarting_keep rd h_chans h_fan]
    | split

theorem State.fanCrankEntry_keep (rd : State → β) (h_chans : Free_chans rd) (h_fan : Free_fan rd) (s : State) :
    rd (s.fanCrankEntry) = rd s := by
  unfold State.fanCrankEntry
  try dsimp only
  repeat' first
    | with_reducible rfl
    | rw [State.fanWrite_keep rd h_chans]
    | rw [State.fanSuspend_keep rd h_chans h_fan]
    | split

theorem State.fanCrankExit_keep (rd : State → β) (h_chans : Free_chans rd) (h_fan : Free_fan rd) (s : State) :
    rd (s.fanCrankExit) = rd s := by
  unfold State.fanCrankExit
  try dsimp only
  repeat' first
    | with_reducible rfl
    | rw [State.fanWrite_keep rd h_chans]
    | rw [State.fanStart_keep rd h_chans h_fan]
    | split

theorem State.fanRampStep_keep (rd : State → β) (h_chans : Free_chans rd) (h_fan : Free_fan rd) (s : State) :
    rd (s.fanRampStep) = rd s := by
  unfold State.fanRampStep
  try dsimp only
  repeat' first
    | with_reducible rfl
    | rw [State.setFan_keep rd h_fan]
    | rw [State.fanWrite_keep rd h_chans]
    | split

theorem State.fanSample_keep (rd : State → β) (h_fan : Free_fan rd) (s : State) (c : Channel) (mA : Nat) :
    rd (s.fanSample c mA) = rd s := by
  unfold State.fanSample
  try dsimp only
  repeat' first
    | with_reducible rfl
    | rw [State.setFan_keep rd h_fan]
    | split

theorem State.dequeue_keep (rd : State → β) (h_queue : Free_queue rd) (s : State) (c : Channel) :
    rd (s.dequeue c) = rd s := by
  unfold State.dequeue
  try dsimp only
  repeat' first
    | with_reducible rfl
    | rw [State.setQueue_keep rd h_queue]

theorem State.leaveWindow_keep (rd : State → β) (h_window : Free_window rd) (s : State) (c : Channel) :
    rd (s.leaveWindow c) = rd s := by
  unfold State.leaveWindow
  try dsimp only
  repeat' first
    | with_reducible rfl
    | rw [State.setWindow_keep rd h_window]

theorem State.joinWindow_keep (rd : State → β) (h_window : Free_window rd) (s : State) (c : Channel) :
    rd (s.joinWindow c) = rd s := by
  unfold State.joinWindow
  try dsimp only
  repeat' first
    | with_reducible rfl
    | rw [State.setWindow_keep rd h_window]

theorem State.admitOne_keep (rd : State → β) (h_chans : Free_chans rd) (h_queue : Free_queue rd) (h_window : Free_window rd) (h_fan : Free_fan rd) (s : State) (c : Channel) :
    rd (s.admitOne c) = rd s := by
  unfold State.admitOne
  try dsimp only
  repeat' first
    | with_reducible rfl
    | rw [State.modChan_keep rd h_chans]
    | rw [State.fanSawInrush_keep rd h_chans h_fan]
    | rw [State.fanSawRun_keep rd h_chans h_fan]
    | rw [State.dequeue_keep rd h_queue]
    | rw [State.joinWindow_keep rd h_window]
    | refine (State.ifFan_keep rd _ _ _ (fun _ => ?_)).trans ?_
    | split

theorem admitLoop_keep (rd : State → β) (h_chans : Free_chans rd) (h_queue : Free_queue rd) (h_window : Free_window rd) (h_fan : Free_fan rd) :
    ∀ (n : Nat) (s : State), rd (admitLoop n s) = rd s
  | 0, s => rfl
  | n + 1, s => by
    unfold admitLoop
    split
    · rfl
    · split
      · rw [admitLoop_keep rd h_chans h_queue h_window h_fan n, State.admitOne_keep rd h_chans h_queue h_window h_fan]
      · rfl

theorem State.admitHeads_keep (rd : State → β) (h_chans : Free_chans rd) (h_queue : Free_queue rd) (h_window : Free_window rd) (h_fan : Free_fan rd) (s : State) :
    rd (s.admitHeads) = rd s := by
  unfold State.admitHeads
  try dsimp only
  repeat' first
    | with_reducible rfl
    | rw [admitLoop_keep rd h_chans h_queue h_window h_fan]

theorem State.admitIfNewHead_keep (rd : State → β) (h_chans : Free_chans rd) (h_queue : Free_queue rd) (h_window : Free_window rd) (h_fan : Free_fan rd) (s : State) (h : Option (Channel × Urgency)) :
    rd (s.admitIfNewHead h) = rd s := by
  unfold State.admitIfNewHead
  try dsimp only
  repeat' first
    | with_reducible rfl
    | rw [State.admitHeads_keep rd h_chans h_queue h_window h_fan]
    | split

theorem State.join_keep (rd : State → β) (h_chans : Free_chans rd) (h_queue : Free_queue rd) (h_window : Free_window rd) (h_fan : Free_fan rd) (s : State) (c : Channel) :
    rd (s.join c) = rd s := by
  unfold State.join
  try dsimp only
  repeat' first
    | with_reducible rfl
    | rw [State.modChan_keep rd h_chans]
    | rw [State.setQueue_keep rd h_queue]
    | rw [State.admitIfNewHead_keep rd h_chans h_queue h_window h_fan]

theorem State.promote_keep (rd : State → β) (h_chans : Free_chans rd) (h_queue : Free_queue rd) (h_window : Free_window rd) (h_fan : Free_fan rd) (s : State) (c : Channel) :
    rd (s.promote c) = rd s := by
  unfold State.promote
  try dsimp only
  repeat' first
    | with_reducible rfl
    | rw [State.setQueue_keep rd h_queue]
    | rw [State.admitIfNewHead_keep rd h_chans h_queue h_window h_fan]
    | split

theorem State.release_keep (rd : State → β) (h_chans : Free_chans rd) (h_fan : Free_fan rd) (s : State) (c : Channel) :
    rd (s.release c) = rd s := by
  unfold State.release
  try dsimp only
  repeat' first
    | with_reducible rfl
    | rw [State.modChan_keep rd h_chans]
    | rw [State.fanSawRelease_keep rd h_chans h_fan]
    | refine (State.ifFan_keep rd _ _ _ (fun _ => ?_)).trans ?_

theorem State.releaseIfDue_keep (rd : State → β) (h_chans : Free_chans rd) (h_fan : Free_fan rd) (s : State) (c : Channel) :
    rd (s.releaseIfDue c) = rd s := by
  unfold State.releaseIfDue
  try dsimp only
  repeat' first
    | with_reducible rfl
    | rw [State.release_keep rd h_chans h_fan]
    | split

theorem State.trip_keep (rd : State → β) (h_slots : Free_slots rd) (h_chans : Free_chans rd) (h_queue : Free_queue rd) (h_window : Free_window rd) (h_gates : Free_gates rd) (h_seq : Free_seq rd) (h_fan : Free_fan rd) (s : State) (c : Channel) (k : TripCause) :
    rd (s.trip c k) = rd s := by
  unfold State.trip
  try dsimp only
  repeat' first
    | with_reducible rfl
    | rw [State.setChan_keep rd h_chans]
    | rw [State.raise_keep rd h_slots]
    | rw [State.negateGate_keep rd h_gates]
    | rw [State.abandon_keep rd h_seq]
    | rw [State.fanFault_keep rd h_chans h_fan]
    | rw [State.leaveWindow_keep rd h_window]
    | rw [State.admitHeads_keep rd h_chans h_queue h_window h_fan]
    | rw [State.releaseIfDue_keep rd h_chans h_fan]
    | refine (State.ifFan_keep rd _ _ _ (fun _ => ?_)).trans ?_
    | split

theorem State.cut_keep (rd : State → β) (h_chans : Free_chans rd) (h_gates : Free_gates rd) (h_seq : Free_seq rd) (s : State) (c : Channel) :
    rd (s.cut c) = rd s := by
  unfold State.cut
  try dsimp only
  repeat' first
    | with_reducible rfl
    | rw [State.modChan_keep rd h_chans]
    | rw [State.negateGate_keep rd h_gates]
    | rw [State.abandon_keep rd h_seq]

theorem State.fanShed_keep (rd : State → β) (h_chans : Free_chans rd) (h_gates : Free_gates rd) (h_seq : Free_seq rd) (h_fan : Free_fan rd) (s : State) (o : Nat) :
    rd (s.fanShed o) = rd s := by
  unfold State.fanShed
  try dsimp only
  repeat' first
    | with_reducible rfl
    | rw [State.fanStop_keep rd h_chans h_fan]
    | rw [State.fanStarting_keep rd h_chans h_fan]
    | rw [State.fanRetarget_keep rd h_chans h_fan]
    | rw [State.cut_keep rd h_chans h_gates h_seq]
    | split

theorem State.bypass_keep (rd : State → β) (h_chans : Free_chans rd) (h_queue : Free_queue rd) (h_window : Free_window rd) (s : State) (c : Channel) :
    rd (s.bypass c) = rd s := by
  unfold State.bypass
  try dsimp only
  repeat' first
    | with_reducible rfl
    | rw [State.modChan_keep rd h_chans]
    | rw [State.dequeue_keep rd h_queue]
    | rw [State.joinWindow_keep rd h_window]
    | split

theorem State.takeOff_keep (rd : State → β) (h_chans : Free_chans rd) (h_queue : Free_queue rd) (h_window : Free_window rd) (h_gates : Free_gates rd) (s : State) (c : Channel) :
    rd (s.takeOff c) = rd s := by
  unfold State.takeOff
  try dsimp only
  repeat' first
    | with_reducible rfl
    | rw [State.modChan_keep rd h_chans]
    | rw [State.negateGate_keep rd h_gates]
    | rw [State.dequeue_keep rd h_queue]
    | rw [State.leaveWindow_keep rd h_window]

theorem State.takeUp_keep (rd : State → β) (h_chans : Free_chans rd) (h_queue : Free_queue rd) (h_window : Free_window rd) (h_gates : Free_gates rd) (s : State) (c : Channel) :
    rd (s.takeUp c) = rd s := by
  unfold State.takeUp
  try dsimp only
  repeat' first
    | with_reducible rfl
    | rw [State.setChan_keep rd h_chans]
    | rw [State.bypass_keep rd h_chans h_queue h_window]
    | rw [State.takeOff_keep rd h_chans h_queue h_window h_gates]
    | split

theorem State.takeUpAll_keep (rd : State → β) (h_chans : Free_chans rd) (h_queue : Free_queue rd) (h_window : Free_window rd) (h_gates : Free_gates rd) (h_fan : Free_fan rd) (s : State) :
    rd (s.takeUpAll) = rd s := by
  unfold State.takeUpAll
  extract_lets joiners t u
  have ht : rd t = rd s := (State.fanRampStep_keep rd h_chans h_fan ..).trans (foldl_keep rd _ (fun _ _ => (State.takeUp_keep rd h_chans h_queue h_window h_gates ..)) _ _)
  have hu : rd u = rd s := by
    simp only [u]
    split
    · exact ht
    · exact (State.admitHeads_keep rd h_chans h_queue h_window h_fan ..).trans ht
  exact (foldl_keep rd _ (fun _ _ => (State.join_keep rd h_chans h_queue h_window h_fan ..)) _ _).trans hu


theorem State.inrushExpire_keep (rd : State → β) (h_chans : Free_chans rd) (h_queue : Free_queue rd) (h_window : Free_window rd) (h_fan : Free_fan rd) (s : State) (c : Channel) :
    rd (s.inrushExpire c) = rd s := by
  unfold State.inrushExpire
  try dsimp only
  repeat' first
    | with_reducible rfl
    | rw [State.modChan_keep rd h_chans]
    | rw [State.fanSawRun_keep rd h_chans h_fan]
    | rw [State.leaveWindow_keep rd h_window]
    | rw [State.admitHeads_keep rd h_chans h_queue h_window h_fan]
    | refine (State.ifFan_keep rd _ _ _ (fun _ => ?_)).trans ?_

theorem State.runCountReach_keep (rd : State → β) (h_chans : Free_chans rd) (s : State) (c : Channel) :
    rd (s.runCountReach c) = rd s := by
  unfold State.runCountReach
  try dsimp only
  repeat' first
    | with_reducible rfl
    | rw [State.modChan_keep rd h_chans]

theorem State.coolOffExpire_keep (rd : State → β) (h_chans : Free_chans rd) (h_queue : Free_queue rd) (h_window : Free_window rd) (h_fan : Free_fan rd) (s : State) (c : Channel) :
    rd (s.coolOffExpire c) = rd s := by
  unfold State.coolOffExpire
  try dsimp only
  repeat' first
    | with_reducible rfl
    | rw [State.modChan_keep rd h_chans]
    | rw [State.fanSawRelease_keep rd h_chans h_fan]
    | rw [State.join_keep rd h_chans h_queue h_window h_fan]
    | refine (State.ifFan_keep rd _ _ _ (fun _ => ?_)).trans ?_
    | split

theorem State.openLoad_keep (rd : State → β) (h_chans : Free_chans rd) (s : State) (c : Channel) (mA : Nat) :
    rd (s.openLoad c mA) = rd s := by
  unfold State.openLoad
  try dsimp only
  repeat' first
    | with_reducible rfl
    | rw [State.modChan_keep rd h_chans]
    | split

theorem State.bulbSet_keep (rd : State → β) (h_slots : Free_slots rd) (h_chans : Free_chans rd) (s : State) (c : Channel) :
    rd (s.bulbSet c) = rd s := by
  unfold State.bulbSet
  try dsimp only
  repeat' first
    | with_reducible rfl
    | rw [State.modChan_keep rd h_chans]
    | rw [State.raise_keep rd h_slots]

theorem State.bulbClear_keep (rd : State → β) (h_slots : Free_slots rd) (h_chans : Free_chans rd) (s : State) (c : Channel) :
    rd (s.bulbClear c) = rd s := by
  unfold State.bulbClear
  try dsimp only
  repeat' first
    | with_reducible rfl
    | rw [State.modChan_keep rd h_chans]
    | rw [State.raise_keep rd h_slots]

theorem State.stallReport_keep (rd : State → β) (h_slots : Free_slots rd) (h_chans : Free_chans rd) (h_queue : Free_queue rd) (h_window : Free_window rd) (h_gates : Free_gates rd) (h_seq : Free_seq rd) (h_fan : Free_fan rd) (s : State) :
    rd (s.stallReport) = rd s := by
  unfold State.stallReport
  try dsimp only
  repeat' first
    | with_reducible rfl
    | rw [State.setFan_keep rd h_fan]
    | rw [State.trip_keep rd h_slots h_chans h_queue h_window h_gates h_seq h_fan]
    | rw [State.runCountReach_keep rd h_chans]
    | refine (State.whenDue_keep rd _ _ _ (fun _ => ?_)).trans ?_
    | split

theorem State.writeMarks_keep (rd : State → β) (h_chans : Free_chans rd) (h_queue : Free_queue rd) (h_window : Free_window rd) (h_fan : Free_fan rd) (s : State) (c : Channel) (a b : Bool) :
    rd (s.writeMarks c a b) = rd s := by
  unfold State.writeMarks
  try dsimp only
  repeat' first
    | with_reducible rfl
    | rw [State.modChan_keep rd h_chans]
    | rw [State.promote_keep rd h_chans h_queue h_window h_fan]
    | rw [State.releaseIfDue_keep rd h_chans h_fan]
    | split

theorem State.recompute_keep (rd : State → β) (h_chans : Free_chans rd) (h_queue : Free_queue rd) (h_window : Free_window rd) (h_fan : Free_fan rd) (s : State) (c : Channel) :
    rd (s.recompute c) = rd s := by
  unfold State.recompute
  try dsimp only
  repeat' first
    | with_reducible rfl
    | rw [State.writeDemand_keep rd h_chans]
    | rw [State.writeMarks_keep rd h_chans h_queue h_window h_fan]
    | split

theorem State.recomputeWhere_keep (rd : State → β) (h_chans : Free_chans rd) (h_queue : Free_queue rd) (h_window : Free_window rd) (h_fan : Free_fan rd) (s : State) (q : Channel → Bool) :
    rd (s.recomputeWhere q) = rd s := by
  unfold State.recomputeWhere
  try dsimp only
  repeat' first
    | with_reducible rfl
    | rw [State.recompute_keep rd h_chans h_queue h_window h_fan]
    | refine (foldl_keep rd _ (fun _ _ => ?_) _ _).trans ?_

theorem State.composeFor_keep (rd : State → β) (h_chans : Free_chans rd) (h_queue : Free_queue rd) (h_window : Free_window rd) (h_fan : Free_fan rd) (s : State) (f : Fn) (b : Bool) :
    rd (s.composeFor f b) = rd s := by
  unfold State.composeFor
  try dsimp only
  repeat' first
    | with_reducible rfl
    | rw [State.recomputeWhere_keep rd h_chans h_queue h_window h_fan]

theorem State.startTick_keep (rd : State → β) (h_flash : Free_flash rd) (s : State) :
    rd (s.startTick) = rd s := by
  unfold State.startTick
  try dsimp only
  repeat' first
    | with_reducible rfl
    | rw [State.setFlash_keep rd h_flash]
    | split

theorem State.composeFollowers_keep (rd : State → β) (h_chans : Free_chans rd) (h_queue : Free_queue rd) (h_window : Free_window rd) (h_fan : Free_fan rd) (s : State) :
    rd (s.composeFollowers) = rd s := by
  unfold State.composeFollowers
  try dsimp only
  repeat' first
    | with_reducible rfl
    | rw [State.recomputeWhere_keep rd h_chans h_queue h_window h_fan]

theorem State.enterOn_keep (rd : State → β) (h_slots : Free_slots rd) (h_chans : Free_chans rd) (h_queue : Free_queue rd) (h_window : Free_window rd) (h_flash : Free_flash rd) (h_fan : Free_fan rd) (s : State) (e : Bool) :
    rd (s.enterOn e) = rd s := by
  unfold State.enterOn
  try dsimp only
  repeat' first
    | with_reducible rfl
    | rw [State.setFlash_keep rd h_flash]
    | rw [State.raise_keep rd h_slots]
    | rw [State.startTick_keep rd h_flash]
    | rw [State.composeFollowers_keep rd h_chans h_queue h_window h_fan]
    | split

theorem State.enterOff_keep (rd : State → β) (h_chans : Free_chans rd) (h_queue : Free_queue rd) (h_window : Free_window rd) (h_flash : Free_flash rd) (h_fan : Free_fan rd) (s : State) (cy : Cycle) (e : Bool) :
    rd (s.enterOff cy e) = rd s := by
  unfold State.enterOff
  try dsimp only
  repeat' first
    | with_reducible rfl
    | rw [State.setFlash_keep rd h_flash]
    | rw [State.startTick_keep rd h_flash]
    | rw [State.composeFollowers_keep rd h_chans h_queue h_window h_fan]

theorem State.flashTest_keep (rd : State → β) (h_chans : Free_chans rd) (h_queue : Free_queue rd) (h_window : Free_window rd) (h_flash : Free_flash rd) (h_fan : Free_fan rd) (s : State) :
    rd (s.flashTest) = rd s := by
  unfold State.flashTest
  try dsimp only
  repeat' first
    | with_reducible rfl
    | rw [State.setFlash_keep rd h_flash]
    | rw [State.composeFollowers_keep rd h_chans h_queue h_window h_fan]
    | split

theorem State.endTick_keep (rd : State → β) (h_flash : Free_flash rd) (s : State) :
    rd (s.endTick) = rd s := by
  unfold State.endTick
  try dsimp only
  repeat' first
    | with_reducible rfl
    | rw [State.setFlash_keep rd h_flash]

theorem State.countFlash_keep (rd : State → β) (h_flash : Free_flash rd) (s : State) :
    rd (s.countFlash) = rd s := by
  unfold State.countFlash
  try dsimp only
  repeat' first
    | with_reducible rfl
    | rw [State.setFlash_keep rd h_flash]

theorem State.handOn_keep (rd : State → β) (h_chans : Free_chans rd) (h_queue : Free_queue rd) (h_window : Free_window rd) (h_flash : Free_flash rd) (h_fan : Free_fan rd) (s : State) (f : Fn) (b : Bool) :
    rd (s.handOn f b) = rd s := by
  unfold State.handOn
  try dsimp only
  repeat' first
    | with_reducible rfl
    | rw [State.fanRetarget_keep rd h_chans h_fan]
    | rw [State.composeFor_keep rd h_chans h_queue h_window h_fan]
    | rw [State.flashTest_keep rd h_chans h_queue h_window h_flash h_fan]
    | split

theorem State.reevaluate_keep (rd : State → β) (h_results : Free_results rd) (h_chans : Free_chans rd) (h_queue : Free_queue rd) (h_window : Free_window rd) (h_flash : Free_flash rd) (h_fan : Free_fan rd) (s : State) (f : Fn) :
    rd (s.reevaluate f) = rd s := by
  unfold State.reevaluate
  try dsimp only
  repeat' first
    | with_reducible rfl
    | rw [State.setResult_keep rd h_results]
    | rw [State.handOn_keep rd h_chans h_queue h_window h_flash h_fan]
    | split

theorem State.reevaluateAll_keep (rd : State → β) (h_results : Free_results rd) (h_chans : Free_chans rd) (h_queue : Free_queue rd) (h_window : Free_window rd) (h_flash : Free_flash rd) (h_fan : Free_fan rd) (s : State) (fs : List Fn) :
    rd (s.reevaluateAll fs) = rd s := by
  unfold State.reevaluateAll
  try dsimp only
  repeat' first
    | with_reducible rfl
    | rw [State.reevaluate_keep rd h_results h_chans h_queue h_window h_flash h_fan]
    | refine (foldl_keep rd _ (fun _ _ => ?_) _ _).trans ?_

theorem State.writeCell_keep (rd : State → β) (h_claims : Free_claims rd) (h_results : Free_results rd) (h_chans : Free_chans rd) (h_queue : Free_queue rd) (h_window : Free_window rd) (h_flash : Free_flash rd) (h_fan : Free_fan rd) (s : State) (f : Fn) (k : Claimant) (v : Option Claim) :
    rd (s.writeCell f k v) = rd s := by
  unfold State.writeCell
  try dsimp only
  repeat' first
    | with_reducible rfl
    | rw [State.setCell_keep rd h_claims]
    | rw [State.reevaluate_keep rd h_results h_chans h_queue h_window h_flash h_fan]
    | split

theorem State.ignitionChanged_keep (rd : State → β) (h_results : Free_results rd) (h_chans : Free_chans rd) (h_queue : Free_queue rd) (h_window : Free_window rd) (h_flash : Free_flash rd) (h_fan : Free_fan rd) (s : State) :
    rd (s.ignitionChanged) = rd s := by
  unfold State.ignitionChanged
  try dsimp only
  repeat' first
    | with_reducible rfl
    | rw [State.reevaluateAll_keep rd h_results h_chans h_queue h_window h_flash h_fan]

theorem State.localClaim_keep (rd : State → β) (h_claims : Free_claims rd) (h_results : Free_results rd) (h_chans : Free_chans rd) (h_queue : Free_queue rd) (h_window : Free_window rd) (h_flash : Free_flash rd) (h_fan : Free_fan rd) (s : State) (f : Fn) (b : Bool) :
    rd (s.localClaim f b) = rd s := by
  unfold State.localClaim
  try dsimp only
  repeat' first
    | with_reducible rfl
    | rw [State.writeCell_keep rd h_claims h_results h_chans h_queue h_window h_flash h_fan]

theorem State.claimPair_keep (rd : State → β) (h_claims : Free_claims rd) (h_results : Free_results rd) (h_chans : Free_chans rd) (h_queue : Free_queue rd) (h_window : Free_window rd) (h_flash : Free_flash rd) (h_fan : Free_fan rd) (s : State) (m : SlotId) (p : Byte × Byte) :
    rd (s.claimPair m p) = rd s := by
  unfold State.claimPair
  try dsimp only
  repeat' first
    | with_reducible rfl
    | rw [State.writeCell_keep rd h_claims h_results h_chans h_queue h_window h_flash h_fan]
    | split

theorem State.claimPairs_keep (rd : State → β) (h_claims : Free_claims rd) (h_results : Free_results rd) (h_chans : Free_chans rd) (h_queue : Free_queue rd) (h_window : Free_window rd) (h_flash : Free_flash rd) (h_fan : Free_fan rd) (s : State) (m : SlotId) (ps : List (Byte × Byte)) :
    rd (s.claimPairs m ps) = rd s := by
  unfold State.claimPairs
  try dsimp only
  repeat' first
    | with_reducible rfl
    | rw [State.claimPair_keep rd h_claims h_results h_chans h_queue h_window h_flash h_fan]
    | refine (foldl_keep rd _ (fun _ _ => ?_) _ _).trans ?_

theorem State.claimColumn_keep (rd : State → β) (h_claims : Free_claims rd) (h_results : Free_results rd) (h_chans : Free_chans rd) (h_queue : Free_queue rd) (h_window : Free_window rd) (h_flash : Free_flash rd) (h_fan : Free_fan rd) (s : State) (m : SlotId) (ps : List (Byte × Byte)) :
    rd (s.claimColumn m ps) = rd s := by
  unfold State.claimColumn
  try dsimp only
  repeat' first
    | with_reducible rfl
    | rw [State.writeCell_keep rd h_claims h_results h_chans h_queue h_window h_flash h_fan]
    | rw [State.claimPairs_keep rd h_claims h_results h_chans h_queue h_window h_flash h_fan]
    | refine (foldl_keep rd _ (fun _ _ => ?_) _ _).trans ?_

theorem State.orphanCell_keep (rd : State → β) (h_claims : Free_claims rd) (h_results : Free_results rd) (h_chans : Free_chans rd) (h_queue : Free_queue rd) (h_window : Free_window rd) (h_flash : Free_flash rd) (h_fan : Free_fan rd) (s : State) (m : SlotId) (f : Fn) :
    rd (s.orphanCell m f) = rd s := by
  unfold State.orphanCell
  try dsimp only
  repeat' first
    | with_reducible rfl
    | rw [State.writeCell_keep rd h_claims h_results h_chans h_queue h_window h_flash h_fan]
    | split

theorem State.unmarkCell_keep (rd : State → β) (h_claims : Free_claims rd) (h_results : Free_results rd) (h_chans : Free_chans rd) (h_queue : Free_queue rd) (h_window : Free_window rd) (h_flash : Free_flash rd) (h_fan : Free_fan rd) (s : State) (m : SlotId) (f : Fn) :
    rd (s.unmarkCell m f) = rd s := by
  unfold State.unmarkCell
  try dsimp only
  repeat' first
    | with_reducible rfl
    | rw [State.writeCell_keep rd h_claims h_results h_chans h_queue h_window h_flash h_fan]
    | split

theorem State.fallSilent_keep (rd : State → β) (h_slots : Free_slots rd) (h_claims : Free_claims rd) (h_results : Free_results rd) (h_chans : Free_chans rd) (h_queue : Free_queue rd) (h_window : Free_window rd) (h_flash : Free_flash rd) (h_fan : Free_fan rd) (s : State) (m : SlotId) (e : Bool) :
    rd (s.fallSilent m e) = rd s := by
  unfold State.fallSilent
  try dsimp only
  repeat' first
    | with_reducible rfl
    | rw [State.setSlot_keep rd h_slots]
    | rw [State.raiseOthers_keep rd h_slots]
    | rw [State.orphanCell_keep rd h_claims h_results h_chans h_queue h_window h_flash h_fan]
    | refine (foldl_keep rd _ (fun _ _ => ?_) _ _).trans ?_

theorem State.hear_keep (rd : State → β) (h_slots : Free_slots rd) (h_claims : Free_claims rd) (h_results : Free_results rd) (h_chans : Free_chans rd) (h_queue : Free_queue rd) (h_window : Free_window rd) (h_flash : Free_flash rd) (h_fan : Free_fan rd) (s : State) (m : SlotId) :
    rd (s.hear m) = rd s := by
  unfold State.hear
  try dsimp only
  repeat' first
    | with_reducible rfl
    | rw [State.setSlot_keep rd h_slots]
    | rw [State.raiseOthers_keep rd h_slots]
    | rw [State.unmarkCell_keep rd h_claims h_results h_chans h_queue h_window h_flash h_fan]
    | refine (foldl_keep rd _ (fun _ _ => ?_) _ _).trans ?_
    | split

theorem State.clearColumn_keep (rd : State → β) (h_claims : Free_claims rd) (h_results : Free_results rd) (h_chans : Free_chans rd) (h_queue : Free_queue rd) (h_window : Free_window rd) (h_flash : Free_flash rd) (h_fan : Free_fan rd) (s : State) (m : SlotId) :
    rd (s.clearColumn m) = rd s := by
  unfold State.clearColumn
  try dsimp only
  repeat' first
    | with_reducible rfl
    | rw [State.writeCell_keep rd h_claims h_results h_chans h_queue h_window h_flash h_fan]
    | refine (foldl_keep rd _ (fun _ _ => ?_) _ _).trans ?_

theorem State.countHolds_keep (rd : State → β) (h_claims : Free_claims rd) (s : State) (m : SlotId) :
    rd (s.countHolds m) = rd s := by
  unfold State.countHolds
  try dsimp only
  repeat' first
    | with_reducible rfl
    | rw [State.setCell_keep rd h_claims]
    | refine (foldl_keep rd _ (fun _ _ => ?_) _ _).trans ?_
    | split

theorem State.countSlot_keep (rd : State → β) (h_slots : Free_slots rd) (h_claims : Free_claims rd) (s : State) (m : SlotId) :
    rd (s.countSlot m) = rd s := by
  unfold State.countSlot
  try dsimp only
  repeat' first
    | with_reducible rfl
    | rw [State.setSlot_keep rd h_slots]
    | rw [State.countHolds_keep rd h_claims]

theorem State.gaugeWrite_keep (rd : State → β) (h_chans : Free_chans rd) (h_gauges : Free_gauges rd) (h_fan : Free_fan rd) (s : State) (g : GaugeId) (d : Nat) :
    rd (s.gaugeWrite g d) = rd s := by
  unfold State.gaugeWrite
  try dsimp only
  repeat' first
    | with_reducible rfl
    | rw [State.modChan_keep rd h_chans]
    | rw [State.setGauge_keep rd h_gauges]
    | rw [State.writeDemand_keep rd h_chans]
    | rw [State.releaseIfDue_keep rd h_chans h_fan]
    | split

theorem State.gaugeRecompute_keep (rd : State → β) (h_slots : Free_slots rd) (h_chans : Free_chans rd) (h_gauges : Free_gauges rd) (h_fan : Free_fan rd) (s : State) (g : GaugeId) :
    rd (s.gaugeRecompute g) = rd s := by
  unfold State.gaugeRecompute
  try dsimp only
  repeat' first
    | with_reducible rfl
    | rw [State.setGauge_keep rd h_gauges]
    | rw [State.raise_keep rd h_slots]
    | rw [State.gaugeWrite_keep rd h_chans h_gauges h_fan]
    | split

theorem State.gaugesRecompute_keep (rd : State → β) (h_slots : Free_slots rd) (h_chans : Free_chans rd) (h_gauges : Free_gauges rd) (h_fan : Free_fan rd) (s : State) :
    rd (s.gaugesRecompute) = rd s := by
  unfold State.gaugesRecompute
  try dsimp only
  repeat' first
    | with_reducible rfl
    | rw [State.gaugeRecompute_keep rd h_slots h_chans h_gauges h_fan]
    | refine (foldl_keep rd _ (fun _ _ => ?_) _ _).trans ?_

theorem State.gaugeRest_keep (rd : State → β) (h_slots : Free_slots rd) (h_chans : Free_chans rd) (h_gauges : Free_gauges rd) (h_fan : Free_fan rd) (s : State) (g : GaugeId) :
    rd (s.gaugeRest g) = rd s := by
  unfold State.gaugeRest
  try dsimp only
  repeat' first
    | with_reducible rfl
    | rw [State.setGauge_keep rd h_gauges]
    | rw [State.raise_keep rd h_slots]
    | rw [State.gaugeWrite_keep rd h_chans h_gauges h_fan]

theorem State.gaugeFault_keep (rd : State → β) (h_slots : Free_slots rd) (h_chans : Free_chans rd) (h_gauges : Free_gauges rd) (h_fan : Free_fan rd) (s : State) (g : GaugeId) :
    rd (s.gaugeFault g) = rd s := by
  unfold State.gaugeFault
  try dsimp only
  repeat' first
    | with_reducible rfl
    | rw [State.setGauge_keep rd h_gauges]
    | rw [State.raise_keep rd h_slots]
    | rw [State.gaugeRest_keep rd h_slots h_chans h_gauges h_fan]
    | split

theorem State.gaugeRecover_keep (rd : State → β) (h_slots : Free_slots rd) (h_chans : Free_chans rd) (h_gauges : Free_gauges rd) (h_fan : Free_fan rd) (s : State) (g : GaugeId) :
    rd (s.gaugeRecover g) = rd s := by
  unfold State.gaugeRecover
  try dsimp only
  repeat' first
    | with_reducible rfl
    | rw [State.setGauge_keep rd h_gauges]
    | rw [State.raise_keep rd h_slots]
    | rw [State.gaugeRecompute_keep rd h_slots h_chans h_gauges h_fan]

theorem State.gaugeFinishReading_keep (rd : State → β) (h_slots : Free_slots rd) (h_chans : Free_chans rd) (h_gauges : Free_gauges rd) (h_fan : Free_fan rd) (s : State) (g : GaugeId) :
    rd (s.gaugeFinishReading g) = rd s := by
  unfold State.gaugeFinishReading
  try dsimp only
  repeat' first
    | with_reducible rfl
    | rw [State.gaugeFault_keep rd h_slots h_chans h_gauges h_fan]
    | rw [State.gaugeRecover_keep rd h_slots h_chans h_gauges h_fan]
    | split

theorem State.countFaultHold_keep (rd : State → β) (h_gauges : Free_gauges rd) (s : State) (g : GaugeId) :
    rd (s.countFaultHold g) = rd s := by
  unfold State.countFaultHold
  try dsimp only
  repeat' first
    | with_reducible rfl
    | rw [State.setGauge_keep rd h_gauges]

theorem State.gaugeEnter_keep (rd : State → β) (h_slots : Free_slots rd) (h_chans : Free_chans rd) (h_gauges : Free_gauges rd) (h_fan : Free_fan rd) (s : State) (g : GaugeId) (v : Nat) :
    rd (s.gaugeEnter g v) = rd s := by
  unfold State.gaugeEnter
  try dsimp only
  repeat' first
    | with_reducible rfl
    | rw [State.setGauge_keep rd h_gauges]
    | rw [State.gaugeRecompute_keep rd h_slots h_chans h_gauges h_fan]

theorem State.gaugeReading_keep (rd : State → β) (h_slots : Free_slots rd) (h_chans : Free_chans rd) (h_gauges : Free_gauges rd) (h_fan : Free_fan rd) (s : State) (g : GaugeId) (v : Nat) :
    rd (s.gaugeReading g v) = rd s := by
  unfold State.gaugeReading
  try dsimp only
  repeat' first
    | with_reducible rfl
    | rw [State.setGauge_keep rd h_gauges]
    | rw [State.gaugeEnter_keep rd h_slots h_chans h_gauges h_fan]
    | split

theorem State.gaugeStart_keep (rd : State → β) (h_slots : Free_slots rd) (h_chans : Free_chans rd) (h_gauges : Free_gauges rd) (h_fan : Free_fan rd) (s : State) (g : GaugeId) :
    rd (s.gaugeStart g) = rd s := by
  unfold State.gaugeStart
  try dsimp only
  repeat' first
    | with_reducible rfl
    | rw [State.setGauge_keep rd h_gauges]
    | rw [State.gaugeRecompute_keep rd h_slots h_chans h_gauges h_fan]
    | split

theorem State.gaugeStop_keep (rd : State → β) (h_slots : Free_slots rd) (h_chans : Free_chans rd) (h_gauges : Free_gauges rd) (h_fan : Free_fan rd) (s : State) (g : GaugeId) :
    rd (s.gaugeStop g) = rd s := by
  unfold State.gaugeStop
  try dsimp only
  repeat' first
    | with_reducible rfl
    | rw [State.setGauge_keep rd h_gauges]
    | rw [State.raise_keep rd h_slots]
    | rw [State.gaugeWrite_keep rd h_chans h_gauges h_fan]
    | rw [State.gaugeFinishReading_keep rd h_slots h_chans h_gauges h_fan]
    | split

theorem State.gaugesIgnition_keep (rd : State → β) (h_slots : Free_slots rd) (h_chans : Free_chans rd) (h_gauges : Free_gauges rd) (h_fan : Free_fan rd) (s : State) (b : Bool) :
    rd (s.gaugesIgnition b) = rd s := by
  unfold State.gaugesIgnition
  try dsimp only
  repeat' first
    | with_reducible rfl
    | rw [State.gaugeStart_keep rd h_slots h_chans h_gauges h_fan]
    | rw [State.gaugeStop_keep rd h_slots h_chans h_gauges h_fan]
    | refine (foldl_keep rd _ (fun _ _ => ?_) _ _).trans ?_
    | split

theorem State.gaugeHold_keep (rd : State → β) (h_gauges : Free_gauges rd) (s : State) (g : GaugeId) :
    rd (s.gaugeHold g) = rd s := by
  unfold State.gaugeHold
  try dsimp only
  repeat' first
    | with_reducible rfl
    | rw [State.setGauge_keep rd h_gauges]
    | split

theorem State.gaugeRelease_keep (rd : State → β) (h_slots : Free_slots rd) (h_chans : Free_chans rd) (h_gauges : Free_gauges rd) (h_fan : Free_fan rd) (s : State) (g : GaugeId) :
    rd (s.gaugeRelease g) = rd s := by
  unfold State.gaugeRelease
  try dsimp only
  repeat' first
    | with_reducible rfl
    | rw [State.setGauge_keep rd h_gauges]
    | rw [State.gaugeRecompute_keep rd h_slots h_chans h_gauges h_fan]
    | split

theorem State.startingDone_keep (rd : State → β) (h_power : Free_power rd) (s : State) :
    rd (s.startingDone) = rd s := by
  unfold State.startingDone
  try dsimp only
  repeat' first
    | with_reducible rfl
    | rw [State.setPower_keep rd h_power]

theorem State.setShed_keep (rd : State → β) (h_slots : Free_slots rd) (h_results : Free_results rd) (h_chans : Free_chans rd) (h_queue : Free_queue rd) (h_window : Free_window rd) (h_gates : Free_gates rd) (h_flash : Free_flash rd) (h_sup : Free_sup rd) (h_seq : Free_seq rd) (h_fan : Free_fan rd) (s : State) (n : Nat) :
    rd (s.setShed n) = rd s := by
  unfold State.setShed
  try dsimp only
  repeat' first
    | with_reducible rfl
    | rw [State.setSup_keep rd h_sup]
    | rw [State.raise_keep rd h_slots]
    | rw [State.fanShed_keep rd h_chans h_gates h_seq h_fan]
    | rw [State.reevaluateAll_keep rd h_results h_chans h_queue h_window h_flash h_fan]

theorem State.finishShed_keep (rd : State → β) (h_slots : Free_slots rd) (h_results : Free_results rd) (h_chans : Free_chans rd) (h_queue : Free_queue rd) (h_window : Free_window rd) (h_gates : Free_gates rd) (h_flash : Free_flash rd) (h_sup : Free_sup rd) (h_seq : Free_seq rd) (h_fan : Free_fan rd) (s : State) :
    rd (s.finishShed) = rd s := by
  unfold State.finishShed
  try dsimp only
  repeat' first
    | with_reducible rfl
    | rw [State.setShed_keep rd h_slots h_results h_chans h_queue h_window h_gates h_flash h_sup h_seq h_fan]
    | split

theorem State.filterSample_keep (rd : State → β) (h_slots : Free_slots rd) (h_chans : Free_chans rd) (h_sup : Free_sup rd) (h_gauges : Free_gauges rd) (h_fan : Free_fan rd) (s : State) (v : Nat) :
    rd (s.filterSample v) = rd s := by
  unfold State.filterSample
  try dsimp only
  repeat' first
    | with_reducible rfl
    | rw [State.setSup_keep rd h_sup]
    | rw [State.gaugesRecompute_keep rd h_slots h_chans h_gauges h_fan]
    | split

theorem State.countSample_keep (rd : State → β) (h_slots : Free_slots rd) (h_chans : Free_chans rd) (h_sup : Free_sup rd) (h_gauges : Free_gauges rd) (h_fan : Free_fan rd) (s : State) (v : Nat) :
    rd (s.countSample v) = rd s := by
  unfold State.countSample
  try dsimp only
  repeat' first
    | with_reducible rfl
    | rw [State.setSup_keep rd h_sup]
    | rw [State.filterSample_keep rd h_slots h_chans h_sup h_gauges h_fan]
    | split

theorem State.crankEnter_keep (rd : State → β) (h_slots : Free_slots rd) (h_chans : Free_chans rd) (h_flash : Free_flash rd) (h_sup : Free_sup rd) (h_gauges : Free_gauges rd) (h_fan : Free_fan rd) (s : State) :
    rd (s.crankEnter) = rd s := by
  unfold State.crankEnter
  extract_lets s' x t
  have hs : rd s' = rd s := foldl_keep rd _ (fun _ _ => (State.gaugeFinishReading_keep rd h_slots h_chans h_gauges h_fan ..)) _ _
  have ht : rd t = rd s := (State.raise_keep rd h_slots ..).trans ((State.setSup_keep rd h_sup ..).trans hs)
  exact (State.endTick_keep rd h_flash ..).trans ((foldl_keep rd _ (fun _ _ => (State.gaugeHold_keep rd h_gauges ..)) _ _).trans ((State.fanCrankEntry_keep rd h_chans h_fan ..).trans ht))


theorem State.crankLeave_keep (rd : State → β) (h_slots : Free_slots rd) (h_chans : Free_chans rd) (h_sup : Free_sup rd) (h_gauges : Free_gauges rd) (h_fan : Free_fan rd) (s : State) :
    rd (s.crankLeave) = rd s := by
  unfold State.crankLeave
  extract_lets x t u
  have ht : rd t = rd s := (State.raise_keep rd h_slots ..).trans (State.setSup_keep rd h_sup ..)
  have hu : rd u = rd s := (foldl_keep rd _ (fun _ _ => (State.gaugeRelease_keep rd h_slots h_chans h_gauges h_fan ..)) _ _).trans ((State.fanCrankExit_keep rd h_chans h_fan ..).trans ht)
  split
  · exact hu
  · exact (State.filterSample_keep rd h_slots h_chans h_sup h_gauges h_fan ..).trans hu


theorem State.settleCrank_keep (rd : State → β) (h_slots : Free_slots rd) (h_chans : Free_chans rd) (h_flash : Free_flash rd) (h_sup : Free_sup rd) (h_gauges : Free_gauges rd) (h_fan : Free_fan rd) (s : State) :
    rd (s.settleCrank) = rd s := by
  unfold State.settleCrank
  extract_lets t
  have ht : rd t = rd s := State.whenDue_keep rd _ _ _ fun _ => (State.crankLeave_keep rd h_slots h_chans h_sup h_gauges h_fan ..)
  exact (State.whenDue_keep rd _ _ _ fun _ => (State.crankEnter_keep rd h_slots h_chans h_flash h_sup h_gauges h_fan ..)).trans ht


theorem State.settleSupply_keep (rd : State → β) (h_slots : Free_slots rd) (h_results : Free_results rd) (h_chans : Free_chans rd) (h_queue : Free_queue rd) (h_window : Free_window rd) (h_gates : Free_gates rd) (h_flash : Free_flash rd) (h_sup : Free_sup rd) (h_seq : Free_seq rd) (h_gauges : Free_gauges rd) (h_fan : Free_fan rd) (s : State) :
    rd (s.settleSupply) = rd s := by
  unfold State.settleSupply
  try dsimp only
  repeat' first
    | with_reducible rfl
    | rw [State.finishShed_keep rd h_slots h_results h_chans h_queue h_window h_gates h_flash h_sup h_seq h_fan]
    | rw [State.settleCrank_keep rd h_slots h_chans h_flash h_sup h_gauges h_fan]

theorem State.applySupply_keep (rd : State → β) (h_cfg : Free_cfg rd) (h_chans : Free_chans rd) (h_queue : Free_queue rd) (h_window : Free_window rd) (h_sup : Free_sup rd) (h_fan : Free_fan rd) (s : State) (r : SupplyRec) :
    rd (s.applySupply r) = rd s := by
  unfold State.applySupply
  try dsimp only
  repeat' first
    | with_reducible rfl
    | rw [State.setSup_keep rd h_sup]
    | rw [State.setCfg_keep rd h_cfg]
    | rw [State.admitHeads_keep rd h_chans h_queue h_window h_fan]

theorem State.newSupply_keep (rd : State → β) (h_cfg : Free_cfg rd) (h_slots : Free_slots rd) (h_results : Free_results rd) (h_chans : Free_chans rd) (h_queue : Free_queue rd) (h_window : Free_window rd) (h_gates : Free_gates rd) (h_flash : Free_flash rd) (h_sup : Free_sup rd) (h_seq : Free_seq rd) (h_gauges : Free_gauges rd) (h_fan : Free_fan rd) (s : State) (r : SupplyRec) :
    rd (s.newSupply r) = rd s := by
  unfold State.newSupply
  repeat' first
    | with_reducible rfl
    | assumption
    | rw [State.settleSupply_keep rd h_slots h_results h_chans h_queue h_window h_gates h_flash h_sup h_seq h_gauges h_fan]
    | rw [State.applySupply_keep rd h_cfg h_chans h_queue h_window h_sup h_fan]

theorem State.sampleInput_keep (rd : State → β) (h_inputs : Free_inputs rd) (s : State) (l : PerInput Bool) (i : InputId) :
    rd (s.sampleInput l i) = rd s := by
  unfold State.sampleInput
  try dsimp only
  repeat' first
    | with_reducible rfl
    | rw [State.setInput_keep rd h_inputs]
    | split

theorem State.sampleInputs_keep (rd : State → β) (h_inputs : Free_inputs rd) (s : State) (l : PerInput Bool) :
    rd (s.sampleInputs l) = rd s := by
  unfold State.sampleInputs
  try dsimp only
  repeat' first
    | with_reducible rfl
    | rw [State.sampleInput_keep rd h_inputs]
    | refine (foldl_keep rd _ (fun _ _ => ?_) _ _).trans ?_

theorem State.levelHandOn_keep (rd : State → β) (h_slots : Free_slots rd) (h_claims : Free_claims rd) (h_results : Free_results rd) (h_chans : Free_chans rd) (h_queue : Free_queue rd) (h_window : Free_window rd) (h_flash : Free_flash rd) (h_sup : Free_sup rd) (h_gauges : Free_gauges rd) (h_fan : Free_fan rd) (s : State) (i : InputId) (b : Bool) :
    rd (s.levelHandOn i b) = rd s := by
  unfold State.levelHandOn
  try dsimp only
  repeat' first
    | with_reducible rfl
    | rw [State.ignitionChanged_keep rd h_results h_chans h_queue h_window h_flash h_fan]
    | rw [State.localClaim_keep rd h_claims h_results h_chans h_queue h_window h_flash h_fan]
    | rw [State.gaugesIgnition_keep rd h_slots h_chans h_gauges h_fan]
    | rw [State.settleCrank_keep rd h_slots h_chans h_flash h_sup h_gauges h_fan]
    | split

theorem State.setLevel_keep (rd : State → β) (h_slots : Free_slots rd) (h_inputs : Free_inputs rd) (h_claims : Free_claims rd) (h_results : Free_results rd) (h_chans : Free_chans rd) (h_queue : Free_queue rd) (h_window : Free_window rd) (h_gates : Free_gates rd) (h_flash : Free_flash rd) (h_sup : Free_sup rd) (h_seq : Free_seq rd) (h_gauges : Free_gauges rd) (h_fan : Free_fan rd) (s : State) (i : InputId) (b e : Bool) :
    rd (s.setLevel i b e) = rd s := by
  unfold State.setLevel
  try dsimp only
  repeat' first
    | with_reducible rfl
    | rw [State.setInput_keep rd h_inputs]
    | rw [State.settleSupply_keep rd h_slots h_results h_chans h_queue h_window h_gates h_flash h_sup h_seq h_gauges h_fan]
    | rw [State.levelHandOn_keep rd h_slots h_claims h_results h_chans h_queue h_window h_flash h_sup h_gauges h_fan]
    | refine (State.whenDue_keep rd _ _ _ (fun _ => ?_)).trans ?_

theorem State.settleInput_keep (rd : State → β) (h_slots : Free_slots rd) (h_inputs : Free_inputs rd) (h_claims : Free_claims rd) (h_results : Free_results rd) (h_chans : Free_chans rd) (h_queue : Free_queue rd) (h_window : Free_window rd) (h_gates : Free_gates rd) (h_flash : Free_flash rd) (h_sup : Free_sup rd) (h_seq : Free_seq rd) (h_gauges : Free_gauges rd) (h_fan : Free_fan rd) (s : State) (i : InputId) :
    rd (s.settleInput i) = rd s := by
  unfold State.settleInput
  try dsimp only
  repeat' first
    | with_reducible rfl
    | rw [State.setLevel_keep rd h_slots h_inputs h_claims h_results h_chans h_queue h_window h_gates h_flash h_sup h_seq h_gauges h_fan]
    | split

theorem State.settleInputsOf_keep (rd : State → β) (h_power : Free_power rd) (h_slots : Free_slots rd) (h_inputs : Free_inputs rd) (h_claims : Free_claims rd) (h_results : Free_results rd) (h_chans : Free_chans rd) (h_queue : Free_queue rd) (h_window : Free_window rd) (h_gates : Free_gates rd) (h_flash : Free_flash rd) (h_sup : Free_sup rd) (h_seq : Free_seq rd) (h_gauges : Free_gauges rd) (h_fan : Free_fan rd) (s : State) (ids : List InputId) :
    rd (s.settleInputsOf ids) = rd s := by
  exact (foldl_keep rd _ (fun _ _ => (State.settleInput_keep rd h_slots h_inputs h_claims h_results h_chans h_queue h_window h_gates h_flash h_sup h_seq h_gauges h_fan ..)) _ _).trans (State.whenDue_keep rd _ _ _ fun _ => (State.startingDone_keep rd h_power ..))


theorem State.settleInputs_keep (rd : State → β) (h_power : Free_power rd) (h_slots : Free_slots rd) (h_inputs : Free_inputs rd) (h_claims : Free_claims rd) (h_results : Free_results rd) (h_chans : Free_chans rd) (h_queue : Free_queue rd) (h_window : Free_window rd) (h_gates : Free_gates rd) (h_flash : Free_flash rd) (h_sup : Free_sup rd) (h_seq : Free_seq rd) (h_gauges : Free_gauges rd) (h_fan : Free_fan rd) (s : State) :
    rd (s.settleInputs) = rd s := by
  unfold State.settleInputs
  try dsimp only
  repeat' first
    | with_reducible rfl
    | rw [State.settleInputsOf_keep rd h_power h_slots h_inputs h_claims h_results h_chans h_queue h_window h_gates h_flash h_sup h_seq h_gauges h_fan]

theorem State.postRequests_keep (rd : State → β) (h_seq : Free_seq rd) (s : State) :
    rd (s.postRequests) = rd s := by
  unfold State.postRequests
  try dsimp only
  repeat' first
    | with_reducible rfl
    | rw [State.setSeq_keep rd h_seq]

theorem State.serve_keep (rd : State → β) (h_seq : Free_seq rd) (s : State) (x : Source) (v : Nat) :
    rd (s.serve x v) = rd s := by
  unfold State.serve
  try dsimp only
  repeat' first
    | with_reducible rfl
    | rw [State.setSeq_keep rd h_seq]

theorem State.abandonUnservable_keep (rd : State → β) (h_seq : Free_seq rd) (s : State) :
    rd (s.abandonUnservable) = rd s := by
  unfold State.abandonUnservable
  try dsimp only
  repeat' first
    | with_reducible rfl
    | rw [State.abandon_keep rd h_seq]
    | refine (foldl_keep rd _ (fun _ _ => ?_) _ _).trans ?_

theorem State.hunt_keep (rd : State → β) (h_ports : Free_ports rd) (s : State) (p : Port) (n : Nat) :
    rd (s.hunt p n) = rd s := by
  unfold State.hunt
  try dsimp only
  repeat' first
    | with_reducible rfl
    | rw [State.setPort_keep rd h_ports]

theorem State.accept_keep (rd : State → β) (h_power : Free_power rd) (h_ports : Free_ports rd) (h_slots : Free_slots rd) (h_claims : Free_claims rd) (h_results : Free_results rd) (h_chans : Free_chans rd) (h_queue : Free_queue rd) (h_window : Free_window rd) (h_flash : Free_flash rd) (h_fan : Free_fan rd) (s : State) (p : Port) (f : Frame) :
    rd (s.accept p f) = rd s := by
  unfold State.accept
  try dsimp only
  repeat' first
    | with_reducible rfl
    | rw [State.setPort_keep rd h_ports]
    | rw [State.setPower_keep rd h_power]
    | rw [State.hear_keep rd h_slots h_claims h_results h_chans h_queue h_window h_flash h_fan]

theorem State.judge_keep (rd : State → β) (h_power : Free_power rd) (h_ports : Free_ports rd) (h_slots : Free_slots rd) (h_claims : Free_claims rd) (h_results : Free_results rd) (h_chans : Free_chans rd) (h_queue : Free_queue rd) (h_window : Free_window rd) (h_flash : Free_flash rd) (h_fan : Free_fan rd) (s : State) (p : Port) (f : RawFrame) :
    rd (s.judge p f) = rd s := by
  unfold State.judge
  try dsimp only
  repeat' first
    | with_reducible rfl
    | rw [State.setPort_keep rd h_ports]
    | rw [State.hunt_keep rd h_ports]
    | rw [State.accept_keep rd h_power h_ports h_slots h_claims h_results h_chans h_queue h_window h_flash h_fan]
    | split

theorem State.applyRate_keep (rd : State → β) (h_ports : Free_ports rd) (s : State) (p : Port) :
    rd (s.applyRate p) = rd s := by
  unfold State.applyRate
  try dsimp only
  repeat' first
    | with_reducible rfl
    | rw [State.setPort_keep rd h_ports]
    | rw [State.hunt_keep rd h_ports]
    | split

theorem State.applyRates_keep (rd : State → β) (h_ports : Free_ports rd) (s : State) :
    rd (s.applyRates) = rd s := by
  unfold State.applyRates
  try dsimp only
  repeat' first
    | with_reducible rfl
    | rw [State.applyRate_keep rd h_ports]
    | refine (foldl_keep rd _ (fun _ _ => ?_) _ _).trans ?_

theorem State.leaveQueue_keep (rd : State → β) (h_ports : Free_ports rd) (s : State) (p : Port) :
    rd (s.leaveQueue p) = rd s := by
  unfold State.leaveQueue
  try dsimp only
  repeat' first
    | with_reducible rfl
    | rw [State.setPort_keep rd h_ports]

theorem State.clearChannel_keep (rd : State → β) (h_chans : Free_chans rd) (h_fan : Free_fan rd) (s : State) (b : Byte) :
    rd (s.clearChannel b) = rd s := by
  unfold State.clearChannel
  try dsimp only
  repeat' first
    | with_reducible rfl
    | rw [State.release_keep rd h_chans h_fan]
    | split

theorem State.retarget_keep (rd : State → β) (h_cfg : Free_cfg rd) (s : State) (c : VClass) :
    rd (s.retarget c) = rd s := by
  unfold State.retarget
  try dsimp only
  repeat' first
    | with_reducible rfl
    | rw [State.setCfg_keep rd h_cfg]

theorem State.changeClass_keep (rd : State → β) (h_cfg : Free_cfg rd) (h_slots : Free_slots rd) (h_results : Free_results rd) (h_chans : Free_chans rd) (h_queue : Free_queue rd) (h_window : Free_window rd) (h_gates : Free_gates rd) (h_flash : Free_flash rd) (h_sup : Free_sup rd) (h_seq : Free_seq rd) (h_gauges : Free_gauges rd) (h_fan : Free_fan rd) (s : State) (c : VClass) :
    rd (s.changeClass c) = rd s := by
  unfold State.changeClass
  try dsimp only
  repeat' first
    | with_reducible rfl
    | rw [State.settleSupply_keep rd h_slots h_results h_chans h_queue h_window h_gates h_flash h_sup h_seq h_gauges h_fan]
    | rw [State.applySupply_keep rd h_cfg h_chans h_queue h_window h_sup h_fan]
    | rw [State.retarget_keep rd h_cfg]
    | split

theorem State.applyUnit_keep (rd : State → β) (h_cfg : Free_cfg rd) (h_ports : Free_ports rd) (h_slots : Free_slots rd) (h_results : Free_results rd) (h_chans : Free_chans rd) (h_queue : Free_queue rd) (h_window : Free_window rd) (h_gates : Free_gates rd) (h_flash : Free_flash rd) (h_sup : Free_sup rd) (h_seq : Free_seq rd) (h_gauges : Free_gauges rd) (h_fan : Free_fan rd) (s : State) (p : Port) (b : Bool) (r : UnitRec) :
    rd (s.applyUnit p b r) = rd s := by
  unfold State.applyUnit
  try dsimp only
  repeat' first
    | with_reducible rfl
    | rw [State.setPort_keep rd h_ports]
    | rw [State.setCfg_keep rd h_cfg]
    | rw [State.applyRates_keep rd h_ports]
    | rw [State.changeClass_keep rd h_cfg h_slots h_results h_chans h_queue h_window h_gates h_flash h_sup h_seq h_gauges h_fan]
    | split

theorem State.restartRuns_keep (rd : State → β) (h_inputs : Free_inputs rd) (s : State) :
    rd (s.restartRuns) = rd s := by
  unfold State.restartRuns
  try dsimp only
  repeat' first
    | with_reducible rfl
    | rw [State.setInput_keep rd h_inputs]
    | refine (foldl_keep rd _ (fun _ _ => ?_) _ _).trans ?_

theorem State.applyInputs_keep (rd : State → β) (h_power : Free_power rd) (h_cfg : Free_cfg rd) (h_slots : Free_slots rd) (h_inputs : Free_inputs rd) (h_claims : Free_claims rd) (h_results : Free_results rd) (h_chans : Free_chans rd) (h_queue : Free_queue rd) (h_window : Free_window rd) (h_gates : Free_gates rd) (h_flash : Free_flash rd) (h_sup : Free_sup rd) (h_seq : Free_seq rd) (h_gauges : Free_gauges rd) (h_fan : Free_fan rd) (s : State) (r : PerInput InputRec) :
    rd (s.applyInputs r) = rd s := by
  unfold State.applyInputs
  try dsimp only
  repeat' first
    | with_reducible rfl
    | rw [State.setCfg_keep rd h_cfg]
    | rw [State.settleInputs_keep rd h_power h_slots h_inputs h_claims h_results h_chans h_queue h_window h_gates h_flash h_sup h_seq h_gauges h_fan]
    | rw [State.restartRuns_keep rd h_inputs]

theorem State.forgetSlot_keep (rd : State → β) (h_slots : Free_slots rd) (h_claims : Free_claims rd) (h_results : Free_results rd) (h_chans : Free_chans rd) (h_queue : Free_queue rd) (h_window : Free_window rd) (h_flash : Free_flash rd) (h_fan : Free_fan rd) (s : State) (m : SlotId) :
    rd (s.forgetSlot m) = rd s := by
  unfold State.forgetSlot
  try dsimp only
  repeat' first
    | with_reducible rfl
    | rw [State.setSlot_keep rd h_slots]
    | rw [State.raiseOthers_keep rd h_slots]
    | rw [State.clearColumn_keep rd h_claims h_results h_chans h_queue h_window h_flash h_fan]
    | split

theorem State.applySlot_keep (rd : State → β) (h_cfg : Free_cfg rd) (h_slots : Free_slots rd) (h_claims : Free_claims rd) (h_results : Free_results rd) (h_chans : Free_chans rd) (h_queue : Free_queue rd) (h_window : Free_window rd) (h_flash : Free_flash rd) (h_fan : Free_fan rd) (s : State) (x : SlotId × SlotRec) :
    rd (s.applySlot x) = rd s := by
  unfold State.applySlot
  try dsimp only
  repeat' first
    | with_reducible rfl
    | rw [State.setSlot_keep rd h_slots]
    | rw [State.setCfg_keep rd h_cfg]
    | rw [State.fallSilent_keep rd h_slots h_claims h_results h_chans h_queue h_window h_flash h_fan]
    | rw [State.forgetSlot_keep rd h_slots h_claims h_results h_chans h_queue h_window h_flash h_fan]
    | split

theorem State.applyFunction_keep (rd : State → β) (h_cfg : Free_cfg rd) (h_claims : Free_claims rd) (h_results : Free_results rd) (h_chans : Free_chans rd) (h_queue : Free_queue rd) (h_window : Free_window rd) (h_flash : Free_flash rd) (h_fan : Free_fan rd) (s : State) (x : Fn × FunctionRec) :
    rd (s.applyFunction x) = rd s := by
  unfold State.applyFunction
  try dsimp only
  repeat' first
    | with_reducible rfl
    | rw [State.setCell_keep rd h_claims]
    | rw [State.setCfg_keep rd h_cfg]
    | rw [State.reevaluate_keep rd h_results h_chans h_queue h_window h_flash h_fan]
    | refine (foldl_keep rd _ (fun _ _ => ?_) _ _).trans ?_

theorem State.resetHealth_keep (rd : State → β) (h_slots : Free_slots rd) (h_chans : Free_chans rd) (s : State) (c : Channel) :
    rd (s.resetHealth c) = rd s := by
  unfold State.resetHealth
  try dsimp only
  repeat' first
    | with_reducible rfl
    | rw [State.modChan_keep rd h_chans]
    | rw [State.raise_keep rd h_slots]
    | split

theorem State.applyChannel_keep (rd : State → β) (h_cfg : Free_cfg rd) (h_slots : Free_slots rd) (h_chans : Free_chans rd) (h_queue : Free_queue rd) (h_window : Free_window rd) (h_fan : Free_fan rd) (s : State) (x : Channel × ChannelRec) :
    rd (s.applyChannel x) = rd s := by
  unfold State.applyChannel
  try dsimp only
  repeat' first
    | with_reducible rfl
    | rw [State.setCfg_keep rd h_cfg]
    | rw [State.recompute_keep rd h_chans h_queue h_window h_fan]
    | rw [State.resetHealth_keep rd h_slots h_chans]
    | split

theorem State.fanChannelChanged_keep (rd : State → β) (h_chans : Free_chans rd) (h_fan : Free_fan rd) (s : State) (o : Option Channel) :
    rd (s.fanChannelChanged o) = rd s := by
  unfold State.fanChannelChanged
  try dsimp only
  repeat' first
    | with_reducible rfl
    | rw [State.setFan_keep rd h_fan]
    | rw [State.fanStop_keep rd h_chans h_fan]
    | rw [State.fanStartOrSuspend_keep rd h_chans h_fan]
    | split

theorem State.applyMap_keep (rd : State → β) (h_cfg : Free_cfg rd) (h_chans : Free_chans rd) (h_queue : Free_queue rd) (h_window : Free_window rd) (h_fan : Free_fan rd) (s : State) (x : Fin 32 × Option MapEntry) :
    rd (s.applyMap x) = rd s := by
  unfold State.applyMap
  try dsimp only
  repeat' first
    | with_reducible rfl
    | rw [State.setCfg_keep rd h_cfg]
    | rw [State.recomputeWhere_keep rd h_chans h_queue h_window h_fan]
    | rw [State.fanChannelChanged_keep rd h_chans h_fan]

theorem State.applyGauge_keep (rd : State → β) (h_cfg : Free_cfg rd) (h_chans : Free_chans rd) (h_queue : Free_queue rd) (h_window : Free_window rd) (h_fan : Free_fan rd) (s : State) (x : GaugeId × GaugeRec) :
    rd (s.applyGauge x) = rd s := by
  unfold State.applyGauge
  try dsimp only
  repeat' first
    | with_reducible rfl
    | rw [State.setCfg_keep rd h_cfg]
    | rw [State.recompute_keep rd h_chans h_queue h_window h_fan]
    | split

theorem State.applyFlasher_keep (rd : State → β) (h_cfg : Free_cfg rd) (s : State) (r : FlasherRec) :
    rd (s.applyFlasher r) = rd s := by
  unfold State.applyFlasher
  try dsimp only
  repeat' first
    | with_reducible rfl
    | rw [State.setCfg_keep rd h_cfg]

theorem State.applyFan_keep (rd : State → β) (h_cfg : Free_cfg rd) (h_chans : Free_chans rd) (h_fan : Free_fan rd) (s : State) (r : FanRec) :
    rd (s.applyFan r) = rd s := by
  unfold State.applyFan
  try dsimp only
  repeat' first
    | with_reducible rfl
    | rw [State.setCfg_keep rd h_cfg]
    | rw [State.fanWrite_keep rd h_chans]
    | rw [State.fanRetarget_keep rd h_chans h_fan]
    | split

theorem State.settleHold_keep (rd : State → β) (h_claims : Free_claims rd) (h_results : Free_results rd) (h_chans : Free_chans rd) (h_queue : Free_queue rd) (h_window : Free_window rd) (h_flash : Free_flash rd) (h_fan : Free_fan rd) (m : SlotId) (s : State) (f : Fn) :
    rd (State.settleHold m s f) = rd s :=
  State.whenDue_keep _ _ _ _ (fun _ => State.writeCell_keep rd h_claims h_results h_chans h_queue h_window h_flash h_fan ..)

theorem State.settleSlot_keep (rd : State → β) (h_slots : Free_slots rd) (h_claims : Free_claims rd) (h_results : Free_results rd) (h_chans : Free_chans rd) (h_queue : Free_queue rd) (h_window : Free_window rd) (h_flash : Free_flash rd) (h_fan : Free_fan rd) (s : State) (m : SlotId) :
    rd (s.settleSlot m) = rd s := by
  exact (foldl_keep rd _ (fun _ _ => (State.settleHold_keep rd h_claims h_results h_chans h_queue h_window h_flash h_fan ..)) _ _).trans (State.whenDue_keep rd _ _ _ fun _ => (State.fallSilent_keep rd h_slots h_claims h_results h_chans h_queue h_window h_flash h_fan ..))


theorem State.settleFlash_keep (rd : State → β) (h_slots : Free_slots rd) (h_chans : Free_chans rd) (h_queue : Free_queue rd) (h_window : Free_window rd) (h_flash : Free_flash rd) (h_fan : Free_fan rd) (s : State) :
    rd (s.settleFlash) = rd s := by
  unfold State.settleFlash
  extract_lets t u
  have ht : rd t = rd s := State.whenDue_keep rd _ _ _ fun _ => (State.enterOn_keep rd h_slots h_chans h_queue h_window h_flash h_fan ..)
  have hu : rd u = rd s := by
    simp only [u]
    split
    · exact (State.enterOff_keep rd h_chans h_queue h_window h_flash h_fan ..).trans ht
    · exact ht
  exact (State.whenDue_keep rd _ _ _ fun _ => (State.enterOn_keep rd h_slots h_chans h_queue h_window h_flash h_fan ..)).trans hu


theorem State.settleGauge_keep (rd : State → β) (h_slots : Free_slots rd) (h_chans : Free_chans rd) (h_gauges : Free_gauges rd) (h_fan : Free_fan rd) (s : State) (g : GaugeId) :
    rd (s.settleGauge g) = rd s := by
  unfold State.settleGauge
  extract_lets t
  have ht : rd t = rd s := State.whenDue_keep rd _ _ _ fun _ => (State.gaugeRest_keep rd h_slots h_chans h_gauges h_fan ..)
  exact (State.gaugeFinishReading_keep rd h_slots h_chans h_gauges h_fan ..).trans ht


theorem State.settleChannel_keep (rd : State → β) (h_slots : Free_slots rd) (h_chans : Free_chans rd) (h_queue : Free_queue rd) (h_window : Free_window rd) (h_fan : Free_fan rd) (s : State) (c : Channel) :
    rd (s.settleChannel c) = rd s := by
  unfold State.settleChannel
  extract_lets t u v w
  have ht : rd t = rd s := State.whenDue_keep rd _ _ _ fun _ => (State.inrushExpire_keep rd h_chans h_queue h_window h_fan ..)
  have hu : rd u = rd s := (State.whenDue_keep rd _ _ _ fun _ => (State.coolOffExpire_keep rd h_chans h_queue h_window h_fan ..)).trans ht
  have hv : rd v = rd s := (State.whenDue_keep rd _ _ _ fun _ => (State.runCountReach_keep rd h_chans ..)).trans hu
  have hw : rd w = rd s := (State.whenDue_keep rd _ _ _ fun _ => (State.bulbSet_keep rd h_slots h_chans ..)).trans hv
  exact (State.whenDue_keep rd _ _ _ fun _ => (State.bulbClear_keep rd h_slots h_chans ..)).trans hw


theorem State.settleStall_keep (rd : State → β) (h_slots : Free_slots rd) (h_chans : Free_chans rd) (h_queue : Free_queue rd) (h_window : Free_window rd) (h_gates : Free_gates rd) (h_seq : Free_seq rd) (h_fan : Free_fan rd) (s : State) :
    rd (s.settleStall) = rd s := by
  unfold State.settleStall
  try dsimp only
  repeat' first
    | with_reducible rfl
    | rw [State.stallReport_keep rd h_slots h_chans h_queue h_window h_gates h_seq h_fan]
    | refine (State.whenDue_keep rd _ _ _ (fun _ => ?_)).trans ?_

theorem State.settleStepsOf_keep (rd : State → β) (h_power : Free_power rd) (h_slots : Free_slots rd) (h_inputs : Free_inputs rd) (h_claims : Free_claims rd) (h_results : Free_results rd) (h_chans : Free_chans rd) (h_queue : Free_queue rd) (h_window : Free_window rd) (h_gates : Free_gates rd) (h_flash : Free_flash rd) (h_sup : Free_sup rd) (h_seq : Free_seq rd) (h_gauges : Free_gauges rd) (h_fan : Free_fan rd) (s : State) (ids : List InputId) :
    rd (s.settleStepsOf ids) = rd s := by
  unfold State.settleStepsOf
  extract_lets a c e
  have ha : rd a = rd s := (foldl_keep rd _ (fun _ _ => (State.settleSlot_keep rd h_slots h_claims h_results h_chans h_queue h_window h_flash h_fan ..)) _ _).trans (State.settleInputsOf_keep rd h_power h_slots h_inputs h_claims h_results h_chans h_queue h_window h_gates h_flash h_sup h_seq h_gauges h_fan ..)
  have hc : rd c = rd s := (State.settleSupply_keep rd h_slots h_results h_chans h_queue h_window h_gates h_flash h_sup h_seq h_gauges h_fan ..).trans ((foldl_keep rd _ (fun _ _ => (State.settleGauge_keep rd h_slots h_chans h_gauges h_fan ..)) _ _).trans
    ((State.settleFlash_keep rd h_slots h_chans h_queue h_window h_flash h_fan ..).trans ha))
  have he : rd e = rd s := (State.settleStall_keep rd h_slots h_chans h_queue h_window h_gates h_seq h_fan ..).trans ((foldl_keep rd _ (fun _ _ => (State.settleChannel_keep rd h_slots h_chans h_queue h_window h_fan ..)) _ _).trans hc)
  exact (State.whenDue_keep rd _ _ _ fun _ => (State.abandonUnservable_keep rd h_seq ..)).trans he


theorem State.settleSteps_keep (rd : State → β) (h_power : Free_power rd) (h_slots : Free_slots rd) (h_inputs : Free_inputs rd) (h_claims : Free_claims rd) (h_results : Free_results rd) (h_chans : Free_chans rd) (h_queue : Free_queue rd) (h_window : Free_window rd) (h_gates : Free_gates rd) (h_flash : Free_flash rd) (h_sup : Free_sup rd) (h_seq : Free_seq rd) (h_gauges : Free_gauges rd) (h_fan : Free_fan rd) (s : State) :
    rd (s.settleSteps) = rd s := by
  unfold State.settleSteps
  try dsimp only
  repeat' first
    | with_reducible rfl
    | rw [State.settleStepsOf_keep rd h_power h_slots h_inputs h_claims h_results h_chans h_queue h_window h_gates h_flash h_sup h_seq h_gauges h_fan]

theorem State.watchLine_keep (rd : State → β) (h_ports : Free_ports rd) (s : State) (p : Port) :
    rd (s.watchLine p) = rd s := by
  unfold State.watchLine
  try dsimp only
  repeat' first
    | with_reducible rfl
    | rw [State.setPort_keep rd h_ports]

theorem State.sleep_keep (rd : State → β) (h_power : Free_power rd) (h_ports : Free_ports rd) (h_gates : Free_gates rd) (h_seq : Free_seq rd) (s : State) :
    rd (s.sleep) = rd s := by
  unfold State.sleep
  extract_lets t u
  have ht : rd t = rd s := (State.abandonAll_keep rd h_seq ..)
  exact (foldl_keep rd _ (fun _ _ => (State.watchLine_keep rd h_ports ..)) _ _).trans ((State.setGates_keep rd h_gates ..).trans ((State.setPower_keep rd h_power ..).trans ht))


theorem State.settle_keep (rd : State → β) (h_power : Free_power rd) (h_ports : Free_ports rd) (h_slots : Free_slots rd) (h_inputs : Free_inputs rd) (h_claims : Free_claims rd) (h_results : Free_results rd) (h_chans : Free_chans rd) (h_queue : Free_queue rd) (h_window : Free_window rd) (h_gates : Free_gates rd) (h_flash : Free_flash rd) (h_sup : Free_sup rd) (h_seq : Free_seq rd) (h_gauges : Free_gauges rd) (h_fan : Free_fan rd) (s : State) :
    rd (s.settle) = rd s := by
  unfold State.settle
  split
  · exact (State.sleep_keep rd h_power h_ports h_gates h_seq ..).trans (State.settleSteps_keep rd h_power h_slots h_inputs h_claims h_results h_chans h_queue h_window h_gates h_flash h_sup h_seq h_gauges h_fan ..)
  · exact (State.settleStepsOf_keep rd h_power h_slots h_inputs h_claims h_results h_chans h_queue h_window h_gates h_flash h_sup h_seq h_gauges h_fan ..)


theorem State.rawEvent_keep (rd : State → β) (h_inputs : Free_inputs rd) (s : State) (c : WakeCause) :
    rd (s.rawEvent c) = rd s := by
  unfold State.rawEvent
  try dsimp only
  repeat' first
    | with_reducible rfl
    | rw [State.setInput_keep rd h_inputs]
    | split

theorem State.freshRun_keep (rd : State → β) (h_inputs : Free_inputs rd) (s : State) (i : InputId) :
    rd (s.freshRun i) = rd s := by
  unfold State.freshRun
  try dsimp only
  repeat' first
    | with_reducible rfl
    | rw [State.setInput_keep rd h_inputs]

theorem State.freshTimer_keep (rd : State → β) (h_slots : Free_slots rd) (s : State) (m : SlotId) :
    rd (s.freshTimer m) = rd s := by
  unfold State.freshTimer
  try dsimp only
  repeat' first
    | with_reducible rfl
    | rw [State.setSlot_keep rd h_slots]

theorem State.wakeUp_keep (rd : State → β) (h_power : Free_power rd) (h_clock : Free_clock rd) (h_ports : Free_ports rd) (h_slots : Free_slots rd) (h_inputs : Free_inputs rd) (h_sup : Free_sup rd) (s : State) :
    rd (s.wakeUp) = rd s := by
  unfold State.wakeUp
  extract_lets x a b c d
  have ha : rd a = rd s := (State.setPower_keep rd h_power ..)
  have hb : rd b = rd s := (State.setSup_keep rd h_sup ..).trans ((State.setClock_keep rd h_clock ..).trans ha)
  have hc : rd c = rd s := (foldl_keep rd _ (fun _ _ => (State.freshRun_keep rd h_inputs ..)) _ _).trans hb
  have hd : rd d = rd s := (foldl_keep rd _ (fun _ _ => (State.freshTimer_keep rd h_slots ..)) _ _).trans hc
  exact (foldl_keep rd _ (fun _ _ => (State.hunt_keep rd h_ports ..)) _ _).trans hd


theorem State.startPeriod_keep (rd : State → β) (h_power : Free_power rd) (h_clock : Free_clock rd) (h_slots : Free_slots rd) (h_inputs : Free_inputs rd) (h_claims : Free_claims rd) (h_chans : Free_chans rd) (h_queue : Free_queue rd) (h_window : Free_window rd) (h_gates : Free_gates rd) (h_flash : Free_flash rd) (h_seq : Free_seq rd) (h_gauges : Free_gauges rd) (h_fan : Free_fan rd) (s : State) (l : PerInput Bool) :
    rd (s.startPeriod l) = rd s := by
  unfold State.startPeriod
  extract_lets a b x c
  have ha : rd a = rd s := (State.sampleInputs_keep rd h_inputs ..).trans (State.abandonAll_keep rd h_seq ..)
  have hb : rd b = rd s := (State.countFlash_keep rd h_flash ..).trans ((foldl_keep rd _ (fun _ _ => (State.countFaultHold_keep rd h_gauges ..)) _ _).trans
    ((foldl_keep rd _ (fun _ _ => (State.countSlot_keep rd h_slots h_claims ..)) _ _).trans ha))
  have hc : rd c = rd s := (State.setClock_keep rd h_clock ..).trans ((State.setPower_keep rd h_power ..).trans ((State.setSeq_keep rd h_seq ..).trans hb))
  exact (State.postRequests_keep rd h_seq ..).trans ((State.takeUpAll_keep rd h_chans h_queue h_window h_gates h_fan ..).trans hc)


theorem State.beginStep_keep (rd : State → β) (h_clock : Free_clock rd) (h_gates : Free_gates rd) (h_seq : Free_seq rd) (s : State) (n k : Nat) :
    rd (s.beginStep n k) = rd s := by
  unfold State.beginStep
  try dsimp only
  repeat' first
    | with_reducible rfl
    | rw [State.setSeq_keep rd h_seq]
    | rw [State.setClock_keep rd h_clock]
    | rw [State.setGates_keep rd h_gates]

theorem State.brownOut_keep (rd : State → β) (h_power : Free_power rd) (h_clock : Free_clock rd) (h_cfg : Free_cfg rd) (h_store : Free_store rd) (h_storeWrite : Free_storeWrite rd) (h_ports : Free_ports rd) (h_slots : Free_slots rd) (h_inputs : Free_inputs rd) (h_claims : Free_claims rd) (h_results : Free_results rd) (h_chans : Free_chans rd) (h_queue : Free_queue rd) (h_window : Free_window rd) (h_gates : Free_gates rd) (h_flash : Free_flash rd) (h_sup : Free_sup rd) (h_seq : Free_seq rd) (h_gauges : Free_gauges rd) (h_fan : Free_fan rd) (s : State)  :
    rd (s.brownOut) = rd s := State.copy_keep rd h_power h_clock h_cfg h_store h_storeWrite h_ports h_slots h_inputs h_claims h_results h_chans h_queue h_window h_gates h_flash h_sup h_seq h_gauges h_fan _ _ rfl

theorem State.begin_keep (rd : State → β) (h_power : Free_power rd) (h_clock : Free_clock rd) (h_cfg : Free_cfg rd) (h_store : Free_store rd) (h_storeWrite : Free_storeWrite rd) (h_ports : Free_ports rd) (h_slots : Free_slots rd) (h_inputs : Free_inputs rd) (h_claims : Free_claims rd) (h_results : Free_results rd) (h_chans : Free_chans rd) (h_queue : Free_queue rd) (h_window : Free_window rd) (h_gates : Free_gates rd) (h_flash : Free_flash rd) (h_sup : Free_sup rd) (h_seq : Free_seq rd) (h_gauges : Free_gauges rd) (h_fan : Free_fan rd) (s : State) (k : ResetKind) :
    rd (s.begin k) = rd s := State.copy_keep rd h_power h_clock h_cfg h_store h_storeWrite h_ports h_slots h_inputs h_claims h_results h_chans h_queue h_window h_gates h_flash h_sup h_seq h_gauges h_fan _ _ rfl

theorem State.busSample_keep (rd : State → β) (h_power : Free_power rd) (h_clock : Free_clock rd) (h_cfg : Free_cfg rd) (h_store : Free_store rd) (h_storeWrite : Free_storeWrite rd) (h_ports : Free_ports rd) (h_slots : Free_slots rd) (h_inputs : Free_inputs rd) (h_claims : Free_claims rd) (h_results : Free_results rd) (h_chans : Free_chans rd) (h_queue : Free_queue rd) (h_window : Free_window rd) (h_gates : Free_gates rd) (h_flash : Free_flash rd) (h_sup : Free_sup rd) (h_seq : Free_seq rd) (h_gauges : Free_gauges rd) (h_fan : Free_fan rd) (s : State) (v : Nat) :
    rd (s.busSample v) = rd s := by
  unfold State.busSample
  try dsimp only
  repeat' first
    | with_reducible rfl
    | rw [State.countSample_keep rd h_slots h_chans h_sup h_gauges h_fan]
    | rw [State.settleSupply_keep rd h_slots h_results h_chans h_queue h_window h_gates h_flash h_sup h_seq h_gauges h_fan]
    | rw [State.brownOut_keep rd h_power h_clock h_cfg h_store h_storeWrite h_ports h_slots h_inputs h_claims h_results h_chans h_queue h_window h_gates h_flash h_sup h_seq h_gauges h_fan]
    | split

theorem State.consume_keep (rd : State → β) (h_power : Free_power rd) (h_clock : Free_clock rd) (h_cfg : Free_cfg rd) (h_store : Free_store rd) (h_storeWrite : Free_storeWrite rd) (h_ports : Free_ports rd) (h_slots : Free_slots rd) (h_inputs : Free_inputs rd) (h_claims : Free_claims rd) (h_results : Free_results rd) (h_chans : Free_chans rd) (h_queue : Free_queue rd) (h_window : Free_window rd) (h_gates : Free_gates rd) (h_flash : Free_flash rd) (h_sup : Free_sup rd) (h_seq : Free_seq rd) (h_gauges : Free_gauges rd) (h_fan : Free_fan rd) (s : State) (r : Request) (v : Nat) :
    rd (s.consume r v) = rd s := by
  unfold State.consume
  try dsimp only
  repeat' first
    | with_reducible rfl
    | rw [State.fanSample_keep rd h_fan]
    | rw [State.openLoad_keep rd h_chans]
    | rw [State.gaugeReading_keep rd h_slots h_chans h_gauges h_fan]
    | rw [State.busSample_keep rd h_power h_clock h_cfg h_store h_storeWrite h_ports h_slots h_inputs h_claims h_results h_chans h_queue h_window h_gates h_flash h_sup h_seq h_gauges h_fan]
    | refine (foldl_keep rd _ (fun _ _ => ?_) _ _).trans ?_
    | split

theorem State.afterFrame_keep (rd : State → β) (h_power : Free_power rd) (h_clock : Free_clock rd) (h_cfg : Free_cfg rd) (h_store : Free_store rd) (h_storeWrite : Free_storeWrite rd) (h_ports : Free_ports rd) (h_slots : Free_slots rd) (h_inputs : Free_inputs rd) (h_claims : Free_claims rd) (h_results : Free_results rd) (h_chans : Free_chans rd) (h_queue : Free_queue rd) (h_window : Free_window rd) (h_gates : Free_gates rd) (h_flash : Free_flash rd) (h_sup : Free_sup rd) (h_seq : Free_seq rd) (h_gauges : Free_gauges rd) (h_fan : Free_fan rd) (s : State) (a b : Bool) :
    rd (s.afterFrame a b) = rd s := by
  unfold State.afterFrame
  try dsimp only
  repeat' first
    | with_reducible rfl
    | rw [State.applyRates_keep rd h_ports]
    | rw [State.begin_keep rd h_power h_clock h_cfg h_store h_storeWrite h_ports h_slots h_inputs h_claims h_results h_chans h_queue h_window h_gates h_flash h_sup h_seq h_gauges h_fan]
    | split

theorem State.finishFrame_keep (rd : State → β) (h_power : Free_power rd) (h_clock : Free_clock rd) (h_cfg : Free_cfg rd) (h_store : Free_store rd) (h_storeWrite : Free_storeWrite rd) (h_ports : Free_ports rd) (h_slots : Free_slots rd) (h_inputs : Free_inputs rd) (h_claims : Free_claims rd) (h_results : Free_results rd) (h_chans : Free_chans rd) (h_queue : Free_queue rd) (h_window : Free_window rd) (h_gates : Free_gates rd) (h_flash : Free_flash rd) (h_sup : Free_sup rd) (h_seq : Free_seq rd) (h_gauges : Free_gauges rd) (h_fan : Free_fan rd) (s : State) (p : Port) :
    rd (s.finishFrame p) = rd s := by
  unfold State.finishFrame
  try dsimp only
  repeat' first
    | with_reducible rfl
    | rw [State.setPort_keep rd h_ports]
    | rw [State.leaveQueue_keep rd h_ports]
    | rw [State.afterFrame_keep rd h_power h_clock h_cfg h_store h_storeWrite h_ports h_slots h_inputs h_claims h_results h_chans h_queue h_window h_gates h_flash h_sup h_seq h_gauges h_fan]
    | split

theorem State.answer_keep (rd : State → β) (h_power : Free_power rd) (h_clock : Free_clock rd) (h_cfg : Free_cfg rd) (h_store : Free_store rd) (h_storeWrite : Free_storeWrite rd) (h_ports : Free_ports rd) (h_slots : Free_slots rd) (h_inputs : Free_inputs rd) (h_claims : Free_claims rd) (h_results : Free_results rd) (h_chans : Free_chans rd) (h_queue : Free_queue rd) (h_window : Free_window rd) (h_gates : Free_gates rd) (h_flash : Free_flash rd) (h_sup : Free_sup rd) (h_seq : Free_seq rd) (h_gauges : Free_gauges rd) (h_fan : Free_fan rd) (s : State) (p : Port) (a : Option Answer) (k : Option Status) :
    rd (s.answer p a k) = rd s := by
  unfold State.answer
  try dsimp only
  repeat' first
    | with_reducible rfl
    | rw [State.setPort_keep rd h_ports]
    | rw [State.finishFrame_keep rd h_power h_clock h_cfg h_store h_storeWrite h_ports h_slots h_inputs h_claims h_results h_chans h_queue h_window h_gates h_flash h_sup h_seq h_gauges h_fan]
    | split

theorem State.answerStatus_keep (rd : State → β) (h_power : Free_power rd) (h_clock : Free_clock rd) (h_cfg : Free_cfg rd) (h_store : Free_store rd) (h_storeWrite : Free_storeWrite rd) (h_ports : Free_ports rd) (h_slots : Free_slots rd) (h_inputs : Free_inputs rd) (h_claims : Free_claims rd) (h_results : Free_results rd) (h_chans : Free_chans rd) (h_queue : Free_queue rd) (h_window : Free_window rd) (h_gates : Free_gates rd) (h_flash : Free_flash rd) (h_sup : Free_sup rd) (h_seq : Free_seq rd) (h_gauges : Free_gauges rd) (h_fan : Free_fan rd) (s : State) (p : Port) (k : Status) :
    rd (s.answerStatus p k) = rd s := by
  unfold State.answerStatus
  try dsimp only
  repeat' first
    | with_reducible rfl
    | rw [State.answer_keep rd h_power h_clock h_cfg h_store h_storeWrite h_ports h_slots h_inputs h_claims h_results h_chans h_queue h_window h_gates h_flash h_sup h_seq h_gauges h_fan]

theorem State.abandonReply_keep (rd : State → β) (h_power : Free_power rd) (h_clock : Free_clock rd) (h_cfg : Free_cfg rd) (h_store : Free_store rd) (h_storeWrite : Free_storeWrite rd) (h_ports : Free_ports rd) (h_slots : Free_slots rd) (h_inputs : Free_inputs rd) (h_claims : Free_claims rd) (h_results : Free_results rd) (h_chans : Free_chans rd) (h_queue : Free_queue rd) (h_window : Free_window rd) (h_gates : Free_gates rd) (h_flash : Free_flash rd) (h_sup : Free_sup rd) (h_seq : Free_seq rd) (h_gauges : Free_gauges rd) (h_fan : Free_fan rd) (s : State) (p : Port) (r : Reply) :
    rd (s.abandonReply p r) = rd s := by
  unfold State.abandonReply
  try dsimp only
  repeat' first
    | with_reducible rfl
    | rw [State.hunt_keep rd h_ports]
    | rw [State.leaveQueue_keep rd h_ports]
    | rw [State.afterFrame_keep rd h_power h_clock h_cfg h_store h_storeWrite h_ports h_slots h_inputs h_claims h_results h_chans h_queue h_window h_gates h_flash h_sup h_seq h_gauges h_fan]

theorem State.lineActive_keep (rd : State → β) (h_power : Free_power rd) (h_clock : Free_clock rd) (h_cfg : Free_cfg rd) (h_store : Free_store rd) (h_storeWrite : Free_storeWrite rd) (h_ports : Free_ports rd) (h_slots : Free_slots rd) (h_inputs : Free_inputs rd) (h_claims : Free_claims rd) (h_results : Free_results rd) (h_chans : Free_chans rd) (h_queue : Free_queue rd) (h_window : Free_window rd) (h_gates : Free_gates rd) (h_flash : Free_flash rd) (h_sup : Free_sup rd) (h_seq : Free_seq rd) (h_gauges : Free_gauges rd) (h_fan : Free_fan rd) (s : State) (p : Port) :
    rd (s.lineActive p) = rd s := by
  unfold State.lineActive
  try dsimp only
  repeat' first
    | with_reducible rfl
    | rw [State.setPort_keep rd h_ports]
    | rw [State.hunt_keep rd h_ports]
    | rw [State.abandonReply_keep rd h_power h_clock h_cfg h_store h_storeWrite h_ports h_slots h_inputs h_claims h_results h_chans h_queue h_window h_gates h_flash h_sup h_seq h_gauges h_fan]
    | split

theorem State.claimItem_keep (rd : State → β) (h_power : Free_power rd) (h_clock : Free_clock rd) (h_cfg : Free_cfg rd) (h_store : Free_store rd) (h_storeWrite : Free_storeWrite rd) (h_ports : Free_ports rd) (h_slots : Free_slots rd) (h_inputs : Free_inputs rd) (h_claims : Free_claims rd) (h_results : Free_results rd) (h_chans : Free_chans rd) (h_queue : Free_queue rd) (h_window : Free_window rd) (h_gates : Free_gates rd) (h_flash : Free_flash rd) (h_sup : Free_sup rd) (h_seq : Free_seq rd) (h_gauges : Free_gauges rd) (h_fan : Free_fan rd) (s : State) (p : Port) (m : SlotId) (l : List (Byte × Byte)) :
    rd (s.claimItem p m l) = rd s := by
  unfold State.claimItem
  try dsimp only
  repeat' first
    | with_reducible rfl
    | rw [State.claimPairs_keep rd h_claims h_results h_chans h_queue h_window h_flash h_fan]
    | rw [State.answerStatus_keep rd h_power h_clock h_cfg h_store h_storeWrite h_ports h_slots h_inputs h_claims h_results h_chans h_queue h_window h_gates h_flash h_sup h_seq h_gauges h_fan]
    | split

theorem State.claimAllItem_keep (rd : State → β) (h_power : Free_power rd) (h_clock : Free_clock rd) (h_cfg : Free_cfg rd) (h_store : Free_store rd) (h_storeWrite : Free_storeWrite rd) (h_ports : Free_ports rd) (h_slots : Free_slots rd) (h_inputs : Free_inputs rd) (h_claims : Free_claims rd) (h_results : Free_results rd) (h_chans : Free_chans rd) (h_queue : Free_queue rd) (h_window : Free_window rd) (h_gates : Free_gates rd) (h_flash : Free_flash rd) (h_sup : Free_sup rd) (h_seq : Free_seq rd) (h_gauges : Free_gauges rd) (h_fan : Free_fan rd) (s : State) (p : Port) (m : SlotId) (l : List (Byte × Byte)) :
    rd (s.claimAllItem p m l) = rd s := by
  unfold State.claimAllItem
  try dsimp only
  repeat' first
    | with_reducible rfl
    | rw [State.claimColumn_keep rd h_claims h_results h_chans h_queue h_window h_flash h_fan]
    | rw [State.answerStatus_keep rd h_power h_clock h_cfg h_store h_storeWrite h_ports h_slots h_inputs h_claims h_results h_chans h_queue h_window h_gates h_flash h_sup h_seq h_gauges h_fan]
    | split

theorem State.readItem_keep (rd : State → β) (h_power : Free_power rd) (h_clock : Free_clock rd) (h_cfg : Free_cfg rd) (h_store : Free_store rd) (h_storeWrite : Free_storeWrite rd) (h_ports : Free_ports rd) (h_slots : Free_slots rd) (h_inputs : Free_inputs rd) (h_claims : Free_claims rd) (h_results : Free_results rd) (h_chans : Free_chans rd) (h_queue : Free_queue rd) (h_window : Free_window rd) (h_gates : Free_gates rd) (h_flash : Free_flash rd) (h_sup : Free_sup rd) (h_seq : Free_seq rd) (h_gauges : Free_gauges rd) (h_fan : Free_fan rd) (s : State) (p : Port) (b : Bool) (k : ReadKind) (i : Byte) :
    rd (s.readItem p b k i) = rd s := by
  unfold State.readItem
  try dsimp only
  repeat' first
    | with_reducible rfl
    | rw [State.answer_keep rd h_power h_clock h_cfg h_store h_storeWrite h_ports h_slots h_inputs h_claims h_results h_chans h_queue h_window h_gates h_flash h_sup h_seq h_gauges h_fan]
    | rw [State.answerStatus_keep rd h_power h_clock h_cfg h_store h_storeWrite h_ports h_slots h_inputs h_claims h_results h_chans h_queue h_window h_gates h_flash h_sup h_seq h_gauges h_fan]
    | split

theorem State.readOf_keep (rd : State → β) (h_power : Free_power rd) (h_clock : Free_clock rd) (h_cfg : Free_cfg rd) (h_store : Free_store rd) (h_storeWrite : Free_storeWrite rd) (h_ports : Free_ports rd) (h_slots : Free_slots rd) (h_inputs : Free_inputs rd) (h_claims : Free_claims rd) (h_results : Free_results rd) (h_chans : Free_chans rd) (h_queue : Free_queue rd) (h_window : Free_window rd) (h_gates : Free_gates rd) (h_flash : Free_flash rd) (h_sup : Free_sup rd) (h_seq : Free_seq rd) (h_gauges : Free_gauges rd) (h_fan : Free_fan rd) (s : State) (p : Port) (q : ReadKind → Bool) :
    rd (s.readOf p q) = rd s := by
  unfold State.readOf
  try dsimp only
  repeat' first
    | with_reducible rfl
    | rw [State.readItem_keep rd h_power h_clock h_cfg h_store h_storeWrite h_ports h_slots h_inputs h_claims h_results h_chans h_queue h_window h_gates h_flash h_sup h_seq h_gauges h_fan]
    | split

theorem State.clearChannelsItem_keep (rd : State → β) (h_power : Free_power rd) (h_clock : Free_clock rd) (h_cfg : Free_cfg rd) (h_store : Free_store rd) (h_storeWrite : Free_storeWrite rd) (h_ports : Free_ports rd) (h_slots : Free_slots rd) (h_inputs : Free_inputs rd) (h_claims : Free_claims rd) (h_results : Free_results rd) (h_chans : Free_chans rd) (h_queue : Free_queue rd) (h_window : Free_window rd) (h_gates : Free_gates rd) (h_flash : Free_flash rd) (h_sup : Free_sup rd) (h_seq : Free_seq rd) (h_gauges : Free_gauges rd) (h_fan : Free_fan rd) (s : State) (p : Port) (m : SlotId) (l : List Byte) :
    rd (s.clearChannelsItem p m l) = rd s := by
  unfold State.clearChannelsItem
  try dsimp only
  repeat' first
    | with_reducible rfl
    | rw [State.clearChannel_keep rd h_chans h_fan]
    | rw [State.answerStatus_keep rd h_power h_clock h_cfg h_store h_storeWrite h_ports h_slots h_inputs h_claims h_results h_chans h_queue h_window h_gates h_flash h_sup h_seq h_gauges h_fan]
    | refine (foldl_keep rd _ (fun _ _ => ?_) _ _).trans ?_
    | split

theorem State.clearEventsItem_keep (rd : State → β) (h_power : Free_power rd) (h_clock : Free_clock rd) (h_cfg : Free_cfg rd) (h_store : Free_store rd) (h_storeWrite : Free_storeWrite rd) (h_ports : Free_ports rd) (h_slots : Free_slots rd) (h_inputs : Free_inputs rd) (h_claims : Free_claims rd) (h_results : Free_results rd) (h_chans : Free_chans rd) (h_queue : Free_queue rd) (h_window : Free_window rd) (h_gates : Free_gates rd) (h_flash : Free_flash rd) (h_sup : Free_sup rd) (h_seq : Free_seq rd) (h_gauges : Free_gauges rd) (h_fan : Free_fan rd) (s : State) (p : Port) (m : SlotId) (a b : Byte) :
    rd (s.clearEventsItem p m a b) = rd s := by
  unfold State.clearEventsItem
  try dsimp only
  repeat' first
    | with_reducible rfl
    | rw [State.setSlot_keep rd h_slots]
    | rw [State.answerStatus_keep rd h_power h_clock h_cfg h_store h_storeWrite h_ports h_slots h_inputs h_claims h_results h_chans h_queue h_window h_gates h_flash h_sup h_seq h_gauges h_fan]
    | split

theorem State.resetItem_keep (rd : State → β) (h_power : Free_power rd) (h_clock : Free_clock rd) (h_cfg : Free_cfg rd) (h_store : Free_store rd) (h_storeWrite : Free_storeWrite rd) (h_ports : Free_ports rd) (h_slots : Free_slots rd) (h_inputs : Free_inputs rd) (h_claims : Free_claims rd) (h_results : Free_results rd) (h_chans : Free_chans rd) (h_queue : Free_queue rd) (h_window : Free_window rd) (h_gates : Free_gates rd) (h_flash : Free_flash rd) (h_sup : Free_sup rd) (h_seq : Free_seq rd) (h_gauges : Free_gauges rd) (h_fan : Free_fan rd) (s : State) (p : Port) (m : SlotId) :
    rd (s.resetItem p m) = rd s := by
  unfold State.resetItem
  try dsimp only
  repeat' first
    | with_reducible rfl
    | rw [State.setPort_keep rd h_ports]
    | rw [State.setPower_keep rd h_power]
    | rw [State.answer_keep rd h_power h_clock h_cfg h_store h_storeWrite h_ports h_slots h_inputs h_claims h_results h_chans h_queue h_window h_gates h_flash h_sup h_seq h_gauges h_fan]
    | rw [State.answerStatus_keep rd h_power h_clock h_cfg h_store h_storeWrite h_ports h_slots h_inputs h_claims h_results h_chans h_queue h_window h_gates h_flash h_sup h_seq h_gauges h_fan]
    | split

theorem State.configLength_keep (rd : State → β) (h_power : Free_power rd) (h_clock : Free_clock rd) (h_cfg : Free_cfg rd) (h_store : Free_store rd) (h_storeWrite : Free_storeWrite rd) (h_ports : Free_ports rd) (h_slots : Free_slots rd) (h_inputs : Free_inputs rd) (h_claims : Free_claims rd) (h_results : Free_results rd) (h_chans : Free_chans rd) (h_queue : Free_queue rd) (h_window : Free_window rd) (h_gates : Free_gates rd) (h_flash : Free_flash rd) (h_sup : Free_sup rd) (h_seq : Free_seq rd) (h_gauges : Free_gauges rd) (h_fan : Free_fan rd) (s : State) (p : Port) (m : SlotId) :
    rd (s.configLength p m) = rd s := by
  unfold State.configLength
  try dsimp only
  repeat' first
    | with_reducible rfl
    | rw [State.answerStatus_keep rd h_power h_clock h_cfg h_store h_storeWrite h_ports h_slots h_inputs h_claims h_results h_chans h_queue h_window h_gates h_flash h_sup h_seq h_gauges h_fan]
    | split

theorem State.rowlessItem_keep (rd : State → β) (h_power : Free_power rd) (h_clock : Free_clock rd) (h_cfg : Free_cfg rd) (h_store : Free_store rd) (h_storeWrite : Free_storeWrite rd) (h_ports : Free_ports rd) (h_slots : Free_slots rd) (h_inputs : Free_inputs rd) (h_claims : Free_claims rd) (h_results : Free_results rd) (h_chans : Free_chans rd) (h_queue : Free_queue rd) (h_window : Free_window rd) (h_gates : Free_gates rd) (h_flash : Free_flash rd) (h_sup : Free_sup rd) (h_seq : Free_seq rd) (h_gauges : Free_gauges rd) (h_fan : Free_fan rd) (s : State) (p : Port) (f : Frame) (i : Item) :
    rd (s.rowlessItem p f i) = rd s := by
  unfold State.rowlessItem
  try dsimp only
  repeat' first
    | with_reducible rfl
    | rw [State.answer_keep rd h_power h_clock h_cfg h_store h_storeWrite h_ports h_slots h_inputs h_claims h_results h_chans h_queue h_window h_gates h_flash h_sup h_seq h_gauges h_fan]
    | rw [State.answerStatus_keep rd h_power h_clock h_cfg h_store h_storeWrite h_ports h_slots h_inputs h_claims h_results h_chans h_queue h_window h_gates h_flash h_sup h_seq h_gauges h_fan]
    | split

theorem State.beginFrame_keep (rd : State → β) (h_power : Free_power rd) (h_clock : Free_clock rd) (h_cfg : Free_cfg rd) (h_store : Free_store rd) (h_storeWrite : Free_storeWrite rd) (h_ports : Free_ports rd) (h_slots : Free_slots rd) (h_inputs : Free_inputs rd) (h_claims : Free_claims rd) (h_results : Free_results rd) (h_chans : Free_chans rd) (h_queue : Free_queue rd) (h_window : Free_window rd) (h_gates : Free_gates rd) (h_flash : Free_flash rd) (h_sup : Free_sup rd) (h_seq : Free_seq rd) (h_gauges : Free_gauges rd) (h_fan : Free_fan rd) (s : State) (p : Port) (l : List Item) :
    rd (s.beginFrame p l) = rd s := by
  unfold State.beginFrame
  try dsimp only
  repeat' first
    | with_reducible rfl
    | rw [State.setPort_keep rd h_ports]
    | rw [State.finishFrame_keep rd h_power h_clock h_cfg h_store h_storeWrite h_ports h_slots h_inputs h_claims h_results h_chans h_queue h_window h_gates h_flash h_sup h_seq h_gauges h_fan]
    | split

end Sys2Proof.Machine
end

