-- ==== Sys2Proof/Laws/Frames.lean ====
section
/-! SUPPORT. The `_keep` lemmas field by field: for each shared operation the fields it leaves as they were, as a
conjunction that the simplifier splits into one rule a field. -/

namespace Sys2Proof.Machine
open Sys2Proof

@[simp] theorem State.raiseTo_frame (s : State) (k : EventKind) (m : SlotId) :
    (s.raiseTo k m).pending = s.pending ∧
    (s.raiseTo k m).power = s.power ∧
    (s.raiseTo k m).clock = s.clock ∧
    (s.raiseTo k m).cfg = s.cfg ∧
    (s.raiseTo k m).store = s.store ∧
    (s.raiseTo k m).storeWrite = s.storeWrite ∧
    (s.raiseTo k m).ports = s.ports ∧
    (s.raiseTo k m).inputs = s.inputs ∧
    (s.raiseTo k m).claims = s.claims ∧
    (s.raiseTo k m).results = s.results ∧
    (s.raiseTo k m).chans = s.chans ∧
    (s.raiseTo k m).queue = s.queue ∧
    (s.raiseTo k m).window = s.window ∧
    (s.raiseTo k m).gates = s.gates ∧
    (s.raiseTo k m).flash = s.flash ∧
    (s.raiseTo k m).sup = s.sup ∧
    (s.raiseTo k m).seq = s.seq ∧
    (s.raiseTo k m).gauges = s.gauges ∧
    (s.raiseTo k m).fan = s.fan := by
  simpa only [Prod.mk.injEq] using State.raiseTo_keep (fun x => (x.pending, x.power, x.clock, x.cfg, x.store, x.storeWrite, x.ports, x.inputs, x.claims, x.results, x.chans, x.queue, x.window, x.gates, x.flash, x.sup, x.seq, x.gauges, x.fan))
    (fun _ _ => rfl) ..

@[simp] theorem State.raise_frame (s : State) (k : EventKind) :
    (s.raise k).pending = s.pending ∧
    (s.raise k).power = s.power ∧
    (s.raise k).clock = s.clock ∧
    (s.raise k).cfg = s.cfg ∧
    (s.raise k).store = s.store ∧
    (s.raise k).storeWrite = s.storeWrite ∧
    (s.raise k).ports = s.ports ∧
    (s.raise k).inputs = s.inputs ∧
    (s.raise k).claims = s.claims ∧
    (s.raise k).results = s.results ∧
    (s.raise k).chans = s.chans ∧
    (s.raise k).queue = s.queue ∧
    (s.raise k).window = s.window ∧
    (s.raise k).gates = s.gates ∧
    (s.raise k).flash = s.flash ∧
    (s.raise k).sup = s.sup ∧
    (s.raise k).seq = s.seq ∧
    (s.raise k).gauges = s.gauges ∧
    (s.raise k).fan = s.fan := by
  simpa only [Prod.mk.injEq] using State.raise_keep (fun x => (x.pending, x.power, x.clock, x.cfg, x.store, x.storeWrite, x.ports, x.inputs, x.claims, x.results, x.chans, x.queue, x.window, x.gates, x.flash, x.sup, x.seq, x.gauges, x.fan))
    (fun _ _ => rfl) ..

@[simp] theorem State.raiseOthers_frame (s : State) (m : SlotId) :
    (s.raiseOthers m).pending = s.pending ∧
    (s.raiseOthers m).power = s.power ∧
    (s.raiseOthers m).clock = s.clock ∧
    (s.raiseOthers m).cfg = s.cfg ∧
    (s.raiseOthers m).store = s.store ∧
    (s.raiseOthers m).storeWrite = s.storeWrite ∧
    (s.raiseOthers m).ports = s.ports ∧
    (s.raiseOthers m).inputs = s.inputs ∧
    (s.raiseOthers m).claims = s.claims ∧
    (s.raiseOthers m).results = s.results ∧
    (s.raiseOthers m).chans = s.chans ∧
    (s.raiseOthers m).queue = s.queue ∧
    (s.raiseOthers m).window = s.window ∧
    (s.raiseOthers m).gates = s.gates ∧
    (s.raiseOthers m).flash = s.flash ∧
    (s.raiseOthers m).sup = s.sup ∧
    (s.raiseOthers m).seq = s.seq ∧
    (s.raiseOthers m).gauges = s.gauges ∧
    (s.raiseOthers m).fan = s.fan := by
  simpa only [Prod.mk.injEq] using State.raiseOthers_keep (fun x => (x.pending, x.power, x.clock, x.cfg, x.store, x.storeWrite, x.ports, x.inputs, x.claims, x.results, x.chans, x.queue, x.window, x.gates, x.flash, x.sup, x.seq, x.gauges, x.fan))
    (fun _ _ => rfl) ..

@[simp] theorem State.writeDemand_frame (s : State) (c : Channel) (d : Nat) (src : DemandSource) :
    (s.writeDemand c d src).pending = s.pending ∧
    (s.writeDemand c d src).power = s.power ∧
    (s.writeDemand c d src).clock = s.clock ∧
    (s.writeDemand c d src).cfg = s.cfg ∧
    (s.writeDemand c d src).store = s.store ∧
    (s.writeDemand c d src).storeWrite = s.storeWrite ∧
    (s.writeDemand c d src).ports = s.ports ∧
    (s.writeDemand c d src).slots = s.slots ∧
    (s.writeDemand c d src).inputs = s.inputs ∧
    (s.writeDemand c d src).claims = s.claims ∧
    (s.writeDemand c d src).results = s.results ∧
    (s.writeDemand c d src).queue = s.queue ∧
    (s.writeDemand c d src).window = s.window ∧
    (s.writeDemand c d src).gates = s.gates ∧
    (s.writeDemand c d src).flash = s.flash ∧
    (s.writeDemand c d src).sup = s.sup ∧
    (s.writeDemand c d src).seq = s.seq ∧
    (s.writeDemand c d src).gauges = s.gauges ∧
    (s.writeDemand c d src).fan = s.fan := by
  simpa only [Prod.mk.injEq] using State.writeDemand_keep (fun x => (x.pending, x.power, x.clock, x.cfg, x.store, x.storeWrite, x.ports, x.slots, x.inputs, x.claims, x.results, x.queue, x.window, x.gates, x.flash, x.sup, x.seq, x.gauges, x.fan))
    (fun _ _ => rfl) ..

@[simp] theorem State.negateGate_frame (s : State) (c : Channel) :
    (s.negateGate c).pending = s.pending ∧
    (s.negateGate c).power = s.power ∧
    (s.negateGate c).clock = s.clock ∧
    (s.negateGate c).cfg = s.cfg ∧
    (s.negateGate c).store = s.store ∧
    (s.negateGate c).storeWrite = s.storeWrite ∧
    (s.negateGate c).ports = s.ports ∧
    (s.negateGate c).slots = s.slots ∧
    (s.negateGate c).inputs = s.inputs ∧
    (s.negateGate c).claims = s.claims ∧
    (s.negateGate c).results = s.results ∧
    (s.negateGate c).chans = s.chans ∧
    (s.negateGate c).queue = s.queue ∧
    (s.negateGate c).window = s.window ∧
    (s.negateGate c).flash = s.flash ∧
    (s.negateGate c).sup = s.sup ∧
    (s.negateGate c).seq = s.seq ∧
    (s.negateGate c).gauges = s.gauges ∧
    (s.negateGate c).fan = s.fan := by
  simpa only [Prod.mk.injEq] using State.negateGate_keep (fun x => (x.pending, x.power, x.clock, x.cfg, x.store, x.storeWrite, x.ports, x.slots, x.inputs, x.claims, x.results, x.chans, x.queue, x.window, x.flash, x.sup, x.seq, x.gauges, x.fan))
    (fun _ _ => rfl) ..

@[simp] theorem State.abandon_frame (s : State) (x : Source) :
    (s.abandon x).pending = s.pending ∧
    (s.abandon x).power = s.power ∧
    (s.abandon x).clock = s.clock ∧
    (s.abandon x).cfg = s.cfg ∧
    (s.abandon x).store = s.store ∧
    (s.abandon x).storeWrite = s.storeWrite ∧
    (s.abandon x).ports = s.ports ∧
    (s.abandon x).slots = s.slots ∧
    (s.abandon x).inputs = s.inputs ∧
    (s.abandon x).claims = s.claims ∧
    (s.abandon x).results = s.results ∧
    (s.abandon x).chans = s.chans ∧
    (s.abandon x).queue = s.queue ∧
    (s.abandon x).window = s.window ∧
    (s.abandon x).gates = s.gates ∧
    (s.abandon x).flash = s.flash ∧
    (s.abandon x).sup = s.sup ∧
    (s.abandon x).gauges = s.gauges ∧
    (s.abandon x).fan = s.fan := by
  simpa only [Prod.mk.injEq] using State.abandon_keep (fun x => (x.pending, x.power, x.clock, x.cfg, x.store, x.storeWrite, x.ports, x.slots, x.inputs, x.claims, x.results, x.chans, x.queue, x.window, x.gates, x.flash, x.sup, x.gauges, x.fan))
    (fun _ _ => rfl) ..

@[simp] theorem State.abandonAll_frame (s : State) :
    (s.abandonAll).pending = s.pending ∧
    (s.abandonAll).power = s.power ∧
    (s.abandonAll).clock = s.clock ∧
    (s.abandonAll).cfg = s.cfg ∧
    (s.abandonAll).store = s.store ∧
    (s.abandonAll).storeWrite = s.storeWrite ∧
    (s.abandonAll).ports = s.ports ∧
    (s.abandonAll).slots = s.slots ∧
    (s.abandonAll).inputs = s.inputs ∧
    (s.abandonAll).claims = s.claims ∧
    (s.abandonAll).results = s.results ∧
    (s.abandonAll).chans = s.chans ∧
    (s.abandonAll).queue = s.queue ∧
    (s.abandonAll).window = s.window ∧
    (s.abandonAll).gates = s.gates ∧
    (s.abandonAll).flash = s.flash ∧
    (s.abandonAll).sup = s.sup ∧
    (s.abandonAll).gauges = s.gauges ∧
    (s.abandonAll).fan = s.fan := by
  simpa only [Prod.mk.injEq] using State.abandonAll_keep (fun x => (x.pending, x.power, x.clock, x.cfg, x.store, x.storeWrite, x.ports, x.slots, x.inputs, x.claims, x.results, x.chans, x.queue, x.window, x.gates, x.flash, x.sup, x.gauges, x.fan))
    (fun _ _ => rfl) ..

@[simp] theorem State.fanWrite_frame (s : State) (d : Nat) :
    (s.fanWrite d).pending = s.pending ∧
    (s.fanWrite d).power = s.power ∧
    (s.fanWrite d).clock = s.clock ∧
    (s.fanWrite d).cfg = s.cfg ∧
    (s.fanWrite d).store = s.store ∧
    (s.fanWrite d).storeWrite = s.storeWrite ∧
    (s.fanWrite d).ports = s.ports ∧
    (s.fanWrite d).slots = s.slots ∧
    (s.fanWrite d).inputs = s.inputs ∧
    (s.fanWrite d).claims = s.claims ∧
    (s.fanWrite d).results = s.results ∧
    (s.fanWrite d).queue = s.queue ∧
    (s.fanWrite d).window = s.window ∧
    (s.fanWrite d).gates = s.gates ∧
    (s.fanWrite d).flash = s.flash ∧
    (s.fanWrite d).sup = s.sup ∧
    (s.fanWrite d).seq = s.seq ∧
    (s.fanWrite d).gauges = s.gauges ∧
    (s.fanWrite d).fan = s.fan := by
  simpa only [Prod.mk.injEq] using State.fanWrite_keep (fun x => (x.pending, x.power, x.clock, x.cfg, x.store, x.storeWrite, x.ports, x.slots, x.inputs, x.claims, x.results, x.queue, x.window, x.gates, x.flash, x.sup, x.seq, x.gauges, x.fan))
    (fun _ _ => rfl) ..

@[simp] theorem State.fanStop_frame (s : State) :
    (s.fanStop).pending = s.pending ∧
    (s.fanStop).power = s.power ∧
    (s.fanStop).clock = s.clock ∧
    (s.fanStop).cfg = s.cfg ∧
    (s.fanStop).store = s.store ∧
    (s.fanStop).storeWrite = s.storeWrite ∧
    (s.fanStop).ports = s.ports ∧
    (s.fanStop).slots = s.slots ∧
    (s.fanStop).inputs = s.inputs ∧
    (s.fanStop).claims = s.claims ∧
    (s.fanStop).results = s.results ∧
    (s.fanStop).queue = s.queue ∧
    (s.fanStop).window = s.window ∧
    (s.fanStop).gates = s.gates ∧
    (s.fanStop).flash = s.flash ∧
    (s.fanStop).sup = s.sup ∧
    (s.fanStop).seq = s.seq ∧
    (s.fanStop).gauges = s.gauges := by
  simpa only [Prod.mk.injEq] using State.fanStop_keep (fun x => (x.pending, x.power, x.clock, x.cfg, x.store, x.storeWrite, x.ports, x.slots, x.inputs, x.claims, x.results, x.queue, x.window, x.gates, x.flash, x.sup, x.seq, x.gauges))
    (fun _ _ => rfl) (fun _ _ => rfl) ..

@[simp] theorem State.fanSuspend_frame (s : State) :
    (s.fanSuspend).pending = s.pending ∧
    (s.fanSuspend).power = s.power ∧
    (s.fanSuspend).clock = s.clock ∧
    (s.fanSuspend).cfg = s.cfg ∧
    (s.fanSuspend).store = s.store ∧
    (s.fanSuspend).storeWrite = s.storeWrite ∧
    (s.fanSuspend).ports = s.ports ∧
    (s.fanSuspend).slots = s.slots ∧
    (s.fanSuspend).inputs = s.inputs ∧
    (s.fanSuspend).claims = s.claims ∧
    (s.fanSuspend).results = s.results ∧
    (s.fanSuspend).queue = s.queue ∧
    (s.fanSuspend).window = s.window ∧
    (s.fanSuspend).gates = s.gates ∧
    (s.fanSuspend).flash = s.flash ∧
    (s.fanSuspend).sup = s.sup ∧
    (s.fanSuspend).seq = s.seq ∧
    (s.fanSuspend).gauges = s.gauges := by
  simpa only [Prod.mk.injEq] using State.fanSuspend_keep (fun x => (x.pending, x.power, x.clock, x.cfg, x.store, x.storeWrite, x.ports, x.slots, x.inputs, x.claims, x.results, x.queue, x.window, x.gates, x.flash, x.sup, x.seq, x.gauges))
    (fun _ _ => rfl) (fun _ _ => rfl) ..

@[simp] theorem State.fanStarting_frame (s : State) :
    (s.fanStarting).pending = s.pending ∧
    (s.fanStarting).power = s.power ∧
    (s.fanStarting).clock = s.clock ∧
    (s.fanStarting).cfg = s.cfg ∧
    (s.fanStarting).store = s.store ∧
    (s.fanStarting).storeWrite = s.storeWrite ∧
    (s.fanStarting).ports = s.ports ∧
    (s.fanStarting).slots = s.slots ∧
    (s.fanStarting).inputs = s.inputs ∧
    (s.fanStarting).claims = s.claims ∧
    (s.fanStarting).results = s.results ∧
    (s.fanStarting).queue = s.queue ∧
    (s.fanStarting).window = s.window ∧
    (s.fanStarting).gates = s.gates ∧
    (s.fanStarting).flash = s.flash ∧
    (s.fanStarting).sup = s.sup ∧
    (s.fanStarting).seq = s.seq ∧
    (s.fanStarting).gauges = s.gauges := by
  simpa only [Prod.mk.injEq] using State.fanStarting_keep (fun x => (x.pending, x.power, x.clock, x.cfg, x.store, x.storeWrite, x.ports, x.slots, x.inputs, x.claims, x.results, x.queue, x.window, x.gates, x.flash, x.sup, x.seq, x.gauges))
    (fun _ _ => rfl) (fun _ _ => rfl) ..

@[simp] theorem State.fanKick_frame (s : State) :
    (s.fanKick).pending = s.pending ∧
    (s.fanKick).power = s.power ∧
    (s.fanKick).clock = s.clock ∧
    (s.fanKick).cfg = s.cfg ∧
    (s.fanKick).store = s.store ∧
    (s.fanKick).storeWrite = s.storeWrite ∧
    (s.fanKick).ports = s.ports ∧
    (s.fanKick).slots = s.slots ∧
    (s.fanKick).inputs = s.inputs ∧
    (s.fanKick).claims = s.claims ∧
    (s.fanKick).results = s.results ∧
    (s.fanKick).queue = s.queue ∧
    (s.fanKick).window = s.window ∧
    (s.fanKick).gates = s.gates ∧
    (s.fanKick).flash = s.flash ∧
    (s.fanKick).sup = s.sup ∧
    (s.fanKick).seq = s.seq ∧
    (s.fanKick).gauges = s.gauges := by
  simpa only [Prod.mk.injEq] using State.fanKick_keep (fun x => (x.pending, x.power, x.clock, x.cfg, x.store, x.storeWrite, x.ports, x.slots, x.inputs, x.claims, x.results, x.queue, x.window, x.gates, x.flash, x.sup, x.seq, x.gauges))
    (fun _ _ => rfl) (fun _ _ => rfl) ..

@[simp] theorem State.fanRamp_frame (s : State) (d : Nat) :
    (s.fanRamp d).pending = s.pending ∧
    (s.fanRamp d).power = s.power ∧
    (s.fanRamp d).clock = s.clock ∧
    (s.fanRamp d).cfg = s.cfg ∧
    (s.fanRamp d).store = s.store ∧
    (s.fanRamp d).storeWrite = s.storeWrite ∧
    (s.fanRamp d).ports = s.ports ∧
    (s.fanRamp d).slots = s.slots ∧
    (s.fanRamp d).inputs = s.inputs ∧
    (s.fanRamp d).claims = s.claims ∧
    (s.fanRamp d).results = s.results ∧
    (s.fanRamp d).queue = s.queue ∧
    (s.fanRamp d).window = s.window ∧
    (s.fanRamp d).gates = s.gates ∧
    (s.fanRamp d).flash = s.flash ∧
    (s.fanRamp d).sup = s.sup ∧
    (s.fanRamp d).seq = s.seq ∧
    (s.fanRamp d).gauges = s.gauges := by
  simpa only [Prod.mk.injEq] using State.fanRamp_keep (fun x => (x.pending, x.power, x.clock, x.cfg, x.store, x.storeWrite, x.ports, x.slots, x.inputs, x.claims, x.results, x.queue, x.window, x.gates, x.flash, x.sup, x.seq, x.gauges))
    (fun _ _ => rfl) (fun _ _ => rfl) ..

@[simp] theorem State.fanFault_frame (s : State) :
    (s.fanFault).pending = s.pending ∧
    (s.fanFault).power = s.power ∧
    (s.fanFault).clock = s.clock ∧
    (s.fanFault).cfg = s.cfg ∧
    (s.fanFault).store = s.store ∧
    (s.fanFault).storeWrite = s.storeWrite ∧
    (s.fanFault).ports = s.ports ∧
    (s.fanFault).slots = s.slots ∧
    (s.fanFault).inputs = s.inputs ∧
    (s.fanFault).claims = s.claims ∧
    (s.fanFault).results = s.results ∧
    (s.fanFault).queue = s.queue ∧
    (s.fanFault).window = s.window ∧
    (s.fanFault).gates = s.gates ∧
    (s.fanFault).flash = s.flash ∧
    (s.fanFault).sup = s.sup ∧
    (s.fanFault).seq = s.seq ∧
    (s.fanFault).gauges = s.gauges := by
  simpa only [Prod.mk.injEq] using State.fanFault_keep (fun x => (x.pending, x.power, x.clock, x.cfg, x.store, x.storeWrite, x.ports, x.slots, x.inputs, x.claims, x.results, x.queue, x.window, x.gates, x.flash, x.sup, x.seq, x.gauges))
    (fun _ _ => rfl) (fun _ _ => rfl) ..

@[simp] theorem State.fanStart_frame (s : State) :
    (s.fanStart).pending = s.pending ∧
    (s.fanStart).power = s.power ∧
    (s.fanStart).clock = s.clock ∧
    (s.fanStart).cfg = s.cfg ∧
    (s.fanStart).store = s.store ∧
    (s.fanStart).storeWrite = s.storeWrite ∧
    (s.fanStart).ports = s.ports ∧
    (s.fanStart).slots = s.slots ∧
    (s.fanStart).inputs = s.inputs ∧
    (s.fanStart).claims = s.claims ∧
    (s.fanStart).results = s.results ∧
    (s.fanStart).queue = s.queue ∧
    (s.fanStart).window = s.window ∧
    (s.fanStart).gates = s.gates ∧
    (s.fanStart).flash = s.flash ∧
    (s.fanStart).sup = s.sup ∧
    (s.fanStart).seq = s.seq ∧
    (s.fanStart).gauges = s.gauges := by
  simpa only [Prod.mk.injEq] using State.fanStart_keep (fun x => (x.pending, x.power, x.clock, x.cfg, x.store, x.storeWrite, x.ports, x.slots, x.inputs, x.claims, x.results, x.queue, x.window, x.gates, x.flash, x.sup, x.seq, x.gauges))
    (fun _ _ => rfl) (fun _ _ => rfl) ..

@[simp] theorem State.fanStartOrSuspend_frame (s : State) :
    (s.fanStartOrSuspend).pending = s.pending ∧
    (s.fanStartOrSuspend).power = s.power ∧
    (s.fanStartOrSuspend).clock = s.clock ∧
    (s.fanStartOrSuspend).cfg = s.cfg ∧
    (s.fanStartOrSuspend).store = s.store ∧
    (s.fanStartOrSuspend).storeWrite = s.storeWrite ∧
    (s.fanStartOrSuspend).ports = s.ports ∧
    (s.fanStartOrSuspend).slots = s.slots ∧
    (s.fanStartOrSuspend).inputs = s.inputs ∧
    (s.fanStartOrSuspend).claims = s.claims ∧
    (s.fanStartOrSuspend).results = s.results ∧
    (s.fanStartOrSuspend).queue = s.queue ∧
    (s.fanStartOrSuspend).window = s.window ∧
    (s.fanStartOrSuspend).gates = s.gates ∧
    (s.fanStartOrSuspend).flash = s.flash ∧
    (s.fanStartOrSuspend).sup = s.sup ∧
    (s.fanStartOrSuspend).seq = s.seq ∧
    (s.fanStartOrSuspend).gauges = s.gauges := by
  simpa only [Prod.mk.injEq] using State.fanStartOrSuspend_keep (fun x => (x.pending, x.power, x.clock, x.cfg, x.store, x.storeWrite, x.ports, x.slots, x.inputs, x.claims, x.results, x.queue, x.window, x.gates, x.flash, x.sup, x.seq, x.gauges))
    (fun _ _ => rfl) (fun _ _ => rfl) ..

@[simp] theorem State.fanRetarget_frame (s : State) :
    (s.fanRetarget).pending = s.pending ∧
    (s.fanRetarget).power = s.power ∧
    (s.fanRetarget).clock = s.clock ∧
    (s.fanRetarget).cfg = s.cfg ∧
    (s.fanRetarget).store = s.store ∧
    (s.fanRetarget).storeWrite = s.storeWrite ∧
    (s.fanRetarget).ports = s.ports ∧
    (s.fanRetarget).slots = s.slots ∧
    (s.fanRetarget).inputs = s.inputs ∧
    (s.fanRetarget).claims = s.claims ∧
    (s.fanRetarget).results = s.results ∧
    (s.fanRetarget).queue = s.queue ∧
    (s.fanRetarget).window = s.window ∧
    (s.fanRetarget).gates = s.gates ∧
    (s.fanRetarget).flash = s.flash ∧
    (s.fanRetarget).sup = s.sup ∧
    (s.fanRetarget).seq = s.seq ∧
    (s.fanRetarget).gauges = s.gauges := by
  simpa only [Prod.mk.injEq] using State.fanRetarget_keep (fun x => (x.pending, x.power, x.clock, x.cfg, x.store, x.storeWrite, x.ports, x.slots, x.inputs, x.claims, x.results, x.queue, x.window, x.gates, x.flash, x.sup, x.seq, x.gauges))
    (fun _ _ => rfl) (fun _ _ => rfl) ..

@[simp] theorem State.fanSawInrush_frame (s : State) :
    (s.fanSawInrush).pending = s.pending ∧
    (s.fanSawInrush).power = s.power ∧
    (s.fanSawInrush).clock = s.clock ∧
    (s.fanSawInrush).cfg = s.cfg ∧
    (s.fanSawInrush).store = s.store ∧
    (s.fanSawInrush).storeWrite = s.storeWrite ∧
    (s.fanSawInrush).ports = s.ports ∧
    (s.fanSawInrush).slots = s.slots ∧
    (s.fanSawInrush).inputs = s.inputs ∧
    (s.fanSawInrush).claims = s.claims ∧
    (s.fanSawInrush).results = s.results ∧
    (s.fanSawInrush).queue = s.queue ∧
    (s.fanSawInrush).window = s.window ∧
    (s.fanSawInrush).gates = s.gates ∧
    (s.fanSawInrush).flash = s.flash ∧
    (s.fanSawInrush).sup = s.sup ∧
    (s.fanSawInrush).seq = s.seq ∧
    (s.fanSawInrush).gauges = s.gauges := by
  simpa only [Prod.mk.injEq] using State.fanSawInrush_keep (fun x => (x.pending, x.power, x.clock, x.cfg, x.store, x.storeWrite, x.ports, x.slots, x.inputs, x.claims, x.results, x.queue, x.window, x.gates, x.flash, x.sup, x.seq, x.gauges))
    (fun _ _ => rfl) (fun _ _ => rfl) ..

@[simp] theorem State.fanSawRun_frame (s : State) :
    (s.fanSawRun).pending = s.pending ∧
    (s.fanSawRun).power = s.power ∧
    (s.fanSawRun).clock = s.clock ∧
    (s.fanSawRun).cfg = s.cfg ∧
    (s.fanSawRun).store = s.store ∧
    (s.fanSawRun).storeWrite = s.storeWrite ∧
    (s.fanSawRun).ports = s.ports ∧
    (s.fanSawRun).slots = s.slots ∧
    (s.fanSawRun).inputs = s.inputs ∧
    (s.fanSawRun).claims = s.claims ∧
    (s.fanSawRun).results = s.results ∧
    (s.fanSawRun).queue = s.queue ∧
    (s.fanSawRun).window = s.window ∧
    (s.fanSawRun).gates = s.gates ∧
    (s.fanSawRun).flash = s.flash ∧
    (s.fanSawRun).sup = s.sup ∧
    (s.fanSawRun).seq = s.seq ∧
    (s.fanSawRun).gauges = s.gauges := by
  simpa only [Prod.mk.injEq] using State.fanSawRun_keep (fun x => (x.pending, x.power, x.clock, x.cfg, x.store, x.storeWrite, x.ports, x.slots, x.inputs, x.claims, x.results, x.queue, x.window, x.gates, x.flash, x.sup, x.seq, x.gauges))
    (fun _ _ => rfl) (fun _ _ => rfl) ..

@[simp] theorem State.fanSawRelease_frame (s : State) :
    (s.fanSawRelease).pending = s.pending ∧
    (s.fanSawRelease).power = s.power ∧
    (s.fanSawRelease).clock = s.clock ∧
    (s.fanSawRelease).cfg = s.cfg ∧
    (s.fanSawRelease).store = s.store ∧
    (s.fanSawRelease).storeWrite = s.storeWrite ∧
    (s.fanSawRelease).ports = s.ports ∧
    (s.fanSawRelease).slots = s.slots ∧
    (s.fanSawRelease).inputs = s.inputs ∧
    (s.fanSawRelease).claims = s.claims ∧
    (s.fanSawRelease).results = s.results ∧
    (s.fanSawRelease).queue = s.queue ∧
    (s.fanSawRelease).window = s.window ∧
    (s.fanSawRelease).gates = s.gates ∧
    (s.fanSawRelease).flash = s.flash ∧
    (s.fanSawRelease).sup = s.sup ∧
    (s.fanSawRelease).seq = s.seq ∧
    (s.fanSawRelease).gauges = s.gauges := by
  simpa only [Prod.mk.injEq] using State.fanSawRelease_keep (fun x => (x.pending, x.power, x.clock, x.cfg, x.store, x.storeWrite, x.ports, x.slots, x.inputs, x.claims, x.results, x.queue, x.window, x.gates, x.flash, x.sup, x.seq, x.gauges))
    (fun _ _ => rfl) (fun _ _ => rfl) ..

@[simp] theorem State.fanCrankEntry_frame (s : State) :
    (s.fanCrankEntry).pending = s.pending ∧
    (s.fanCrankEntry).power = s.power ∧
    (s.fanCrankEntry).clock = s.clock ∧
    (s.fanCrankEntry).cfg = s.cfg ∧
    (s.fanCrankEntry).store = s.store ∧
    (s.fanCrankEntry).storeWrite = s.storeWrite ∧
    (s.fanCrankEntry).ports = s.ports ∧
    (s.fanCrankEntry).slots = s.slots ∧
    (s.fanCrankEntry).inputs = s.inputs ∧
    (s.fanCrankEntry).claims = s.claims ∧
    (s.fanCrankEntry).results = s.results ∧
    (s.fanCrankEntry).queue = s.queue ∧
    (s.fanCrankEntry).window = s.window ∧
    (s.fanCrankEntry).gates = s.gates ∧
    (s.fanCrankEntry).flash = s.flash ∧
    (s.fanCrankEntry).sup = s.sup ∧
    (s.fanCrankEntry).seq = s.seq ∧
    (s.fanCrankEntry).gauges = s.gauges := by
  simpa only [Prod.mk.injEq] using State.fanCrankEntry_keep (fun x => (x.pending, x.power, x.clock, x.cfg, x.store, x.storeWrite, x.ports, x.slots, x.inputs, x.claims, x.results, x.queue, x.window, x.gates, x.flash, x.sup, x.seq, x.gauges))
    (fun _ _ => rfl) (fun _ _ => rfl) ..

@[simp] theorem State.fanCrankExit_frame (s : State) :
    (s.fanCrankExit).pending = s.pending ∧
    (s.fanCrankExit).power = s.power ∧
    (s.fanCrankExit).clock = s.clock ∧
    (s.fanCrankExit).cfg = s.cfg ∧
    (s.fanCrankExit).store = s.store ∧
    (s.fanCrankExit).storeWrite = s.storeWrite ∧
    (s.fanCrankExit).ports = s.ports ∧
    (s.fanCrankExit).slots = s.slots ∧
    (s.fanCrankExit).inputs = s.inputs ∧
    (s.fanCrankExit).claims = s.claims ∧
    (s.fanCrankExit).results = s.results ∧
    (s.fanCrankExit).queue = s.queue ∧
    (s.fanCrankExit).window = s.window ∧
    (s.fanCrankExit).gates = s.gates ∧
    (s.fanCrankExit).flash = s.flash ∧
    (s.fanCrankExit).sup = s.sup ∧
    (s.fanCrankExit).seq = s.seq ∧
    (s.fanCrankExit).gauges = s.gauges := by
  simpa only [Prod.mk.injEq] using State.fanCrankExit_keep (fun x => (x.pending, x.power, x.clock, x.cfg, x.store, x.storeWrite, x.ports, x.slots, x.inputs, x.claims, x.results, x.queue, x.window, x.gates, x.flash, x.sup, x.seq, x.gauges))
    (fun _ _ => rfl) (fun _ _ => rfl) ..

@[simp] theorem State.fanRampStep_frame (s : State) :
    (s.fanRampStep).pending = s.pending ∧
    (s.fanRampStep).power = s.power ∧
    (s.fanRampStep).clock = s.clock ∧
    (s.fanRampStep).cfg = s.cfg ∧
    (s.fanRampStep).store = s.store ∧
    (s.fanRampStep).storeWrite = s.storeWrite ∧
    (s.fanRampStep).ports = s.ports ∧
    (s.fanRampStep).slots = s.slots ∧
    (s.fanRampStep).inputs = s.inputs ∧
    (s.fanRampStep).claims = s.claims ∧
    (s.fanRampStep).results = s.results ∧
    (s.fanRampStep).queue = s.queue ∧
    (s.fanRampStep).window = s.window ∧
    (s.fanRampStep).gates = s.gates ∧
    (s.fanRampStep).flash = s.flash ∧
    (s.fanRampStep).sup = s.sup ∧
    (s.fanRampStep).seq = s.seq ∧
    (s.fanRampStep).gauges = s.gauges := by
  simpa only [Prod.mk.injEq] using State.fanRampStep_keep (fun x => (x.pending, x.power, x.clock, x.cfg, x.store, x.storeWrite, x.ports, x.slots, x.inputs, x.claims, x.results, x.queue, x.window, x.gates, x.flash, x.sup, x.seq, x.gauges))
    (fun _ _ => rfl) (fun _ _ => rfl) ..

@[simp] theorem State.fanSample_frame (s : State) (c : Channel) (mA : Nat) :
    (s.fanSample c mA).pending = s.pending ∧
    (s.fanSample c mA).power = s.power ∧
    (s.fanSample c mA).clock = s.clock ∧
    (s.fanSample c mA).cfg = s.cfg ∧
    (s.fanSample c mA).store = s.store ∧
    (s.fanSample c mA).storeWrite = s.storeWrite ∧
    (s.fanSample c mA).ports = s.ports ∧
    (s.fanSample c mA).slots = s.slots ∧
    (s.fanSample c mA).inputs = s.inputs ∧
    (s.fanSample c mA).claims = s.claims ∧
    (s.fanSample c mA).results = s.results ∧
    (s.fanSample c mA).chans = s.chans ∧
    (s.fanSample c mA).queue = s.queue ∧
    (s.fanSample c mA).window = s.window ∧
    (s.fanSample c mA).gates = s.gates ∧
    (s.fanSample c mA).flash = s.flash ∧
    (s.fanSample c mA).sup = s.sup ∧
    (s.fanSample c mA).seq = s.seq ∧
    (s.fanSample c mA).gauges = s.gauges := by
  simpa only [Prod.mk.injEq] using State.fanSample_keep (fun x => (x.pending, x.power, x.clock, x.cfg, x.store, x.storeWrite, x.ports, x.slots, x.inputs, x.claims, x.results, x.chans, x.queue, x.window, x.gates, x.flash, x.sup, x.seq, x.gauges))
    (fun _ _ => rfl) ..

@[simp] theorem State.dequeue_frame (s : State) (c : Channel) :
    (s.dequeue c).pending = s.pending ∧
    (s.dequeue c).power = s.power ∧
    (s.dequeue c).clock = s.clock ∧
    (s.dequeue c).cfg = s.cfg ∧
    (s.dequeue c).store = s.store ∧
    (s.dequeue c).storeWrite = s.storeWrite ∧
    (s.dequeue c).ports = s.ports ∧
    (s.dequeue c).slots = s.slots ∧
    (s.dequeue c).inputs = s.inputs ∧
    (s.dequeue c).claims = s.claims ∧
    (s.dequeue c).results = s.results ∧
    (s.dequeue c).chans = s.chans ∧
    (s.dequeue c).window = s.window ∧
    (s.dequeue c).gates = s.gates ∧
    (s.dequeue c).flash = s.flash ∧
    (s.dequeue c).sup = s.sup ∧
    (s.dequeue c).seq = s.seq ∧
    (s.dequeue c).gauges = s.gauges ∧
    (s.dequeue c).fan = s.fan := by
  simpa only [Prod.mk.injEq] using State.dequeue_keep (fun x => (x.pending, x.power, x.clock, x.cfg, x.store, x.storeWrite, x.ports, x.slots, x.inputs, x.claims, x.results, x.chans, x.window, x.gates, x.flash, x.sup, x.seq, x.gauges, x.fan))
    (fun _ _ => rfl) ..

@[simp] theorem State.leaveWindow_frame (s : State) (c : Channel) :
    (s.leaveWindow c).pending = s.pending ∧
    (s.leaveWindow c).power = s.power ∧
    (s.leaveWindow c).clock = s.clock ∧
    (s.leaveWindow c).cfg = s.cfg ∧
    (s.leaveWindow c).store = s.store ∧
    (s.leaveWindow c).storeWrite = s.storeWrite ∧
    (s.leaveWindow c).ports = s.ports ∧
    (s.leaveWindow c).slots = s.slots ∧
    (s.leaveWindow c).inputs = s.inputs ∧
    (s.leaveWindow c).claims = s.claims ∧
    (s.leaveWindow c).results = s.results ∧
    (s.leaveWindow c).chans = s.chans ∧
    (s.leaveWindow c).queue = s.queue ∧
    (s.leaveWindow c).gates = s.gates ∧
    (s.leaveWindow c).flash = s.flash ∧
    (s.leaveWindow c).sup = s.sup ∧
    (s.leaveWindow c).seq = s.seq ∧
    (s.leaveWindow c).gauges = s.gauges ∧
    (s.leaveWindow c).fan = s.fan := by
  simpa only [Prod.mk.injEq] using State.leaveWindow_keep (fun x => (x.pending, x.power, x.clock, x.cfg, x.store, x.storeWrite, x.ports, x.slots, x.inputs, x.claims, x.results, x.chans, x.queue, x.gates, x.flash, x.sup, x.seq, x.gauges, x.fan))
    (fun _ _ => rfl) ..

@[simp] theorem State.joinWindow_frame (s : State) (c : Channel) :
    (s.joinWindow c).pending = s.pending ∧
    (s.joinWindow c).power = s.power ∧
    (s.joinWindow c).clock = s.clock ∧
    (s.joinWindow c).cfg = s.cfg ∧
    (s.joinWindow c).store = s.store ∧
    (s.joinWindow c).storeWrite = s.storeWrite ∧
    (s.joinWindow c).ports = s.ports ∧
    (s.joinWindow c).slots = s.slots ∧
    (s.joinWindow c).inputs = s.inputs ∧
    (s.joinWindow c).claims = s.claims ∧
    (s.joinWindow c).results = s.results ∧
    (s.joinWindow c).chans = s.chans ∧
    (s.joinWindow c).queue = s.queue ∧
    (s.joinWindow c).gates = s.gates ∧
    (s.joinWindow c).flash = s.flash ∧
    (s.joinWindow c).sup = s.sup ∧
    (s.joinWindow c).seq = s.seq ∧
    (s.joinWindow c).gauges = s.gauges ∧
    (s.joinWindow c).fan = s.fan := by
  simpa only [Prod.mk.injEq] using State.joinWindow_keep (fun x => (x.pending, x.power, x.clock, x.cfg, x.store, x.storeWrite, x.ports, x.slots, x.inputs, x.claims, x.results, x.chans, x.queue, x.gates, x.flash, x.sup, x.seq, x.gauges, x.fan))
    (fun _ _ => rfl) ..

@[simp] theorem State.admitOne_frame (s : State) (c : Channel) :
    (s.admitOne c).pending = s.pending ∧
    (s.admitOne c).power = s.power ∧
    (s.admitOne c).clock = s.clock ∧
    (s.admitOne c).cfg = s.cfg ∧
    (s.admitOne c).store = s.store ∧
    (s.admitOne c).storeWrite = s.storeWrite ∧
    (s.admitOne c).ports = s.ports ∧
    (s.admitOne c).slots = s.slots ∧
    (s.admitOne c).inputs = s.inputs ∧
    (s.admitOne c).claims = s.claims ∧
    (s.admitOne c).results = s.results ∧
    (s.admitOne c).gates = s.gates ∧
    (s.admitOne c).flash = s.flash ∧
    (s.admitOne c).sup = s.sup ∧
    (s.admitOne c).seq = s.seq ∧
    (s.admitOne c).gauges = s.gauges := by
  simpa only [Prod.mk.injEq] using State.admitOne_keep (fun x => (x.pending, x.power, x.clock, x.cfg, x.store, x.storeWrite, x.ports, x.slots, x.inputs, x.claims, x.results, x.gates, x.flash, x.sup, x.seq, x.gauges))
    (fun _ _ => rfl) (fun _ _ => rfl) (fun _ _ => rfl) (fun _ _ => rfl) ..

@[simp] theorem admitLoop_frame (n : Nat) (s : State) :
    (admitLoop n s).pending = s.pending ∧
    (admitLoop n s).power = s.power ∧
    (admitLoop n s).clock = s.clock ∧
    (admitLoop n s).cfg = s.cfg ∧
    (admitLoop n s).store = s.store ∧
    (admitLoop n s).storeWrite = s.storeWrite ∧
    (admitLoop n s).ports = s.ports ∧
    (admitLoop n s).slots = s.slots ∧
    (admitLoop n s).inputs = s.inputs ∧
    (admitLoop n s).claims = s.claims ∧
    (admitLoop n s).results = s.results ∧
    (admitLoop n s).gates = s.gates ∧
    (admitLoop n s).flash = s.flash ∧
    (admitLoop n s).sup = s.sup ∧
    (admitLoop n s).seq = s.seq ∧
    (admitLoop n s).gauges = s.gauges := by
  simpa only [Prod.mk.injEq] using admitLoop_keep (fun x => (x.pending, x.power, x.clock, x.cfg, x.store, x.storeWrite, x.ports, x.slots, x.inputs, x.claims, x.results, x.gates, x.flash, x.sup, x.seq, x.gauges))
    (fun _ _ => rfl) (fun _ _ => rfl) (fun _ _ => rfl) (fun _ _ => rfl) ..

@[simp] theorem State.admitHeads_frame (s : State) :
    (s.admitHeads).pending = s.pending ∧
    (s.admitHeads).power = s.power ∧
    (s.admitHeads).clock = s.clock ∧
    (s.admitHeads).cfg = s.cfg ∧
    (s.admitHeads).store = s.store ∧
    (s.admitHeads).storeWrite = s.storeWrite ∧
    (s.admitHeads).ports = s.ports ∧
    (s.admitHeads).slots = s.slots ∧
    (s.admitHeads).inputs = s.inputs ∧
    (s.admitHeads).claims = s.claims ∧
    (s.admitHeads).results = s.results ∧
    (s.admitHeads).gates = s.gates ∧
    (s.admitHeads).flash = s.flash ∧
    (s.admitHeads).sup = s.sup ∧
    (s.admitHeads).seq = s.seq ∧
    (s.admitHeads).gauges = s.gauges := by
  simpa only [Prod.mk.injEq] using State.admitHeads_keep (fun x => (x.pending, x.power, x.clock, x.cfg, x.store, x.storeWrite, x.ports, x.slots, x.inputs, x.claims, x.results, x.gates, x.flash, x.sup, x.seq, x.gauges))
    (fun _ _ => rfl) (fun _ _ => rfl) (fun _ _ => rfl) (fun _ _ => rfl) ..

@[simp] theorem State.admitIfNewHead_frame (s : State) (h : Option (Channel × Urgency)) :
    (s.admitIfNewHead h).pending = s.pending ∧
    (s.admitIfNewHead h).power = s.power ∧
    (s.admitIfNewHead h).clock = s.clock ∧
    (s.admitIfNewHead h).cfg = s.cfg ∧
    (s.admitIfNewHead h).store = s.store ∧
    (s.admitIfNewHead h).storeWrite = s.storeWrite ∧
    (s.admitIfNewHead h).ports = s.ports ∧
    (s.admitIfNewHead h).slots = s.slots ∧
    (s.admitIfNewHead h).inputs = s.inputs ∧
    (s.admitIfNewHead h).claims = s.claims ∧
    (s.admitIfNewHead h).results = s.results ∧
    (s.admitIfNewHead h).gates = s.gates ∧
    (s.admitIfNewHead h).flash = s.flash ∧
    (s.admitIfNewHead h).sup = s.sup ∧
    (s.admitIfNewHead h).seq = s.seq ∧
    (s.admitIfNewHead h).gauges = s.gauges := by
  simpa only [Prod.mk.injEq] using State.admitIfNewHead_keep (fun x => (x.pending, x.power, x.clock, x.cfg, x.store, x.storeWrite, x.ports, x.slots, x.inputs, x.claims, x.results, x.gates, x.flash, x.sup, x.seq, x.gauges))
    (fun _ _ => rfl) (fun _ _ => rfl) (fun _ _ => rfl) (fun _ _ => rfl) ..

@[simp] theorem State.join_frame (s : State) (c : Channel) :
    (s.join c).pending = s.pending ∧
    (s.join c).power = s.power ∧
    (s.join c).clock = s.clock ∧
    (s.join c).cfg = s.cfg ∧
    (s.join c).store = s.store ∧
    (s.join c).storeWrite = s.storeWrite ∧
    (s.join c).ports = s.ports ∧
    (s.join c).slots = s.slots ∧
    (s.join c).inputs = s.inputs ∧
    (s.join c).claims = s.claims ∧
    (s.join c).results = s.results ∧
    (s.join c).gates = s.gates ∧
    (s.join c).flash = s.flash ∧
    (s.join c).sup = s.sup ∧
    (s.join c).seq = s.seq ∧
    (s.join c).gauges = s.gauges := by
  simpa only [Prod.mk.injEq] using State.join_keep (fun x => (x.pending, x.power, x.clock, x.cfg, x.store, x.storeWrite, x.ports, x.slots, x.inputs, x.claims, x.results, x.gates, x.flash, x.sup, x.seq, x.gauges))
    (fun _ _ => rfl) (fun _ _ => rfl) (fun _ _ => rfl) (fun _ _ => rfl) ..

@[simp] theorem State.promote_frame (s : State) (c : Channel) :
    (s.promote c).pending = s.pending ∧
    (s.promote c).power = s.power ∧
    (s.promote c).clock = s.clock ∧
    (s.promote c).cfg = s.cfg ∧
    (s.promote c).store = s.store ∧
    (s.promote c).storeWrite = s.storeWrite ∧
    (s.promote c).ports = s.ports ∧
    (s.promote c).slots = s.slots ∧
    (s.promote c).inputs = s.inputs ∧
    (s.promote c).claims = s.claims ∧
    (s.promote c).results = s.results ∧
    (s.promote c).gates = s.gates ∧
    (s.promote c).flash = s.flash ∧
    (s.promote c).sup = s.sup ∧
    (s.promote c).seq = s.seq ∧
    (s.promote c).gauges = s.gauges := by
  simpa only [Prod.mk.injEq] using State.promote_keep (fun x => (x.pending, x.power, x.clock, x.cfg, x.store, x.storeWrite, x.ports, x.slots, x.inputs, x.claims, x.results, x.gates, x.flash, x.sup, x.seq, x.gauges))
    (fun _ _ => rfl) (fun _ _ => rfl) (fun _ _ => rfl) (fun _ _ => rfl) ..

@[simp] theorem State.release_frame (s : State) (c : Channel) :
    (s.release c).pending = s.pending ∧
    (s.release c).power = s.power ∧
    (s.release c).clock = s.clock ∧
    (s.release c).cfg = s.cfg ∧
    (s.release c).store = s.store ∧
    (s.release c).storeWrite = s.storeWrite ∧
    (s.release c).ports = s.ports ∧
    (s.release c).slots = s.slots ∧
    (s.release c).inputs = s.inputs ∧
    (s.release c).claims = s.claims ∧
    (s.release c).results = s.results ∧
    (s.release c).queue = s.queue ∧
    (s.release c).window = s.window ∧
    (s.release c).gates = s.gates ∧
    (s.release c).flash = s.flash ∧
    (s.release c).sup = s.sup ∧
    (s.release c).seq = s.seq ∧
    (s.release c).gauges = s.gauges := by
  simpa only [Prod.mk.injEq] using State.release_keep (fun x => (x.pending, x.power, x.clock, x.cfg, x.store, x.storeWrite, x.ports, x.slots, x.inputs, x.claims, x.results, x.queue, x.window, x.gates, x.flash, x.sup, x.seq, x.gauges))
    (fun _ _ => rfl) (fun _ _ => rfl) ..

@[simp] theorem State.releaseIfDue_frame (s : State) (c : Channel) :
    (s.releaseIfDue c).pending = s.pending ∧
    (s.releaseIfDue c).power = s.power ∧
    (s.releaseIfDue c).clock = s.clock ∧
    (s.releaseIfDue c).cfg = s.cfg ∧
    (s.releaseIfDue c).store = s.store ∧
    (s.releaseIfDue c).storeWrite = s.storeWrite ∧
    (s.releaseIfDue c).ports = s.ports ∧
    (s.releaseIfDue c).slots = s.slots ∧
    (s.releaseIfDue c).inputs = s.inputs ∧
    (s.releaseIfDue c).claims = s.claims ∧
    (s.releaseIfDue c).results = s.results ∧
    (s.releaseIfDue c).queue = s.queue ∧
    (s.releaseIfDue c).window = s.window ∧
    (s.releaseIfDue c).gates = s.gates ∧
    (s.releaseIfDue c).flash = s.flash ∧
    (s.releaseIfDue c).sup = s.sup ∧
    (s.releaseIfDue c).seq = s.seq ∧
    (s.releaseIfDue c).gauges = s.gauges := by
  simpa only [Prod.mk.injEq] using State.releaseIfDue_keep (fun x => (x.pending, x.power, x.clock, x.cfg, x.store, x.storeWrite, x.ports, x.slots, x.inputs, x.claims, x.results, x.queue, x.window, x.gates, x.flash, x.sup, x.seq, x.gauges))
    (fun _ _ => rfl) (fun _ _ => rfl) ..

@[simp] theorem State.trip_frame (s : State) (c : Channel) (k : TripCause) :
    (s.trip c k).pending = s.pending ∧
    (s.trip c k).power = s.power ∧
    (s.trip c k).clock = s.clock ∧
    (s.trip c k).cfg = s.cfg ∧
    (s.trip c k).store = s.store ∧
    (s.trip c k).storeWrite = s.storeWrite ∧
    (s.trip c k).ports = s.ports ∧
    (s.trip c k).inputs = s.inputs ∧
    (s.trip c k).claims = s.claims ∧
    (s.trip c k).results = s.results ∧
    (s.trip c k).flash = s.flash ∧
    (s.trip c k).sup = s.sup ∧
    (s.trip c k).gauges = s.gauges := by
  simpa only [Prod.mk.injEq] using State.trip_keep (fun x => (x.pending, x.power, x.clock, x.cfg, x.store, x.storeWrite, x.ports, x.inputs, x.claims, x.results, x.flash, x.sup, x.gauges))
    (fun _ _ => rfl) (fun _ _ => rfl) (fun _ _ => rfl) (fun _ _ => rfl) (fun _ _ => rfl) (fun _ _ => rfl) (fun _ _ => rfl) ..

@[simp] theorem State.cut_frame (s : State) (c : Channel) :
    (s.cut c).pending = s.pending ∧
    (s.cut c).power = s.power ∧
    (s.cut c).clock = s.clock ∧
    (s.cut c).cfg = s.cfg ∧
    (s.cut c).store = s.store ∧
    (s.cut c).storeWrite = s.storeWrite ∧
    (s.cut c).ports = s.ports ∧
    (s.cut c).slots = s.slots ∧
    (s.cut c).inputs = s.inputs ∧
    (s.cut c).claims = s.claims ∧
    (s.cut c).results = s.results ∧
    (s.cut c).queue = s.queue ∧
    (s.cut c).window = s.window ∧
    (s.cut c).flash = s.flash ∧
    (s.cut c).sup = s.sup ∧
    (s.cut c).gauges = s.gauges ∧
    (s.cut c).fan = s.fan := by
  simpa only [Prod.mk.injEq] using State.cut_keep (fun x => (x.pending, x.power, x.clock, x.cfg, x.store, x.storeWrite, x.ports, x.slots, x.inputs, x.claims, x.results, x.queue, x.window, x.flash, x.sup, x.gauges, x.fan))
    (fun _ _ => rfl) (fun _ _ => rfl) (fun _ _ => rfl) ..

@[simp] theorem State.fanShed_frame (s : State) (o : Nat) :
    (s.fanShed o).pending = s.pending ∧
    (s.fanShed o).power = s.power ∧
    (s.fanShed o).clock = s.clock ∧
    (s.fanShed o).cfg = s.cfg ∧
    (s.fanShed o).store = s.store ∧
    (s.fanShed o).storeWrite = s.storeWrite ∧
    (s.fanShed o).ports = s.ports ∧
    (s.fanShed o).slots = s.slots ∧
    (s.fanShed o).inputs = s.inputs ∧
    (s.fanShed o).claims = s.claims ∧
    (s.fanShed o).results = s.results ∧
    (s.fanShed o).queue = s.queue ∧
    (s.fanShed o).window = s.window ∧
    (s.fanShed o).flash = s.flash ∧
    (s.fanShed o).sup = s.sup ∧
    (s.fanShed o).gauges = s.gauges := by
  simpa only [Prod.mk.injEq] using State.fanShed_keep (fun x => (x.pending, x.power, x.clock, x.cfg, x.store, x.storeWrite, x.ports, x.slots, x.inputs, x.claims, x.results, x.queue, x.window, x.flash, x.sup, x.gauges))
    (fun _ _ => rfl) (fun _ _ => rfl) (fun _ _ => rfl) (fun _ _ => rfl) ..

@[simp] theorem State.bypass_frame (s : State) (c : Channel) :
    (s.bypass c).pending = s.pending ∧
    (s.bypass c).power = s.power ∧
    (s.bypass c).clock = s.clock ∧
    (s.bypass c).cfg = s.cfg ∧
    (s.bypass c).store = s.store ∧
    (s.bypass c).storeWrite = s.storeWrite ∧
    (s.bypass c).ports = s.ports ∧
    (s.bypass c).slots = s.slots ∧
    (s.bypass c).inputs = s.inputs ∧
    (s.bypass c).claims = s.claims ∧
    (s.bypass c).results = s.results ∧
    (s.bypass c).gates = s.gates ∧
    (s.bypass c).flash = s.flash ∧
    (s.bypass c).sup = s.sup ∧
    (s.bypass c).seq = s.seq ∧
    (s.bypass c).gauges = s.gauges ∧
    (s.bypass c).fan = s.fan := by
  simpa only [Prod.mk.injEq] using State.bypass_keep (fun x => (x.pending, x.power, x.clock, x.cfg, x.store, x.storeWrite, x.ports, x.slots, x.inputs, x.claims, x.results, x.gates, x.flash, x.sup, x.seq, x.gauges, x.fan))
    (fun _ _ => rfl) (fun _ _ => rfl) (fun _ _ => rfl) ..

@[simp] theorem State.takeOff_frame (s : State) (c : Channel) :
    (s.takeOff c).pending = s.pending ∧
    (s.takeOff c).power = s.power ∧
    (s.takeOff c).clock = s.clock ∧
    (s.takeOff c).cfg = s.cfg ∧
    (s.takeOff c).store = s.store ∧
    (s.takeOff c).storeWrite = s.storeWrite ∧
    (s.takeOff c).ports = s.ports ∧
    (s.takeOff c).slots = s.slots ∧
    (s.takeOff c).inputs = s.inputs ∧
    (s.takeOff c).claims = s.claims ∧
    (s.takeOff c).results = s.results ∧
    (s.takeOff c).flash = s.flash ∧
    (s.takeOff c).sup = s.sup ∧
    (s.takeOff c).seq = s.seq ∧
    (s.takeOff c).gauges = s.gauges ∧
    (s.takeOff c).fan = s.fan := by
  simpa only [Prod.mk.injEq] using State.takeOff_keep (fun x => (x.pending, x.power, x.clock, x.cfg, x.store, x.storeWrite, x.ports, x.slots, x.inputs, x.claims, x.results, x.flash, x.sup, x.seq, x.gauges, x.fan))
    (fun _ _ => rfl) (fun _ _ => rfl) (fun _ _ => rfl) (fun _ _ => rfl) ..

@[simp] theorem State.takeUp_frame (s : State) (c : Channel) :
    (s.takeUp c).pending = s.pending ∧
    (s.takeUp c).power = s.power ∧
    (s.takeUp c).clock = s.clock ∧
    (s.takeUp c).cfg = s.cfg ∧
    (s.takeUp c).store = s.store ∧
    (s.takeUp c).storeWrite = s.storeWrite ∧
    (s.takeUp c).ports = s.ports ∧
    (s.takeUp c).slots = s.slots ∧
    (s.takeUp c).inputs = s.inputs ∧
    (s.takeUp c).claims = s.claims ∧
    (s.takeUp c).results = s.results ∧
    (s.takeUp c).flash = s.flash ∧
    (s.takeUp c).sup = s.sup ∧
    (s.takeUp c).seq = s.seq ∧
    (s.takeUp c).gauges = s.gauges ∧
    (s.takeUp c).fan = s.fan := by
  simpa only [Prod.mk.injEq] using State.takeUp_keep (fun x => (x.pending, x.power, x.clock, x.cfg, x.store, x.storeWrite, x.ports, x.slots, x.inputs, x.claims, x.results, x.flash, x.sup, x.seq, x.gauges, x.fan))
    (fun _ _ => rfl) (fun _ _ => rfl) (fun _ _ => rfl) (fun _ _ => rfl) ..

@[simp] theorem State.takeUpAll_frame (s : State) :
    (s.takeUpAll).pending = s.pending ∧
    (s.takeUpAll).power = s.power ∧
    (s.takeUpAll).clock = s.clock ∧
    (s.takeUpAll).cfg = s.cfg ∧
    (s.takeUpAll).store = s.store ∧
    (s.takeUpAll).storeWrite = s.storeWrite ∧
    (s.takeUpAll).ports = s.ports ∧
    (s.takeUpAll).slots = s.slots ∧
    (s.takeUpAll).inputs = s.inputs ∧
    (s.takeUpAll).claims = s.claims ∧
    (s.takeUpAll).results = s.results ∧
    (s.takeUpAll).flash = s.flash ∧
    (s.takeUpAll).sup = s.sup ∧
    (s.takeUpAll).seq = s.seq ∧
    (s.takeUpAll).gauges = s.gauges := by
  simpa only [Prod.mk.injEq] using State.takeUpAll_keep (fun x => (x.pending, x.power, x.clock, x.cfg, x.store, x.storeWrite, x.ports, x.slots, x.inputs, x.claims, x.results, x.flash, x.sup, x.seq, x.gauges))
    (fun _ _ => rfl) (fun _ _ => rfl) (fun _ _ => rfl) (fun _ _ => rfl) (fun _ _ => rfl) ..

@[simp] theorem State.inrushExpire_frame (s : State) (c : Channel) :
    (s.inrushExpire c).pending = s.pending ∧
    (s.inrushExpire c).power = s.power ∧
    (s.inrushExpire c).clock = s.clock ∧
    (s.inrushExpire c).cfg = s.cfg ∧
    (s.inrushExpire c).store = s.store ∧
    (s.inrushExpire c).storeWrite = s.storeWrite ∧
    (s.inrushExpire c).ports = s.ports ∧
    (s.inrushExpire c).slots = s.slots ∧
    (s.inrushExpire c).inputs = s.inputs ∧
    (s.inrushExpire c).claims = s.claims ∧
    (s.inrushExpire c).results = s.results ∧
    (s.inrushExpire c).gates = s.gates ∧
    (s.inrushExpire c).flash = s.flash ∧
    (s.inrushExpire c).sup = s.sup ∧
    (s.inrushExpire c).seq = s.seq ∧
    (s.inrushExpire c).gauges = s.gauges := by
  simpa only [Prod.mk.injEq] using State.inrushExpire_keep (fun x => (x.pending, x.power, x.clock, x.cfg, x.store, x.storeWrite, x.ports, x.slots, x.inputs, x.claims, x.results, x.gates, x.flash, x.sup, x.seq, x.gauges))
    (fun _ _ => rfl) (fun _ _ => rfl) (fun _ _ => rfl) (fun _ _ => rfl) ..

@[simp] theorem State.runCountReach_frame (s : State) (c : Channel) :
    (s.runCountReach c).pending = s.pending ∧
    (s.runCountReach c).power = s.power ∧
    (s.runCountReach c).clock = s.clock ∧
    (s.runCountReach c).cfg = s.cfg ∧
    (s.runCountReach c).store = s.store ∧
    (s.runCountReach c).storeWrite = s.storeWrite ∧
    (s.runCountReach c).ports = s.ports ∧
    (s.runCountReach c).slots = s.slots ∧
    (s.runCountReach c).inputs = s.inputs ∧
    (s.runCountReach c).claims = s.claims ∧
    (s.runCountReach c).results = s.results ∧
    (s.runCountReach c).queue = s.queue ∧
    (s.runCountReach c).window = s.window ∧
    (s.runCountReach c).gates = s.gates ∧
    (s.runCountReach c).flash = s.flash ∧
    (s.runCountReach c).sup = s.sup ∧
    (s.runCountReach c).seq = s.seq ∧
    (s.runCountReach c).gauges = s.gauges ∧
    (s.runCountReach c).fan = s.fan := by
  simpa only [Prod.mk.injEq] using State.runCountReach_keep (fun x => (x.pending, x.power, x.clock, x.cfg, x.store, x.storeWrite, x.ports, x.slots, x.inputs, x.claims, x.results, x.queue, x.window, x.gates, x.flash, x.sup, x.seq, x.gauges, x.fan))
    (fun _ _ => rfl) ..

@[simp] theorem State.coolOffExpire_frame (s : State) (c : Channel) :
    (s.coolOffExpire c).pending = s.pending ∧
    (s.coolOffExpire c).power = s.power ∧
    (s.coolOffExpire c).clock = s.clock ∧
    (s.coolOffExpire c).cfg = s.cfg ∧
    (s.coolOffExpire c).store = s.store ∧
    (s.coolOffExpire c).storeWrite = s.storeWrite ∧
    (s.coolOffExpire c).ports = s.ports ∧
    (s.coolOffExpire c).slots = s.slots ∧
    (s.coolOffExpire c).inputs = s.inputs ∧
    (s.coolOffExpire c).claims = s.claims ∧
    (s.coolOffExpire c).results = s.results ∧
    (s.coolOffExpire c).gates = s.gates ∧
    (s.coolOffExpire c).flash = s.flash ∧
    (s.coolOffExpire c).sup = s.sup ∧
    (s.coolOffExpire c).seq = s.seq ∧
    (s.coolOffExpire c).gauges = s.gauges := by
  simpa only [Prod.mk.injEq] using State.coolOffExpire_keep (fun x => (x.pending, x.power, x.clock, x.cfg, x.store, x.storeWrite, x.ports, x.slots, x.inputs, x.claims, x.results, x.gates, x.flash, x.sup, x.seq, x.gauges))
    (fun _ _ => rfl) (fun _ _ => rfl) (fun _ _ => rfl) (fun _ _ => rfl) ..

@[simp] theorem State.openLoad_frame (s : State) (c : Channel) (mA : Nat) :
    (s.openLoad c mA).pending = s.pending ∧
    (s.openLoad c mA).power = s.power ∧
    (s.openLoad c mA).clock = s.clock ∧
    (s.openLoad c mA).cfg = s.cfg ∧
    (s.openLoad c mA).store = s.store ∧
    (s.openLoad c mA).storeWrite = s.storeWrite ∧
    (s.openLoad c mA).ports = s.ports ∧
    (s.openLoad c mA).slots = s.slots ∧
    (s.openLoad c mA).inputs = s.inputs ∧
    (s.openLoad c mA).claims = s.claims ∧
    (s.openLoad c mA).results = s.results ∧
    (s.openLoad c mA).queue = s.queue ∧
    (s.openLoad c mA).window = s.window ∧
    (s.openLoad c mA).gates = s.gates ∧
    (s.openLoad c mA).flash = s.flash ∧
    (s.openLoad c mA).sup = s.sup ∧
    (s.openLoad c mA).seq = s.seq ∧
    (s.openLoad c mA).gauges = s.gauges ∧
    (s.openLoad c mA).fan = s.fan := by
  simpa only [Prod.mk.injEq] using State.openLoad_keep (fun x => (x.pending, x.power, x.clock, x.cfg, x.store, x.storeWrite, x.ports, x.slots, x.inputs, x.claims, x.results, x.queue, x.window, x.gates, x.flash, x.sup, x.seq, x.gauges, x.fan))
    (fun _ _ => rfl) ..

@[simp] theorem State.bulbSet_frame (s : State) (c : Channel) :
    (s.bulbSet c).pending = s.pending ∧
    (s.bulbSet c).power = s.power ∧
    (s.bulbSet c).clock = s.clock ∧
    (s.bulbSet c).cfg = s.cfg ∧
    (s.bulbSet c).store = s.store ∧
    (s.bulbSet c).storeWrite = s.storeWrite ∧
    (s.bulbSet c).ports = s.ports ∧
    (s.bulbSet c).inputs = s.inputs ∧
    (s.bulbSet c).claims = s.claims ∧
    (s.bulbSet c).results = s.results ∧
    (s.bulbSet c).queue = s.queue ∧
    (s.bulbSet c).window = s.window ∧
    (s.bulbSet c).gates = s.gates ∧
    (s.bulbSet c).flash = s.flash ∧
    (s.bulbSet c).sup = s.sup ∧
    (s.bulbSet c).seq = s.seq ∧
    (s.bulbSet c).gauges = s.gauges ∧
    (s.bulbSet c).fan = s.fan := by
  simpa only [Prod.mk.injEq] using State.bulbSet_keep (fun x => (x.pending, x.power, x.clock, x.cfg, x.store, x.storeWrite, x.ports, x.inputs, x.claims, x.results, x.queue, x.window, x.gates, x.flash, x.sup, x.seq, x.gauges, x.fan))
    (fun _ _ => rfl) (fun _ _ => rfl) ..

@[simp] theorem State.bulbClear_frame (s : State) (c : Channel) :
    (s.bulbClear c).pending = s.pending ∧
    (s.bulbClear c).power = s.power ∧
    (s.bulbClear c).clock = s.clock ∧
    (s.bulbClear c).cfg = s.cfg ∧
    (s.bulbClear c).store = s.store ∧
    (s.bulbClear c).storeWrite = s.storeWrite ∧
    (s.bulbClear c).ports = s.ports ∧
    (s.bulbClear c).inputs = s.inputs ∧
    (s.bulbClear c).claims = s.claims ∧
    (s.bulbClear c).results = s.results ∧
    (s.bulbClear c).queue = s.queue ∧
    (s.bulbClear c).window = s.window ∧
    (s.bulbClear c).gates = s.gates ∧
    (s.bulbClear c).flash = s.flash ∧
    (s.bulbClear c).sup = s.sup ∧
    (s.bulbClear c).seq = s.seq ∧
    (s.bulbClear c).gauges = s.gauges ∧
    (s.bulbClear c).fan = s.fan := by
  simpa only [Prod.mk.injEq] using State.bulbClear_keep (fun x => (x.pending, x.power, x.clock, x.cfg, x.store, x.storeWrite, x.ports, x.inputs, x.claims, x.results, x.queue, x.window, x.gates, x.flash, x.sup, x.seq, x.gauges, x.fan))
    (fun _ _ => rfl) (fun _ _ => rfl) ..

@[simp] theorem State.stallReport_frame (s : State) :
    (s.stallReport).pending = s.pending ∧
    (s.stallReport).power = s.power ∧
    (s.stallReport).clock = s.clock ∧
    (s.stallReport).cfg = s.cfg ∧
    (s.stallReport).store = s.store ∧
    (s.stallReport).storeWrite = s.storeWrite ∧
    (s.stallReport).ports = s.ports ∧
    (s.stallReport).inputs = s.inputs ∧
    (s.stallReport).claims = s.claims ∧
    (s.stallReport).results = s.results ∧
    (s.stallReport).flash = s.flash ∧
    (s.stallReport).sup = s.sup ∧
    (s.stallReport).gauges = s.gauges := by
  simpa only [Prod.mk.injEq] using State.stallReport_keep (fun x => (x.pending, x.power, x.clock, x.cfg, x.store, x.storeWrite, x.ports, x.inputs, x.claims, x.results, x.flash, x.sup, x.gauges))
    (fun _ _ => rfl) (fun _ _ => rfl) (fun _ _ => rfl) (fun _ _ => rfl) (fun _ _ => rfl) (fun _ _ => rfl) (fun _ _ => rfl) ..

@[simp] theorem State.writeMarks_frame (s : State) (c : Channel) (a b : Bool) :
    (s.writeMarks c a b).pending = s.pending ∧
    (s.writeMarks c a b).power = s.power ∧
    (s.writeMarks c a b).clock = s.clock ∧
    (s.writeMarks c a b).cfg = s.cfg ∧
    (s.writeMarks c a b).store = s.store ∧
    (s.writeMarks c a b).storeWrite = s.storeWrite ∧
    (s.writeMarks c a b).ports = s.ports ∧
    (s.writeMarks c a b).slots = s.slots ∧
    (s.writeMarks c a b).inputs = s.inputs ∧
    (s.writeMarks c a b).claims = s.claims ∧
    (s.writeMarks c a b).results = s.results ∧
    (s.writeMarks c a b).gates = s.gates ∧
    (s.writeMarks c a b).flash = s.flash ∧
    (s.writeMarks c a b).sup = s.sup ∧
    (s.writeMarks c a b).seq = s.seq ∧
    (s.writeMarks c a b).gauges = s.gauges := by
  simpa only [Prod.mk.injEq] using State.writeMarks_keep (fun x => (x.pending, x.power, x.clock, x.cfg, x.store, x.storeWrite, x.ports, x.slots, x.inputs, x.claims, x.results, x.gates, x.flash, x.sup, x.seq, x.gauges))
    (fun _ _ => rfl) (fun _ _ => rfl) (fun _ _ => rfl) (fun _ _ => rfl) ..

@[simp] theorem State.recompute_frame (s : State) (c : Channel) :
    (s.recompute c).pending = s.pending ∧
    (s.recompute c).power = s.power ∧
    (s.recompute c).clock = s.clock ∧
    (s.recompute c).cfg = s.cfg ∧
    (s.recompute c).store = s.store ∧
    (s.recompute c).storeWrite = s.storeWrite ∧
    (s.recompute c).ports = s.ports ∧
    (s.recompute c).slots = s.slots ∧
    (s.recompute c).inputs = s.inputs ∧
    (s.recompute c).claims = s.claims ∧
    (s.recompute c).results = s.results ∧
    (s.recompute c).gates = s.gates ∧
    (s.recompute c).flash = s.flash ∧
    (s.recompute c).sup = s.sup ∧
    (s.recompute c).seq = s.seq ∧
    (s.recompute c).gauges = s.gauges := by
  simpa only [Prod.mk.injEq] using State.recompute_keep (fun x => (x.pending, x.power, x.clock, x.cfg, x.store, x.storeWrite, x.ports, x.slots, x.inputs, x.claims, x.results, x.gates, x.flash, x.sup, x.seq, x.gauges))
    (fun _ _ => rfl) (fun _ _ => rfl) (fun _ _ => rfl) (fun _ _ => rfl) ..

@[simp] theorem State.recomputeWhere_frame (s : State) (q : Channel → Bool) :
    (s.recomputeWhere q).pending = s.pending ∧
    (s.recomputeWhere q).power = s.power ∧
    (s.recomputeWhere q).clock = s.clock ∧
    (s.recomputeWhere q).cfg = s.cfg ∧
    (s.recomputeWhere q).store = s.store ∧
    (s.recomputeWhere q).storeWrite = s.storeWrite ∧
    (s.recomputeWhere q).ports = s.ports ∧
    (s.recomputeWhere q).slots = s.slots ∧
    (s.recomputeWhere q).inputs = s.inputs ∧
    (s.recomputeWhere q).claims = s.claims ∧
    (s.recomputeWhere q).results = s.results ∧
    (s.recomputeWhere q).gates = s.gates ∧
    (s.recomputeWhere q).flash = s.flash ∧
    (s.recomputeWhere q).sup = s.sup ∧
    (s.recomputeWhere q).seq = s.seq ∧
    (s.recomputeWhere q).gauges = s.gauges := by
  simpa only [Prod.mk.injEq] using State.recomputeWhere_keep (fun x => (x.pending, x.power, x.clock, x.cfg, x.store, x.storeWrite, x.ports, x.slots, x.inputs, x.claims, x.results, x.gates, x.flash, x.sup, x.seq, x.gauges))
    (fun _ _ => rfl) (fun _ _ => rfl) (fun _ _ => rfl) (fun _ _ => rfl) ..

@[simp] theorem State.composeFor_frame (s : State) (f : Fn) (b : Bool) :
    (s.composeFor f b).pending = s.pending ∧
    (s.composeFor f b).power = s.power ∧
    (s.composeFor f b).clock = s.clock ∧
    (s.composeFor f b).cfg = s.cfg ∧
    (s.composeFor f b).store = s.store ∧
    (s.composeFor f b).storeWrite = s.storeWrite ∧
    (s.composeFor f b).ports = s.ports ∧
    (s.composeFor f b).slots = s.slots ∧
    (s.composeFor f b).inputs = s.inputs ∧
    (s.composeFor f b).claims = s.claims ∧
    (s.composeFor f b).results = s.results ∧
    (s.composeFor f b).gates = s.gates ∧
    (s.composeFor f b).flash = s.flash ∧
    (s.composeFor f b).sup = s.sup ∧
    (s.composeFor f b).seq = s.seq ∧
    (s.composeFor f b).gauges = s.gauges := by
  simpa only [Prod.mk.injEq] using State.composeFor_keep (fun x => (x.pending, x.power, x.clock, x.cfg, x.store, x.storeWrite, x.ports, x.slots, x.inputs, x.claims, x.results, x.gates, x.flash, x.sup, x.seq, x.gauges))
    (fun _ _ => rfl) (fun _ _ => rfl) (fun _ _ => rfl) (fun _ _ => rfl) ..

@[simp] theorem State.startTick_frame (s : State) :
    (s.startTick).pending = s.pending ∧
    (s.startTick).power = s.power ∧
    (s.startTick).clock = s.clock ∧
    (s.startTick).cfg = s.cfg ∧
    (s.startTick).store = s.store ∧
    (s.startTick).storeWrite = s.storeWrite ∧
    (s.startTick).ports = s.ports ∧
    (s.startTick).slots = s.slots ∧
    (s.startTick).inputs = s.inputs ∧
    (s.startTick).claims = s.claims ∧
    (s.startTick).results = s.results ∧
    (s.startTick).chans = s.chans ∧
    (s.startTick).queue = s.queue ∧
    (s.startTick).window = s.window ∧
    (s.startTick).gates = s.gates ∧
    (s.startTick).sup = s.sup ∧
    (s.startTick).seq = s.seq ∧
    (s.startTick).gauges = s.gauges ∧
    (s.startTick).fan = s.fan := by
  simpa only [Prod.mk.injEq] using State.startTick_keep (fun x => (x.pending, x.power, x.clock, x.cfg, x.store, x.storeWrite, x.ports, x.slots, x.inputs, x.claims, x.results, x.chans, x.queue, x.window, x.gates, x.sup, x.seq, x.gauges, x.fan))
    (fun _ _ => rfl) ..

@[simp] theorem State.composeFollowers_frame (s : State) :
    (s.composeFollowers).pending = s.pending ∧
    (s.composeFollowers).power = s.power ∧
    (s.composeFollowers).clock = s.clock ∧
    (s.composeFollowers).cfg = s.cfg ∧
    (s.composeFollowers).store = s.store ∧
    (s.composeFollowers).storeWrite = s.storeWrite ∧
    (s.composeFollowers).ports = s.ports ∧
    (s.composeFollowers).slots = s.slots ∧
    (s.composeFollowers).inputs = s.inputs ∧
    (s.composeFollowers).claims = s.claims ∧
    (s.composeFollowers).results = s.results ∧
    (s.composeFollowers).gates = s.gates ∧
    (s.composeFollowers).flash = s.flash ∧
    (s.composeFollowers).sup = s.sup ∧
    (s.composeFollowers).seq = s.seq ∧
    (s.composeFollowers).gauges = s.gauges := by
  simpa only [Prod.mk.injEq] using State.composeFollowers_keep (fun x => (x.pending, x.power, x.clock, x.cfg, x.store, x.storeWrite, x.ports, x.slots, x.inputs, x.claims, x.results, x.gates, x.flash, x.sup, x.seq, x.gauges))
    (fun _ _ => rfl) (fun _ _ => rfl) (fun _ _ => rfl) (fun _ _ => rfl) ..

@[simp] theorem State.enterOn_frame (s : State) (e : Bool) :
    (s.enterOn e).pending = s.pending ∧
    (s.enterOn e).power = s.power ∧
    (s.enterOn e).clock = s.clock ∧
    (s.enterOn e).cfg = s.cfg ∧
    (s.enterOn e).store = s.store ∧
    (s.enterOn e).storeWrite = s.storeWrite ∧
    (s.enterOn e).ports = s.ports ∧
    (s.enterOn e).inputs = s.inputs ∧
    (s.enterOn e).claims = s.claims ∧
    (s.enterOn e).results = s.results ∧
    (s.enterOn e).gates = s.gates ∧
    (s.enterOn e).sup = s.sup ∧
    (s.enterOn e).seq = s.seq ∧
    (s.enterOn e).gauges = s.gauges := by
  simpa only [Prod.mk.injEq] using State.enterOn_keep (fun x => (x.pending, x.power, x.clock, x.cfg, x.store, x.storeWrite, x.ports, x.inputs, x.claims, x.results, x.gates, x.sup, x.seq, x.gauges))
    (fun _ _ => rfl) (fun _ _ => rfl) (fun _ _ => rfl) (fun _ _ => rfl) (fun _ _ => rfl) (fun _ _ => rfl) ..

@[simp] theorem State.enterOff_frame (s : State) (cy : Cycle) (e : Bool) :
    (s.enterOff cy e).pending = s.pending ∧
    (s.enterOff cy e).power = s.power ∧
    (s.enterOff cy e).clock = s.clock ∧
    (s.enterOff cy e).cfg = s.cfg ∧
    (s.enterOff cy e).store = s.store ∧
    (s.enterOff cy e).storeWrite = s.storeWrite ∧
    (s.enterOff cy e).ports = s.ports ∧
    (s.enterOff cy e).slots = s.slots ∧
    (s.enterOff cy e).inputs = s.inputs ∧
    (s.enterOff cy e).claims = s.claims ∧
    (s.enterOff cy e).results = s.results ∧
    (s.enterOff cy e).gates = s.gates ∧
    (s.enterOff cy e).sup = s.sup ∧
    (s.enterOff cy e).seq = s.seq ∧
    (s.enterOff cy e).gauges = s.gauges := by
  simpa only [Prod.mk.injEq] using State.enterOff_keep (fun x => (x.pending, x.power, x.clock, x.cfg, x.store, x.storeWrite, x.ports, x.slots, x.inputs, x.claims, x.results, x.gates, x.sup, x.seq, x.gauges))
    (fun _ _ => rfl) (fun _ _ => rfl) (fun _ _ => rfl) (fun _ _ => rfl) (fun _ _ => rfl) ..

@[simp] theorem State.flashTest_frame (s : State) :
    (s.flashTest).pending = s.pending ∧
    (s.flashTest).power = s.power ∧
    (s.flashTest).clock = s.clock ∧
    (s.flashTest).cfg = s.cfg ∧
    (s.flashTest).store = s.store ∧
    (s.flashTest).storeWrite = s.storeWrite ∧
    (s.flashTest).ports = s.ports ∧
    (s.flashTest).slots = s.slots ∧
    (s.flashTest).inputs = s.inputs ∧
    (s.flashTest).claims = s.claims ∧
    (s.flashTest).results = s.results ∧
    (s.flashTest).gates = s.gates ∧
    (s.flashTest).sup = s.sup ∧
    (s.flashTest).seq = s.seq ∧
    (s.flashTest).gauges = s.gauges := by
  simpa only [Prod.mk.injEq] using State.flashTest_keep (fun x => (x.pending, x.power, x.clock, x.cfg, x.store, x.storeWrite, x.ports, x.slots, x.inputs, x.claims, x.results, x.gates, x.sup, x.seq, x.gauges))
    (fun _ _ => rfl) (fun _ _ => rfl) (fun _ _ => rfl) (fun _ _ => rfl) (fun _ _ => rfl) ..

@[simp] theorem State.endTick_frame (s : State) :
    (s.endTick).pending = s.pending ∧
    (s.endTick).power = s.power ∧
    (s.endTick).clock = s.clock ∧
    (s.endTick).cfg = s.cfg ∧
    (s.endTick).store = s.store ∧
    (s.endTick).storeWrite = s.storeWrite ∧
    (s.endTick).ports = s.ports ∧
    (s.endTick).slots = s.slots ∧
    (s.endTick).inputs = s.inputs ∧
    (s.endTick).claims = s.claims ∧
    (s.endTick).results = s.results ∧
    (s.endTick).chans = s.chans ∧
    (s.endTick).queue = s.queue ∧
    (s.endTick).window = s.window ∧
    (s.endTick).gates = s.gates ∧
    (s.endTick).sup = s.sup ∧
    (s.endTick).seq = s.seq ∧
    (s.endTick).gauges = s.gauges ∧
    (s.endTick).fan = s.fan := by
  simpa only [Prod.mk.injEq] using State.endTick_keep (fun x => (x.pending, x.power, x.clock, x.cfg, x.store, x.storeWrite, x.ports, x.slots, x.inputs, x.claims, x.results, x.chans, x.queue, x.window, x.gates, x.sup, x.seq, x.gauges, x.fan))
    (fun _ _ => rfl) ..

@[simp] theorem State.countFlash_frame (s : State) :
    (s.countFlash).pending = s.pending ∧
    (s.countFlash).power = s.power ∧
    (s.countFlash).clock = s.clock ∧
    (s.countFlash).cfg = s.cfg ∧
    (s.countFlash).store = s.store ∧
    (s.countFlash).storeWrite = s.storeWrite ∧
    (s.countFlash).ports = s.ports ∧
    (s.countFlash).slots = s.slots ∧
    (s.countFlash).inputs = s.inputs ∧
    (s.countFlash).claims = s.claims ∧
    (s.countFlash).results = s.results ∧
    (s.countFlash).chans = s.chans ∧
    (s.countFlash).queue = s.queue ∧
    (s.countFlash).window = s.window ∧
    (s.countFlash).gates = s.gates ∧
    (s.countFlash).sup = s.sup ∧
    (s.countFlash).seq = s.seq ∧
    (s.countFlash).gauges = s.gauges ∧
    (s.countFlash).fan = s.fan := by
  simpa only [Prod.mk.injEq] using State.countFlash_keep (fun x => (x.pending, x.power, x.clock, x.cfg, x.store, x.storeWrite, x.ports, x.slots, x.inputs, x.claims, x.results, x.chans, x.queue, x.window, x.gates, x.sup, x.seq, x.gauges, x.fan))
    (fun _ _ => rfl) ..

@[simp] theorem State.handOn_frame (s : State) (f : Fn) (b : Bool) :
    (s.handOn f b).pending = s.pending ∧
    (s.handOn f b).power = s.power ∧
    (s.handOn f b).clock = s.clock ∧
    (s.handOn f b).cfg = s.cfg ∧
    (s.handOn f b).store = s.store ∧
    (s.handOn f b).storeWrite = s.storeWrite ∧
    (s.handOn f b).ports = s.ports ∧
    (s.handOn f b).slots = s.slots ∧
    (s.handOn f b).inputs = s.inputs ∧
    (s.handOn f b).claims = s.claims ∧
    (s.handOn f b).results = s.results ∧
    (s.handOn f b).gates = s.gates ∧
    (s.handOn f b).sup = s.sup ∧
    (s.handOn f b).seq = s.seq ∧
    (s.handOn f b).gauges = s.gauges := by
  simpa only [Prod.mk.injEq] using State.handOn_keep (fun x => (x.pending, x.power, x.clock, x.cfg, x.store, x.storeWrite, x.ports, x.slots, x.inputs, x.claims, x.results, x.gates, x.sup, x.seq, x.gauges))
    (fun _ _ => rfl) (fun _ _ => rfl) (fun _ _ => rfl) (fun _ _ => rfl) (fun _ _ => rfl) ..

@[simp] theorem State.reevaluate_frame (s : State) (f : Fn) :
    (s.reevaluate f).pending = s.pending ∧
    (s.reevaluate f).power = s.power ∧
    (s.reevaluate f).clock = s.clock ∧
    (s.reevaluate f).cfg = s.cfg ∧
    (s.reevaluate f).store = s.store ∧
    (s.reevaluate f).storeWrite = s.storeWrite ∧
    (s.reevaluate f).ports = s.ports ∧
    (s.reevaluate f).slots = s.slots ∧
    (s.reevaluate f).inputs = s.inputs ∧
    (s.reevaluate f).claims = s.claims ∧
    (s.reevaluate f).gates = s.gates ∧
    (s.reevaluate f).sup = s.sup ∧
    (s.reevaluate f).seq = s.seq ∧
    (s.reevaluate f).gauges = s.gauges := by
  simpa only [Prod.mk.injEq] using State.reevaluate_keep (fun x => (x.pending, x.power, x.clock, x.cfg, x.store, x.storeWrite, x.ports, x.slots, x.inputs, x.claims, x.gates, x.sup, x.seq, x.gauges))
    (fun _ _ => rfl) (fun _ _ => rfl) (fun _ _ => rfl) (fun _ _ => rfl) (fun _ _ => rfl) (fun _ _ => rfl) ..

@[simp] theorem State.reevaluateAll_frame (s : State) (fs : List Fn) :
    (s.reevaluateAll fs).pending = s.pending ∧
    (s.reevaluateAll fs).power = s.power ∧
    (s.reevaluateAll fs).clock = s.clock ∧
    (s.reevaluateAll fs).cfg = s.cfg ∧
    (s.reevaluateAll fs).store = s.store ∧
    (s.reevaluateAll fs).storeWrite = s.storeWrite ∧
    (s.reevaluateAll fs).ports = s.ports ∧
    (s.reevaluateAll fs).slots = s.slots ∧
    (s.reevaluateAll fs).inputs = s.inputs ∧
    (s.reevaluateAll fs).claims = s.claims ∧
    (s.reevaluateAll fs).gates = s.gates ∧
    (s.reevaluateAll fs).sup = s.sup ∧
    (s.reevaluateAll fs).seq = s.seq ∧
    (s.reevaluateAll fs).gauges = s.gauges := by
  simpa only [Prod.mk.injEq] using State.reevaluateAll_keep (fun x => (x.pending, x.power, x.clock, x.cfg, x.store, x.storeWrite, x.ports, x.slots, x.inputs, x.claims, x.gates, x.sup, x.seq, x.gauges))
    (fun _ _ => rfl) (fun _ _ => rfl) (fun _ _ => rfl) (fun _ _ => rfl) (fun _ _ => rfl) (fun _ _ => rfl) ..

@[simp] theorem State.writeCell_frame (s : State) (f : Fn) (k : Claimant) (v : Option Claim) :
    (s.writeCell f k v).pending = s.pending ∧
    (s.writeCell f k v).power = s.power ∧
    (s.writeCell f k v).clock = s.clock ∧
    (s.writeCell f k v).cfg = s.cfg ∧
    (s.writeCell f k v).store = s.store ∧
    (s.writeCell f k v).storeWrite = s.storeWrite ∧
    (s.writeCell f k v).ports = s.ports ∧
    (s.writeCell f k v).slots = s.slots ∧
    (s.writeCell f k v).inputs = s.inputs ∧
    (s.writeCell f k v).gates = s.gates ∧
    (s.writeCell f k v).sup = s.sup ∧
    (s.writeCell f k v).seq = s.seq ∧
    (s.writeCell f k v).gauges = s.gauges := by
  simpa only [Prod.mk.injEq] using State.writeCell_keep (fun x => (x.pending, x.power, x.clock, x.cfg, x.store, x.storeWrite, x.ports, x.slots, x.inputs, x.gates, x.sup, x.seq, x.gauges))
    (fun _ _ => rfl) (fun _ _ => rfl) (fun _ _ => rfl) (fun _ _ => rfl) (fun _ _ => rfl) (fun _ _ => rfl) (fun _ _ => rfl) ..

@[simp] theorem State.ignitionChanged_frame (s : State) :
    (s.ignitionChanged).pending = s.pending ∧
    (s.ignitionChanged).power = s.power ∧
    (s.ignitionChanged).clock = s.clock ∧
    (s.ignitionChanged).cfg = s.cfg ∧
    (s.ignitionChanged).store = s.store ∧
    (s.ignitionChanged).storeWrite = s.storeWrite ∧
    (s.ignitionChanged).ports = s.ports ∧
    (s.ignitionChanged).slots = s.slots ∧
    (s.ignitionChanged).inputs = s.inputs ∧
    (s.ignitionChanged).claims = s.claims ∧
    (s.ignitionChanged).gates = s.gates ∧
    (s.ignitionChanged).sup = s.sup ∧
    (s.ignitionChanged).seq = s.seq ∧
    (s.ignitionChanged).gauges = s.gauges := by
  simpa only [Prod.mk.injEq] using State.ignitionChanged_keep (fun x => (x.pending, x.power, x.clock, x.cfg, x.store, x.storeWrite, x.ports, x.slots, x.inputs, x.claims, x.gates, x.sup, x.seq, x.gauges))
    (fun _ _ => rfl) (fun _ _ => rfl) (fun _ _ => rfl) (fun _ _ => rfl) (fun _ _ => rfl) (fun _ _ => rfl) ..

@[simp] theorem State.localClaim_frame (s : State) (f : Fn) (b : Bool) :
    (s.localClaim f b).pending = s.pending ∧
    (s.localClaim f b).power = s.power ∧
    (s.localClaim f b).clock = s.clock ∧
    (s.localClaim f b).cfg = s.cfg ∧
    (s.localClaim f b).store = s.store ∧
    (s.localClaim f b).storeWrite = s.storeWrite ∧
    (s.localClaim f b).ports = s.ports ∧
    (s.localClaim f b).slots = s.slots ∧
    (s.localClaim f b).inputs = s.inputs ∧
    (s.localClaim f b).gates = s.gates ∧
    (s.localClaim f b).sup = s.sup ∧
    (s.localClaim f b).seq = s.seq ∧
    (s.localClaim f b).gauges = s.gauges := by
  simpa only [Prod.mk.injEq] using State.localClaim_keep (fun x => (x.pending, x.power, x.clock, x.cfg, x.store, x.storeWrite, x.ports, x.slots, x.inputs, x.gates, x.sup, x.seq, x.gauges))
    (fun _ _ => rfl) (fun _ _ => rfl) (fun _ _ => rfl) (fun _ _ => rfl) (fun _ _ => rfl) (fun _ _ => rfl) (fun _ _ => rfl) ..

@[simp] theorem State.claimPair_frame (s : State) (m : SlotId) (p : Byte × Byte) :
    (s.claimPair m p).pending = s.pending ∧
    (s.claimPair m p).power = s.power ∧
    (s.claimPair m p).clock = s.clock ∧
    (s.claimPair m p).cfg = s.cfg ∧
    (s.claimPair m p).store = s.store ∧
    (s.claimPair m p).storeWrite = s.storeWrite ∧
    (s.claimPair m p).ports = s.ports ∧
    (s.claimPair m p).slots = s.slots ∧
    (s.claimPair m p).inputs = s.inputs ∧
    (s.claimPair m p).gates = s.gates ∧
    (s.claimPair m p).sup = s.sup ∧
    (s.claimPair m p).seq = s.seq ∧
    (s.claimPair m p).gauges = s.gauges := by
  simpa only [Prod.mk.injEq] using State.claimPair_keep (fun x => (x.pending, x.power, x.clock, x.cfg, x.store, x.storeWrite, x.ports, x.slots, x.inputs, x.gates, x.sup, x.seq, x.gauges))
    (fun _ _ => rfl) (fun _ _ => rfl) (fun _ _ => rfl) (fun _ _ => rfl) (fun _ _ => rfl) (fun _ _ => rfl) (fun _ _ => rfl) ..

@[simp] theorem State.claimPairs_frame (s : State) (m : SlotId) (ps : List (Byte × Byte)) :
    (s.claimPairs m ps).pending = s.pending ∧
    (s.claimPairs m ps).power = s.power ∧
    (s.claimPairs m ps).clock = s.clock ∧
    (s.claimPairs m ps).cfg = s.cfg ∧
    (s.claimPairs m ps).store = s.store ∧
    (s.claimPairs m ps).storeWrite = s.storeWrite ∧
    (s.claimPairs m ps).ports = s.ports ∧
    (s.claimPairs m ps).slots = s.slots ∧
    (s.claimPairs m ps).inputs = s.inputs ∧
    (s.claimPairs m ps).gates = s.gates ∧
    (s.claimPairs m ps).sup = s.sup ∧
    (s.claimPairs m ps).seq = s.seq ∧
    (s.claimPairs m ps).gauges = s.gauges := by
  simpa only [Prod.mk.injEq] using State.claimPairs_keep (fun x => (x.pending, x.power, x.clock, x.cfg, x.store, x.storeWrite, x.ports, x.slots, x.inputs, x.gates, x.sup, x.seq, x.gauges))
    (fun _ _ => rfl) (fun _ _ => rfl) (fun _ _ => rfl) (fun _ _ => rfl) (fun _ _ => rfl) (fun _ _ => rfl) (fun _ _ => rfl) ..

@[simp] theorem State.claimColumn_frame (s : State) (m : SlotId) (ps : List (Byte × Byte)) :
    (s.claimColumn m ps).pending = s.pending ∧
    (s.claimColumn m ps).power = s.power ∧
    (s.claimColumn m ps).clock = s.clock ∧
    (s.claimColumn m ps).cfg = s.cfg ∧
    (s.claimColumn m ps).store = s.store ∧
    (s.claimColumn m ps).storeWrite = s.storeWrite ∧
    (s.claimColumn m ps).ports = s.ports ∧
    (s.claimColumn m ps).slots = s.slots ∧
    (s.claimColumn m ps).inputs = s.inputs ∧
    (s.claimColumn m ps).gates = s.gates ∧
    (s.claimColumn m ps).sup = s.sup ∧
    (s.claimColumn m ps).seq = s.seq ∧
    (s.claimColumn m ps).gauges = s.gauges := by
  simpa only [Prod.mk.injEq] using State.claimColumn_keep (fun x => (x.pending, x.power, x.clock, x.cfg, x.store, x.storeWrite, x.ports, x.slots, x.inputs, x.gates, x.sup, x.seq, x.gauges))
    (fun _ _ => rfl) (fun _ _ => rfl) (fun _ _ => rfl) (fun _ _ => rfl) (fun _ _ => rfl) (fun _ _ => rfl) (fun _ _ => rfl) ..

@[simp] theorem State.orphanCell_frame (s : State) (m : SlotId) (f : Fn) :
    (s.orphanCell m f).pending = s.pending ∧
    (s.orphanCell m f).power = s.power ∧
    (s.orphanCell m f).clock = s.clock ∧
    (s.orphanCell m f).cfg = s.cfg ∧
    (s.orphanCell m f).store = s.store ∧
    (s.orphanCell m f).storeWrite = s.storeWrite ∧
    (s.orphanCell m f).ports = s.ports ∧
    (s.orphanCell m f).slots = s.slots ∧
    (s.orphanCell m f).inputs = s.inputs ∧
    (s.orphanCell m f).gates = s.gates ∧
    (s.orphanCell m f).sup = s.sup ∧
    (s.orphanCell m f).seq = s.seq ∧
    (s.orphanCell m f).gauges = s.gauges := by
  simpa only [Prod.mk.injEq] using State.orphanCell_keep (fun x => (x.pending, x.power, x.clock, x.cfg, x.store, x.storeWrite, x.ports, x.slots, x.inputs, x.gates, x.sup, x.seq, x.gauges))
    (fun _ _ => rfl) (fun _ _ => rfl) (fun _ _ => rfl) (fun _ _ => rfl) (fun _ _ => rfl) (fun _ _ => rfl) (fun _ _ => rfl) ..

@[simp] theorem State.unmarkCell_frame (s : State) (m : SlotId) (f : Fn) :
    (s.unmarkCell m f).pending = s.pending ∧
    (s.unmarkCell m f).power = s.power ∧
    (s.unmarkCell m f).clock = s.clock ∧
    (s.unmarkCell m f).cfg = s.cfg ∧
    (s.unmarkCell m f).store = s.store ∧
    (s.unmarkCell m f).storeWrite = s.storeWrite ∧
    (s.unmarkCell m f).ports = s.ports ∧
    (s.unmarkCell m f).slots = s.slots ∧
    (s.unmarkCell m f).inputs = s.inputs ∧
    (s.unmarkCell m f).gates = s.gates ∧
    (s.unmarkCell m f).sup = s.sup ∧
    (s.unmarkCell m f).seq = s.seq ∧
    (s.unmarkCell m f).gauges = s.gauges := by
  simpa only [Prod.mk.injEq] using State.unmarkCell_keep (fun x => (x.pending, x.power, x.clock, x.cfg, x.store, x.storeWrite, x.ports, x.slots, x.inputs, x.gates, x.sup, x.seq, x.gauges))
    (fun _ _ => rfl) (fun _ _ => rfl) (fun _ _ => rfl) (fun _ _ => rfl) (fun _ _ => rfl) (fun _ _ => rfl) (fun _ _ => rfl) ..

@[simp] theorem State.fallSilent_frame (s : State) (m : SlotId) (e : Bool) :
    (s.fallSilent m e).pending = s.pending ∧
    (s.fallSilent m e).power = s.power ∧
    (s.fallSilent m e).clock = s.clock ∧
    (s.fallSilent m e).cfg = s.cfg ∧
    (s.fallSilent m e).store = s.store ∧
    (s.fallSilent m e).storeWrite = s.storeWrite ∧
    (s.fallSilent m e).ports = s.ports ∧
    (s.fallSilent m e).inputs = s.inputs ∧
    (s.fallSilent m e).gates = s.gates ∧
    (s.fallSilent m e).sup = s.sup ∧
    (s.fallSilent m e).seq = s.seq ∧
    (s.fallSilent m e).gauges = s.gauges := by
  simpa only [Prod.mk.injEq] using State.fallSilent_keep (fun x => (x.pending, x.power, x.clock, x.cfg, x.store, x.storeWrite, x.ports, x.inputs, x.gates, x.sup, x.seq, x.gauges))
    (fun _ _ => rfl) (fun _ _ => rfl) (fun _ _ => rfl) (fun _ _ => rfl) (fun _ _ => rfl) (fun _ _ => rfl) (fun _ _ => rfl) (fun _ _ => rfl) ..

@[simp] theorem State.hear_frame (s : State) (m : SlotId) :
    (s.hear m).pending = s.pending ∧
    (s.hear m).power = s.power ∧
    (s.hear m).clock = s.clock ∧
    (s.hear m).cfg = s.cfg ∧
    (s.hear m).store = s.store ∧
    (s.hear m).storeWrite = s.storeWrite ∧
    (s.hear m).ports = s.ports ∧
    (s.hear m).inputs = s.inputs ∧
    (s.hear m).gates = s.gates ∧
    (s.hear m).sup = s.sup ∧
    (s.hear m).seq = s.seq ∧
    (s.hear m).gauges = s.gauges := by
  simpa only [Prod.mk.injEq] using State.hear_keep (fun x => (x.pending, x.power, x.clock, x.cfg, x.store, x.storeWrite, x.ports, x.inputs, x.gates, x.sup, x.seq, x.gauges))
    (fun _ _ => rfl) (fun _ _ => rfl) (fun _ _ => rfl) (fun _ _ => rfl) (fun _ _ => rfl) (fun _ _ => rfl) (fun _ _ => rfl) (fun _ _ => rfl) ..

@[simp] theorem State.clearColumn_frame (s : State) (m : SlotId) :
    (s.clearColumn m).pending = s.pending ∧
    (s.clearColumn m).power = s.power ∧
    (s.clearColumn m).clock = s.clock ∧
    (s.clearColumn m).cfg = s.cfg ∧
    (s.clearColumn m).store = s.store ∧
    (s.clearColumn m).storeWrite = s.storeWrite ∧
    (s.clearColumn m).ports = s.ports ∧
    (s.clearColumn m).slots = s.slots ∧
    (s.clearColumn m).inputs = s.inputs ∧
    (s.clearColumn m).gates = s.gates ∧
    (s.clearColumn m).sup = s.sup ∧
    (s.clearColumn m).seq = s.seq ∧
    (s.clearColumn m).gauges = s.gauges := by
  simpa only [Prod.mk.injEq] using State.clearColumn_keep (fun x => (x.pending, x.power, x.clock, x.cfg, x.store, x.storeWrite, x.ports, x.slots, x.inputs, x.gates, x.sup, x.seq, x.gauges))
    (fun _ _ => rfl) (fun _ _ => rfl) (fun _ _ => rfl) (fun _ _ => rfl) (fun _ _ => rfl) (fun _ _ => rfl) (fun _ _ => rfl) ..

@[simp] theorem State.countHolds_frame (s : State) (m : SlotId) :
    (s.countHolds m).pending = s.pending ∧
    (s.countHolds m).power = s.power ∧
    (s.countHolds m).clock = s.clock ∧
    (s.countHolds m).cfg = s.cfg ∧
    (s.countHolds m).store = s.store ∧
    (s.countHolds m).storeWrite = s.storeWrite ∧
    (s.countHolds m).ports = s.ports ∧
    (s.countHolds m).slots = s.slots ∧
    (s.countHolds m).inputs = s.inputs ∧
    (s.countHolds m).results = s.results ∧
    (s.countHolds m).chans = s.chans ∧
    (s.countHolds m).queue = s.queue ∧
    (s.countHolds m).window = s.window ∧
    (s.countHolds m).gates = s.gates ∧
    (s.countHolds m).flash = s.flash ∧
    (s.countHolds m).sup = s.sup ∧
    (s.countHolds m).seq = s.seq ∧
    (s.countHolds m).gauges = s.gauges ∧
    (s.countHolds m).fan = s.fan := by
  simpa only [Prod.mk.injEq] using State.countHolds_keep (fun x => (x.pending, x.power, x.clock, x.cfg, x.store, x.storeWrite, x.ports, x.slots, x.inputs, x.results, x.chans, x.queue, x.window, x.gates, x.flash, x.sup, x.seq, x.gauges, x.fan))
    (fun _ _ => rfl) ..

@[simp] theorem State.countSlot_frame (s : State) (m : SlotId) :
    (s.countSlot m).pending = s.pending ∧
    (s.countSlot m).power = s.power ∧
    (s.countSlot m).clock = s.clock ∧
    (s.countSlot m).cfg = s.cfg ∧
    (s.countSlot m).store = s.store ∧
    (s.countSlot m).storeWrite = s.storeWrite ∧
    (s.countSlot m).ports = s.ports ∧
    (s.countSlot m).inputs = s.inputs ∧
    (s.countSlot m).results = s.results ∧
    (s.countSlot m).chans = s.chans ∧
    (s.countSlot m).queue = s.queue ∧
    (s.countSlot m).window = s.window ∧
    (s.countSlot m).gates = s.gates ∧
    (s.countSlot m).flash = s.flash ∧
    (s.countSlot m).sup = s.sup ∧
    (s.countSlot m).seq = s.seq ∧
    (s.countSlot m).gauges = s.gauges ∧
    (s.countSlot m).fan = s.fan := by
  simpa only [Prod.mk.injEq] using State.countSlot_keep (fun x => (x.pending, x.power, x.clock, x.cfg, x.store, x.storeWrite, x.ports, x.inputs, x.results, x.chans, x.queue, x.window, x.gates, x.flash, x.sup, x.seq, x.gauges, x.fan))
    (fun _ _ => rfl) (fun _ _ => rfl) ..

@[simp] theorem State.gaugeWrite_frame (s : State) (g : GaugeId) (d : Nat) :
    (s.gaugeWrite g d).pending = s.pending ∧
    (s.gaugeWrite g d).power = s.power ∧
    (s.gaugeWrite g d).clock = s.clock ∧
    (s.gaugeWrite g d).cfg = s.cfg ∧
    (s.gaugeWrite g d).store = s.store ∧
    (s.gaugeWrite g d).storeWrite = s.storeWrite ∧
    (s.gaugeWrite g d).ports = s.ports ∧
    (s.gaugeWrite g d).slots = s.slots ∧
    (s.gaugeWrite g d).inputs = s.inputs ∧
    (s.gaugeWrite g d).claims = s.claims ∧
    (s.gaugeWrite g d).results = s.results ∧
    (s.gaugeWrite g d).queue = s.queue ∧
    (s.gaugeWrite g d).window = s.window ∧
    (s.gaugeWrite g d).gates = s.gates ∧
    (s.gaugeWrite g d).flash = s.flash ∧
    (s.gaugeWrite g d).sup = s.sup ∧
    (s.gaugeWrite g d).seq = s.seq := by
  simpa only [Prod.mk.injEq] using State.gaugeWrite_keep (fun x => (x.pending, x.power, x.clock, x.cfg, x.store, x.storeWrite, x.ports, x.slots, x.inputs, x.claims, x.results, x.queue, x.window, x.gates, x.flash, x.sup, x.seq))
    (fun _ _ => rfl) (fun _ _ => rfl) (fun _ _ => rfl) ..

@[simp] theorem State.gaugeRecompute_frame (s : State) (g : GaugeId) :
    (s.gaugeRecompute g).pending = s.pending ∧
    (s.gaugeRecompute g).power = s.power ∧
    (s.gaugeRecompute g).clock = s.clock ∧
    (s.gaugeRecompute g).cfg = s.cfg ∧
    (s.gaugeRecompute g).store = s.store ∧
    (s.gaugeRecompute g).storeWrite = s.storeWrite ∧
    (s.gaugeRecompute g).ports = s.ports ∧
    (s.gaugeRecompute g).inputs = s.inputs ∧
    (s.gaugeRecompute g).claims = s.claims ∧
    (s.gaugeRecompute g).results = s.results ∧
    (s.gaugeRecompute g).queue = s.queue ∧
    (s.gaugeRecompute g).window = s.window ∧
    (s.gaugeRecompute g).gates = s.gates ∧
    (s.gaugeRecompute g).flash = s.flash ∧
    (s.gaugeRecompute g).sup = s.sup ∧
    (s.gaugeRecompute g).seq = s.seq := by
  simpa only [Prod.mk.injEq] using State.gaugeRecompute_keep (fun x => (x.pending, x.power, x.clock, x.cfg, x.store, x.storeWrite, x.ports, x.inputs, x.claims, x.results, x.queue, x.window, x.gates, x.flash, x.sup, x.seq))
    (fun _ _ => rfl) (fun _ _ => rfl) (fun _ _ => rfl) (fun _ _ => rfl) ..

@[simp] theorem State.gaugesRecompute_frame (s : State) :
    (s.gaugesRecompute).pending = s.pending ∧
    (s.gaugesRecompute).power = s.power ∧
    (s.gaugesRecompute).clock = s.clock ∧
    (s.gaugesRecompute).cfg = s.cfg ∧
    (s.gaugesRecompute).store = s.store ∧
    (s.gaugesRecompute).storeWrite = s.storeWrite ∧
    (s.gaugesRecompute).ports = s.ports ∧
    (s.gaugesRecompute).inputs = s.inputs ∧
    (s.gaugesRecompute).claims = s.claims ∧
    (s.gaugesRecompute).results = s.results ∧
    (s.gaugesRecompute).queue = s.queue ∧
    (s.gaugesRecompute).window = s.window ∧
    (s.gaugesRecompute).gates = s.gates ∧
    (s.gaugesRecompute).flash = s.flash ∧
    (s.gaugesRecompute).sup = s.sup ∧
    (s.gaugesRecompute).seq = s.seq := by
  simpa only [Prod.mk.injEq] using State.gaugesRecompute_keep (fun x => (x.pending, x.power, x.clock, x.cfg, x.store, x.storeWrite, x.ports, x.inputs, x.claims, x.results, x.queue, x.window, x.gates, x.flash, x.sup, x.seq))
    (fun _ _ => rfl) (fun _ _ => rfl) (fun _ _ => rfl) (fun _ _ => rfl) ..

@[simp] theorem State.gaugeRest_frame (s : State) (g : GaugeId) :
    (s.gaugeRest g).pending = s.pending ∧
    (s.gaugeRest g).power = s.power ∧
    (s.gaugeRest g).clock = s.clock ∧
    (s.gaugeRest g).cfg = s.cfg ∧
    (s.gaugeRest g).store = s.store ∧
    (s.gaugeRest g).storeWrite = s.storeWrite ∧
    (s.gaugeRest g).ports = s.ports ∧
    (s.gaugeRest g).inputs = s.inputs ∧
    (s.gaugeRest g).claims = s.claims ∧
    (s.gaugeRest g).results = s.results ∧
    (s.gaugeRest g).queue = s.queue ∧
    (s.gaugeRest g).window = s.window ∧
    (s.gaugeRest g).gates = s.gates ∧
    (s.gaugeRest g).flash = s.flash ∧
    (s.gaugeRest g).sup = s.sup ∧
    (s.gaugeRest g).seq = s.seq := by
  simpa only [Prod.mk.injEq] using State.gaugeRest_keep (fun x => (x.pending, x.power, x.clock, x.cfg, x.store, x.storeWrite, x.ports, x.inputs, x.claims, x.results, x.queue, x.window, x.gates, x.flash, x.sup, x.seq))
    (fun _ _ => rfl) (fun _ _ => rfl) (fun _ _ => rfl) (fun _ _ => rfl) ..

@[simp] theorem State.gaugeFault_frame (s : State) (g : GaugeId) :
    (s.gaugeFault g).pending = s.pending ∧
    (s.gaugeFault g).power = s.power ∧
    (s.gaugeFault g).clock = s.clock ∧
    (s.gaugeFault g).cfg = s.cfg ∧
    (s.gaugeFault g).store = s.store ∧
    (s.gaugeFault g).storeWrite = s.storeWrite ∧
    (s.gaugeFault g).ports = s.ports ∧
    (s.gaugeFault g).inputs = s.inputs ∧
    (s.gaugeFault g).claims = s.claims ∧
    (s.gaugeFault g).results = s.results ∧
    (s.gaugeFault g).queue = s.queue ∧
    (s.gaugeFault g).window = s.window ∧
    (s.gaugeFault g).gates = s.gates ∧
    (s.gaugeFault g).flash = s.flash ∧
    (s.gaugeFault g).sup = s.sup ∧
    (s.gaugeFault g).seq = s.seq := by
  simpa only [Prod.mk.injEq] using State.gaugeFault_keep (fun x => (x.pending, x.power, x.clock, x.cfg, x.store, x.storeWrite, x.ports, x.inputs, x.claims, x.results, x.queue, x.window, x.gates, x.flash, x.sup, x.seq))
    (fun _ _ => rfl) (fun _ _ => rfl) (fun _ _ => rfl) (fun _ _ => rfl) ..

@[simp] theorem State.gaugeRecover_frame (s : State) (g : GaugeId) :
    (s.gaugeRecover g).pending = s.pending ∧
    (s.gaugeRecover g).power = s.power ∧
    (s.gaugeRecover g).clock = s.clock ∧
    (s.gaugeRecover g).cfg = s.cfg ∧
    (s.gaugeRecover g).store = s.store ∧
    (s.gaugeRecover g).storeWrite = s.storeWrite ∧
    (s.gaugeRecover g).ports = s.ports ∧
    (s.gaugeRecover g).inputs = s.inputs ∧
    (s.gaugeRecover g).claims = s.claims ∧
    (s.gaugeRecover g).results = s.results ∧
    (s.gaugeRecover g).queue = s.queue ∧
    (s.gaugeRecover g).window = s.window ∧
    (s.gaugeRecover g).gates = s.gates ∧
    (s.gaugeRecover g).flash = s.flash ∧
    (s.gaugeRecover g).sup = s.sup ∧
    (s.gaugeRecover g).seq = s.seq := by
  simpa only [Prod.mk.injEq] using State.gaugeRecover_keep (fun x => (x.pending, x.power, x.clock, x.cfg, x.store, x.storeWrite, x.ports, x.inputs, x.claims, x.results, x.queue, x.window, x.gates, x.flash, x.sup, x.seq))
    (fun _ _ => rfl) (fun _ _ => rfl) (fun _ _ => rfl) (fun _ _ => rfl) ..

@[simp] theorem State.gaugeFinishReading_frame (s : State) (g : GaugeId) :
    (s.gaugeFinishReading g).pending = s.pending ∧
    (s.gaugeFinishReading g).power = s.power ∧
    (s.gaugeFinishReading g).clock = s.clock ∧
    (s.gaugeFinishReading g).cfg = s.cfg ∧
    (s.gaugeFinishReading g).store = s.store ∧
    (s.gaugeFinishReading g).storeWrite = s.storeWrite ∧
    (s.gaugeFinishReading g).ports = s.ports ∧
    (s.gaugeFinishReading g).inputs = s.inputs ∧
    (s.gaugeFinishReading g).claims = s.claims ∧
    (s.gaugeFinishReading g).results = s.results ∧
    (s.gaugeFinishReading g).queue = s.queue ∧
    (s.gaugeFinishReading g).window = s.window ∧
    (s.gaugeFinishReading g).gates = s.gates ∧
    (s.gaugeFinishReading g).flash = s.flash ∧
    (s.gaugeFinishReading g).sup = s.sup ∧
    (s.gaugeFinishReading g).seq = s.seq := by
  simpa only [Prod.mk.injEq] using State.gaugeFinishReading_keep (fun x => (x.pending, x.power, x.clock, x.cfg, x.store, x.storeWrite, x.ports, x.inputs, x.claims, x.results, x.queue, x.window, x.gates, x.flash, x.sup, x.seq))
    (fun _ _ => rfl) (fun _ _ => rfl) (fun _ _ => rfl) (fun _ _ => rfl) ..

@[simp] theorem State.countFaultHold_frame (s : State) (g : GaugeId) :
    (s.countFaultHold g).pending = s.pending ∧
    (s.countFaultHold g).power = s.power ∧
    (s.countFaultHold g).clock = s.clock ∧
    (s.countFaultHold g).cfg = s.cfg ∧
    (s.countFaultHold g).store = s.store ∧
    (s.countFaultHold g).storeWrite = s.storeWrite ∧
    (s.countFaultHold g).ports = s.ports ∧
    (s.countFaultHold g).slots = s.slots ∧
    (s.countFaultHold g).inputs = s.inputs ∧
    (s.countFaultHold g).claims = s.claims ∧
    (s.countFaultHold g).results = s.results ∧
    (s.countFaultHold g).chans = s.chans ∧
    (s.countFaultHold g).queue = s.queue ∧
    (s.countFaultHold g).window = s.window ∧
    (s.countFaultHold g).gates = s.gates ∧
    (s.countFaultHold g).flash = s.flash ∧
    (s.countFaultHold g).sup = s.sup ∧
    (s.countFaultHold g).seq = s.seq ∧
    (s.countFaultHold g).fan = s.fan := by
  simpa only [Prod.mk.injEq] using State.countFaultHold_keep (fun x => (x.pending, x.power, x.clock, x.cfg, x.store, x.storeWrite, x.ports, x.slots, x.inputs, x.claims, x.results, x.chans, x.queue, x.window, x.gates, x.flash, x.sup, x.seq, x.fan))
    (fun _ _ => rfl) ..

@[simp] theorem State.gaugeEnter_frame (s : State) (g : GaugeId) (v : Nat) :
    (s.gaugeEnter g v).pending = s.pending ∧
    (s.gaugeEnter g v).power = s.power ∧
    (s.gaugeEnter g v).clock = s.clock ∧
    (s.gaugeEnter g v).cfg = s.cfg ∧
    (s.gaugeEnter g v).store = s.store ∧
    (s.gaugeEnter g v).storeWrite = s.storeWrite ∧
    (s.gaugeEnter g v).ports = s.ports ∧
    (s.gaugeEnter g v).inputs = s.inputs ∧
    (s.gaugeEnter g v).claims = s.claims ∧
    (s.gaugeEnter g v).results = s.results ∧
    (s.gaugeEnter g v).queue = s.queue ∧
    (s.gaugeEnter g v).window = s.window ∧
    (s.gaugeEnter g v).gates = s.gates ∧
    (s.gaugeEnter g v).flash = s.flash ∧
    (s.gaugeEnter g v).sup = s.sup ∧
    (s.gaugeEnter g v).seq = s.seq := by
  simpa only [Prod.mk.injEq] using State.gaugeEnter_keep (fun x => (x.pending, x.power, x.clock, x.cfg, x.store, x.storeWrite, x.ports, x.inputs, x.claims, x.results, x.queue, x.window, x.gates, x.flash, x.sup, x.seq))
    (fun _ _ => rfl) (fun _ _ => rfl) (fun _ _ => rfl) (fun _ _ => rfl) ..

@[simp] theorem State.gaugeReading_frame (s : State) (g : GaugeId) (v : Nat) :
    (s.gaugeReading g v).pending = s.pending ∧
    (s.gaugeReading g v).power = s.power ∧
    (s.gaugeReading g v).clock = s.clock ∧
    (s.gaugeReading g v).cfg = s.cfg ∧
    (s.gaugeReading g v).store = s.store ∧
    (s.gaugeReading g v).storeWrite = s.storeWrite ∧
    (s.gaugeReading g v).ports = s.ports ∧
    (s.gaugeReading g v).inputs = s.inputs ∧
    (s.gaugeReading g v).claims = s.claims ∧
    (s.gaugeReading g v).results = s.results ∧
    (s.gaugeReading g v).queue = s.queue ∧
    (s.gaugeReading g v).window = s.window ∧
    (s.gaugeReading g v).gates = s.gates ∧
    (s.gaugeReading g v).flash = s.flash ∧
    (s.gaugeReading g v).sup = s.sup ∧
    (s.gaugeReading g v).seq = s.seq := by
  simpa only [Prod.mk.injEq] using State.gaugeReading_keep (fun x => (x.pending, x.power, x.clock, x.cfg, x.store, x.storeWrite, x.ports, x.inputs, x.claims, x.results, x.queue, x.window, x.gates, x.flash, x.sup, x.seq))
    (fun _ _ => rfl) (fun _ _ => rfl) (fun _ _ => rfl) (fun _ _ => rfl) ..

@[simp] theorem State.gaugeStart_frame (s : State) (g : GaugeId) :
    (s.gaugeStart g).pending = s.pending ∧
    (s.gaugeStart g).power = s.power ∧
    (s.gaugeStart g).clock = s.clock ∧
    (s.gaugeStart g).cfg = s.cfg ∧
    (s.gaugeStart g).store = s.store ∧
    (s.gaugeStart g).storeWrite = s.storeWrite ∧
    (s.gaugeStart g).ports = s.ports ∧
    (s.gaugeStart g).inputs = s.inputs ∧
    (s.gaugeStart g).claims = s.claims ∧
    (s.gaugeStart g).results = s.results ∧
    (s.gaugeStart g).queue = s.queue ∧
    (s.gaugeStart g).window = s.window ∧
    (s.gaugeStart g).gates = s.gates ∧
    (s.gaugeStart g).flash = s.flash ∧
    (s.gaugeStart g).sup = s.sup ∧
    (s.gaugeStart g).seq = s.seq := by
  simpa only [Prod.mk.injEq] using State.gaugeStart_keep (fun x => (x.pending, x.power, x.clock, x.cfg, x.store, x.storeWrite, x.ports, x.inputs, x.claims, x.results, x.queue, x.window, x.gates, x.flash, x.sup, x.seq))
    (fun _ _ => rfl) (fun _ _ => rfl) (fun _ _ => rfl) (fun _ _ => rfl) ..

@[simp] theorem State.gaugeStop_frame (s : State) (g : GaugeId) :
    (s.gaugeStop g).pending = s.pending ∧
    (s.gaugeStop g).power = s.power ∧
    (s.gaugeStop g).clock = s.clock ∧
    (s.gaugeStop g).cfg = s.cfg ∧
    (s.gaugeStop g).store = s.store ∧
    (s.gaugeStop g).storeWrite = s.storeWrite ∧
    (s.gaugeStop g).ports = s.ports ∧
    (s.gaugeStop g).inputs = s.inputs ∧
    (s.gaugeStop g).claims = s.claims ∧
    (s.gaugeStop g).results = s.results ∧
    (s.gaugeStop g).queue = s.queue ∧
    (s.gaugeStop g).window = s.window ∧
    (s.gaugeStop g).gates = s.gates ∧
    (s.gaugeStop g).flash = s.flash ∧
    (s.gaugeStop g).sup = s.sup ∧
    (s.gaugeStop g).seq = s.seq := by
  simpa only [Prod.mk.injEq] using State.gaugeStop_keep (fun x => (x.pending, x.power, x.clock, x.cfg, x.store, x.storeWrite, x.ports, x.inputs, x.claims, x.results, x.queue, x.window, x.gates, x.flash, x.sup, x.seq))
    (fun _ _ => rfl) (fun _ _ => rfl) (fun _ _ => rfl) (fun _ _ => rfl) ..

@[simp] theorem State.gaugesIgnition_frame (s : State) (b : Bool) :
    (s.gaugesIgnition b).pending = s.pending ∧
    (s.gaugesIgnition b).power = s.power ∧
    (s.gaugesIgnition b).clock = s.clock ∧
    (s.gaugesIgnition b).cfg = s.cfg ∧
    (s.gaugesIgnition b).store = s.store ∧
    (s.gaugesIgnition b).storeWrite = s.storeWrite ∧
    (s.gaugesIgnition b).ports = s.ports ∧
    (s.gaugesIgnition b).inputs = s.inputs ∧
    (s.gaugesIgnition b).claims = s.claims ∧
    (s.gaugesIgnition b).results = s.results ∧
    (s.gaugesIgnition b).queue = s.queue ∧
    (s.gaugesIgnition b).window = s.window ∧
    (s.gaugesIgnition b).gates = s.gates ∧
    (s.gaugesIgnition b).flash = s.flash ∧
    (s.gaugesIgnition b).sup = s.sup ∧
    (s.gaugesIgnition b).seq = s.seq := by
  simpa only [Prod.mk.injEq] using State.gaugesIgnition_keep (fun x => (x.pending, x.power, x.clock, x.cfg, x.store, x.storeWrite, x.ports, x.inputs, x.claims, x.results, x.queue, x.window, x.gates, x.flash, x.sup, x.seq))
    (fun _ _ => rfl) (fun _ _ => rfl) (fun _ _ => rfl) (fun _ _ => rfl) ..

@[simp] theorem State.gaugeHold_frame (s : State) (g : GaugeId) :
    (s.gaugeHold g).pending = s.pending ∧
    (s.gaugeHold g).power = s.power ∧
    (s.gaugeHold g).clock = s.clock ∧
    (s.gaugeHold g).cfg = s.cfg ∧
    (s.gaugeHold g).store = s.store ∧
    (s.gaugeHold g).storeWrite = s.storeWrite ∧
    (s.gaugeHold g).ports = s.ports ∧
    (s.gaugeHold g).slots = s.slots ∧
    (s.gaugeHold g).inputs = s.inputs ∧
    (s.gaugeHold g).claims = s.claims ∧
    (s.gaugeHold g).results = s.results ∧
    (s.gaugeHold g).chans = s.chans ∧
    (s.gaugeHold g).queue = s.queue ∧
    (s.gaugeHold g).window = s.window ∧
    (s.gaugeHold g).gates = s.gates ∧
    (s.gaugeHold g).flash = s.flash ∧
    (s.gaugeHold g).sup = s.sup ∧
    (s.gaugeHold g).seq = s.seq ∧
    (s.gaugeHold g).fan = s.fan := by
  simpa only [Prod.mk.injEq] using State.gaugeHold_keep (fun x => (x.pending, x.power, x.clock, x.cfg, x.store, x.storeWrite, x.ports, x.slots, x.inputs, x.claims, x.results, x.chans, x.queue, x.window, x.gates, x.flash, x.sup, x.seq, x.fan))
    (fun _ _ => rfl) ..

@[simp] theorem State.gaugeRelease_frame (s : State) (g : GaugeId) :
    (s.gaugeRelease g).pending = s.pending ∧
    (s.gaugeRelease g).power = s.power ∧
    (s.gaugeRelease g).clock = s.clock ∧
    (s.gaugeRelease g).cfg = s.cfg ∧
    (s.gaugeRelease g).store = s.store ∧
    (s.gaugeRelease g).storeWrite = s.storeWrite ∧
    (s.gaugeRelease g).ports = s.ports ∧
    (s.gaugeRelease g).inputs = s.inputs ∧
    (s.gaugeRelease g).claims = s.claims ∧
    (s.gaugeRelease g).results = s.results ∧
    (s.gaugeRelease g).queue = s.queue ∧
    (s.gaugeRelease g).window = s.window ∧
    (s.gaugeRelease g).gates = s.gates ∧
    (s.gaugeRelease g).flash = s.flash ∧
    (s.gaugeRelease g).sup = s.sup ∧
    (s.gaugeRelease g).seq = s.seq := by
  simpa only [Prod.mk.injEq] using State.gaugeRelease_keep (fun x => (x.pending, x.power, x.clock, x.cfg, x.store, x.storeWrite, x.ports, x.inputs, x.claims, x.results, x.queue, x.window, x.gates, x.flash, x.sup, x.seq))
    (fun _ _ => rfl) (fun _ _ => rfl) (fun _ _ => rfl) (fun _ _ => rfl) ..

@[simp] theorem State.startingDone_frame (s : State) :
    (s.startingDone).pending = s.pending ∧
    (s.startingDone).clock = s.clock ∧
    (s.startingDone).cfg = s.cfg ∧
    (s.startingDone).store = s.store ∧
    (s.startingDone).storeWrite = s.storeWrite ∧
    (s.startingDone).ports = s.ports ∧
    (s.startingDone).slots = s.slots ∧
    (s.startingDone).inputs = s.inputs ∧
    (s.startingDone).claims = s.claims ∧
    (s.startingDone).results = s.results ∧
    (s.startingDone).chans = s.chans ∧
    (s.startingDone).queue = s.queue ∧
    (s.startingDone).window = s.window ∧
    (s.startingDone).gates = s.gates ∧
    (s.startingDone).flash = s.flash ∧
    (s.startingDone).sup = s.sup ∧
    (s.startingDone).seq = s.seq ∧
    (s.startingDone).gauges = s.gauges ∧
    (s.startingDone).fan = s.fan := by
  simpa only [Prod.mk.injEq] using State.startingDone_keep (fun x => (x.pending, x.clock, x.cfg, x.store, x.storeWrite, x.ports, x.slots, x.inputs, x.claims, x.results, x.chans, x.queue, x.window, x.gates, x.flash, x.sup, x.seq, x.gauges, x.fan))
    (fun _ _ => rfl) ..

@[simp] theorem State.setShed_frame (s : State) (n : Nat) :
    (s.setShed n).pending = s.pending ∧
    (s.setShed n).power = s.power ∧
    (s.setShed n).clock = s.clock ∧
    (s.setShed n).cfg = s.cfg ∧
    (s.setShed n).store = s.store ∧
    (s.setShed n).storeWrite = s.storeWrite ∧
    (s.setShed n).ports = s.ports ∧
    (s.setShed n).inputs = s.inputs ∧
    (s.setShed n).claims = s.claims ∧
    (s.setShed n).gauges = s.gauges := by
  simpa only [Prod.mk.injEq] using State.setShed_keep (fun x => (x.pending, x.power, x.clock, x.cfg, x.store, x.storeWrite, x.ports, x.inputs, x.claims, x.gauges))
    (fun _ _ => rfl) (fun _ _ => rfl) (fun _ _ => rfl) (fun _ _ => rfl) (fun _ _ => rfl) (fun _ _ => rfl) (fun _ _ => rfl) (fun _ _ => rfl) (fun _ _ => rfl) (fun _ _ => rfl) ..

@[simp] theorem State.finishShed_frame (s : State) :
    (s.finishShed).pending = s.pending ∧
    (s.finishShed).power = s.power ∧
    (s.finishShed).clock = s.clock ∧
    (s.finishShed).cfg = s.cfg ∧
    (s.finishShed).store = s.store ∧
    (s.finishShed).storeWrite = s.storeWrite ∧
    (s.finishShed).ports = s.ports ∧
    (s.finishShed).inputs = s.inputs ∧
    (s.finishShed).claims = s.claims ∧
    (s.finishShed).gauges = s.gauges := by
  simpa only [Prod.mk.injEq] using State.finishShed_keep (fun x => (x.pending, x.power, x.clock, x.cfg, x.store, x.storeWrite, x.ports, x.inputs, x.claims, x.gauges))
    (fun _ _ => rfl) (fun _ _ => rfl) (fun _ _ => rfl) (fun _ _ => rfl) (fun _ _ => rfl) (fun _ _ => rfl) (fun _ _ => rfl) (fun _ _ => rfl) (fun _ _ => rfl) (fun _ _ => rfl) ..

@[simp] theorem State.filterSample_frame (s : State) (v : Nat) :
    (s.filterSample v).pending = s.pending ∧
    (s.filterSample v).power = s.power ∧
    (s.filterSample v).clock = s.clock ∧
    (s.filterSample v).cfg = s.cfg ∧
    (s.filterSample v).store = s.store ∧
    (s.filterSample v).storeWrite = s.storeWrite ∧
    (s.filterSample v).ports = s.ports ∧
    (s.filterSample v).inputs = s.inputs ∧
    (s.filterSample v).claims = s.claims ∧
    (s.filterSample v).results = s.results ∧
    (s.filterSample v).queue = s.queue ∧
    (s.filterSample v).window = s.window ∧
    (s.filterSample v).gates = s.gates ∧
    (s.filterSample v).flash = s.flash ∧
    (s.filterSample v).seq = s.seq := by
  simpa only [Prod.mk.injEq] using State.filterSample_keep (fun x => (x.pending, x.power, x.clock, x.cfg, x.store, x.storeWrite, x.ports, x.inputs, x.claims, x.results, x.queue, x.window, x.gates, x.flash, x.seq))
    (fun _ _ => rfl) (fun _ _ => rfl) (fun _ _ => rfl) (fun _ _ => rfl) (fun _ _ => rfl) ..

@[simp] theorem State.countSample_frame (s : State) (v : Nat) :
    (s.countSample v).pending = s.pending ∧
    (s.countSample v).power = s.power ∧
    (s.countSample v).clock = s.clock ∧
    (s.countSample v).cfg = s.cfg ∧
    (s.countSample v).store = s.store ∧
    (s.countSample v).storeWrite = s.storeWrite ∧
    (s.countSample v).ports = s.ports ∧
    (s.countSample v).inputs = s.inputs ∧
    (s.countSample v).claims = s.claims ∧
    (s.countSample v).results = s.results ∧
    (s.countSample v).queue = s.queue ∧
    (s.countSample v).window = s.window ∧
    (s.countSample v).gates = s.gates ∧
    (s.countSample v).flash = s.flash ∧
    (s.countSample v).seq = s.seq := by
  simpa only [Prod.mk.injEq] using State.countSample_keep (fun x => (x.pending, x.power, x.clock, x.cfg, x.store, x.storeWrite, x.ports, x.inputs, x.claims, x.results, x.queue, x.window, x.gates, x.flash, x.seq))
    (fun _ _ => rfl) (fun _ _ => rfl) (fun _ _ => rfl) (fun _ _ => rfl) (fun _ _ => rfl) ..

@[simp] theorem State.crankEnter_frame (s : State) :
    (s.crankEnter).pending = s.pending ∧
    (s.crankEnter).power = s.power ∧
    (s.crankEnter).clock = s.clock ∧
    (s.crankEnter).cfg = s.cfg ∧
    (s.crankEnter).store = s.store ∧
    (s.crankEnter).storeWrite = s.storeWrite ∧
    (s.crankEnter).ports = s.ports ∧
    (s.crankEnter).inputs = s.inputs ∧
    (s.crankEnter).claims = s.claims ∧
    (s.crankEnter).results = s.results ∧
    (s.crankEnter).queue = s.queue ∧
    (s.crankEnter).window = s.window ∧
    (s.crankEnter).gates = s.gates ∧
    (s.crankEnter).seq = s.seq := by
  simpa only [Prod.mk.injEq] using State.crankEnter_keep (fun x => (x.pending, x.power, x.clock, x.cfg, x.store, x.storeWrite, x.ports, x.inputs, x.claims, x.results, x.queue, x.window, x.gates, x.seq))
    (fun _ _ => rfl) (fun _ _ => rfl) (fun _ _ => rfl) (fun _ _ => rfl) (fun _ _ => rfl) (fun _ _ => rfl) ..

@[simp] theorem State.crankLeave_frame (s : State) :
    (s.crankLeave).pending = s.pending ∧
    (s.crankLeave).power = s.power ∧
    (s.crankLeave).clock = s.clock ∧
    (s.crankLeave).cfg = s.cfg ∧
    (s.crankLeave).store = s.store ∧
    (s.crankLeave).storeWrite = s.storeWrite ∧
    (s.crankLeave).ports = s.ports ∧
    (s.crankLeave).inputs = s.inputs ∧
    (s.crankLeave).claims = s.claims ∧
    (s.crankLeave).results = s.results ∧
    (s.crankLeave).queue = s.queue ∧
    (s.crankLeave).window = s.window ∧
    (s.crankLeave).gates = s.gates ∧
    (s.crankLeave).flash = s.flash ∧
    (s.crankLeave).seq = s.seq := by
  simpa only [Prod.mk.injEq] using State.crankLeave_keep (fun x => (x.pending, x.power, x.clock, x.cfg, x.store, x.storeWrite, x.ports, x.inputs, x.claims, x.results, x.queue, x.window, x.gates, x.flash, x.seq))
    (fun _ _ => rfl) (fun _ _ => rfl) (fun _ _ => rfl) (fun _ _ => rfl) (fun _ _ => rfl) ..

@[simp] theorem State.settleCrank_frame (s : State) :
    (s.settleCrank).pending = s.pending ∧
    (s.settleCrank).power = s.power ∧
    (s.settleCrank).clock = s.clock ∧
    (s.settleCrank).cfg = s.cfg ∧
    (s.settleCrank).store = s.store ∧
    (s.settleCrank).storeWrite = s.storeWrite ∧
    (s.settleCrank).ports = s.ports ∧
    (s.settleCrank).inputs = s.inputs ∧
    (s.settleCrank).claims = s.claims ∧
    (s.settleCrank).results = s.results ∧
    (s.settleCrank).queue = s.queue ∧
    (s.settleCrank).window = s.window ∧
    (s.settleCrank).gates = s.gates ∧
    (s.settleCrank).seq = s.seq := by
  simpa only [Prod.mk.injEq] using State.settleCrank_keep (fun x => (x.pending, x.power, x.clock, x.cfg, x.store, x.storeWrite, x.ports, x.inputs, x.claims, x.results, x.queue, x.window, x.gates, x.seq))
    (fun _ _ => rfl) (fun _ _ => rfl) (fun _ _ => rfl) (fun _ _ => rfl) (fun _ _ => rfl) (fun _ _ => rfl) ..

@[simp] theorem State.settleSupply_frame (s : State) :
    (s.settleSupply).pending = s.pending ∧
    (s.settleSupply).power = s.power ∧
    (s.settleSupply).clock = s.clock ∧
    (s.settleSupply).cfg = s.cfg ∧
    (s.settleSupply).store = s.store ∧
    (s.settleSupply).storeWrite = s.storeWrite ∧
    (s.settleSupply).ports = s.ports ∧
    (s.settleSupply).inputs = s.inputs ∧
    (s.settleSupply).claims = s.claims := by
  simpa only [Prod.mk.injEq] using State.settleSupply_keep (fun x => (x.pending, x.power, x.clock, x.cfg, x.store, x.storeWrite, x.ports, x.inputs, x.claims))
    (fun _ _ => rfl) (fun _ _ => rfl) (fun _ _ => rfl) (fun _ _ => rfl) (fun _ _ => rfl) (fun _ _ => rfl) (fun _ _ => rfl) (fun _ _ => rfl) (fun _ _ => rfl) (fun _ _ => rfl) (fun _ _ => rfl) ..

@[simp] theorem State.applySupply_frame (s : State) (r : SupplyRec) :
    (s.applySupply r).pending = s.pending ∧
    (s.applySupply r).power = s.power ∧
    (s.applySupply r).clock = s.clock ∧
    (s.applySupply r).store = s.store ∧
    (s.applySupply r).storeWrite = s.storeWrite ∧
    (s.applySupply r).ports = s.ports ∧
    (s.applySupply r).slots = s.slots ∧
    (s.applySupply r).inputs = s.inputs ∧
    (s.applySupply r).claims = s.claims ∧
    (s.applySupply r).results = s.results ∧
    (s.applySupply r).gates = s.gates ∧
    (s.applySupply r).flash = s.flash ∧
    (s.applySupply r).seq = s.seq ∧
    (s.applySupply r).gauges = s.gauges := by
  simpa only [Prod.mk.injEq] using State.applySupply_keep (fun x => (x.pending, x.power, x.clock, x.store, x.storeWrite, x.ports, x.slots, x.inputs, x.claims, x.results, x.gates, x.flash, x.seq, x.gauges))
    (fun _ _ => rfl) (fun _ _ => rfl) (fun _ _ => rfl) (fun _ _ => rfl) (fun _ _ => rfl) (fun _ _ => rfl) ..

@[simp] theorem State.newSupply_frame (s : State) (r : SupplyRec) :
    (s.newSupply r).pending = s.pending ∧
    (s.newSupply r).power = s.power ∧
    (s.newSupply r).clock = s.clock ∧
    (s.newSupply r).store = s.store ∧
    (s.newSupply r).storeWrite = s.storeWrite ∧
    (s.newSupply r).ports = s.ports ∧
    (s.newSupply r).inputs = s.inputs ∧
    (s.newSupply r).claims = s.claims := by
  simpa only [Prod.mk.injEq] using State.newSupply_keep (fun x => (x.pending, x.power, x.clock, x.store, x.storeWrite, x.ports, x.inputs, x.claims))
    (fun _ _ => rfl) (fun _ _ => rfl) (fun _ _ => rfl) (fun _ _ => rfl) (fun _ _ => rfl) (fun _ _ => rfl) (fun _ _ => rfl) (fun _ _ => rfl) (fun _ _ => rfl) (fun _ _ => rfl) (fun _ _ => rfl) (fun _ _ => rfl) ..

@[simp] theorem State.sampleInput_frame (s : State) (l : PerInput Bool) (i : InputId) :
    (s.sampleInput l i).pending = s.pending ∧
    (s.sampleInput l i).power = s.power ∧
    (s.sampleInput l i).clock = s.clock ∧
    (s.sampleInput l i).cfg = s.cfg ∧
    (s.sampleInput l i).store = s.store ∧
    (s.sampleInput l i).storeWrite = s.storeWrite ∧
    (s.sampleInput l i).ports = s.ports ∧
    (s.sampleInput l i).slots = s.slots ∧
    (s.sampleInput l i).claims = s.claims ∧
    (s.sampleInput l i).results = s.results ∧
    (s.sampleInput l i).chans = s.chans ∧
    (s.sampleInput l i).queue = s.queue ∧
    (s.sampleInput l i).window = s.window ∧
    (s.sampleInput l i).gates = s.gates ∧
    (s.sampleInput l i).flash = s.flash ∧
    (s.sampleInput l i).sup = s.sup ∧
    (s.sampleInput l i).seq = s.seq ∧
    (s.sampleInput l i).gauges = s.gauges ∧
    (s.sampleInput l i).fan = s.fan := by
  simpa only [Prod.mk.injEq] using State.sampleInput_keep (fun x => (x.pending, x.power, x.clock, x.cfg, x.store, x.storeWrite, x.ports, x.slots, x.claims, x.results, x.chans, x.queue, x.window, x.gates, x.flash, x.sup, x.seq, x.gauges, x.fan))
    (fun _ _ => rfl) ..

@[simp] theorem State.sampleInputs_frame (s : State) (l : PerInput Bool) :
    (s.sampleInputs l).pending = s.pending ∧
    (s.sampleInputs l).power = s.power ∧
    (s.sampleInputs l).clock = s.clock ∧
    (s.sampleInputs l).cfg = s.cfg ∧
    (s.sampleInputs l).store = s.store ∧
    (s.sampleInputs l).storeWrite = s.storeWrite ∧
    (s.sampleInputs l).ports = s.ports ∧
    (s.sampleInputs l).slots = s.slots ∧
    (s.sampleInputs l).claims = s.claims ∧
    (s.sampleInputs l).results = s.results ∧
    (s.sampleInputs l).chans = s.chans ∧
    (s.sampleInputs l).queue = s.queue ∧
    (s.sampleInputs l).window = s.window ∧
    (s.sampleInputs l).gates = s.gates ∧
    (s.sampleInputs l).flash = s.flash ∧
    (s.sampleInputs l).sup = s.sup ∧
    (s.sampleInputs l).seq = s.seq ∧
    (s.sampleInputs l).gauges = s.gauges ∧
    (s.sampleInputs l).fan = s.fan := by
  simpa only [Prod.mk.injEq] using State.sampleInputs_keep (fun x => (x.pending, x.power, x.clock, x.cfg, x.store, x.storeWrite, x.ports, x.slots, x.claims, x.results, x.chans, x.queue, x.window, x.gates, x.flash, x.sup, x.seq, x.gauges, x.fan))
    (fun _ _ => rfl) ..

@[simp] theorem State.levelHandOn_frame (s : State) (i : InputId) (b : Bool) :
    (s.levelHandOn i b).pending = s.pending ∧
    (s.levelHandOn i b).power = s.power ∧
    (s.levelHandOn i b).clock = s.clock ∧
    (s.levelHandOn i b).cfg = s.cfg ∧
    (s.levelHandOn i b).store = s.store ∧
    (s.levelHandOn i b).storeWrite = s.storeWrite ∧
    (s.levelHandOn i b).ports = s.ports ∧
    (s.levelHandOn i b).inputs = s.inputs ∧
    (s.levelHandOn i b).gates = s.gates ∧
    (s.levelHandOn i b).seq = s.seq := by
  simpa only [Prod.mk.injEq] using State.levelHandOn_keep (fun x => (x.pending, x.power, x.clock, x.cfg, x.store, x.storeWrite, x.ports, x.inputs, x.gates, x.seq))
    (fun _ _ => rfl) (fun _ _ => rfl) (fun _ _ => rfl) (fun _ _ => rfl) (fun _ _ => rfl) (fun _ _ => rfl) (fun _ _ => rfl) (fun _ _ => rfl) (fun _ _ => rfl) (fun _ _ => rfl) ..

@[simp] theorem State.setLevel_frame (s : State) (i : InputId) (b e : Bool) :
    (s.setLevel i b e).pending = s.pending ∧
    (s.setLevel i b e).power = s.power ∧
    (s.setLevel i b e).clock = s.clock ∧
    (s.setLevel i b e).cfg = s.cfg ∧
    (s.setLevel i b e).store = s.store ∧
    (s.setLevel i b e).storeWrite = s.storeWrite ∧
    (s.setLevel i b e).ports = s.ports := by
  simpa only [Prod.mk.injEq] using State.setLevel_keep (fun x => (x.pending, x.power, x.clock, x.cfg, x.store, x.storeWrite, x.ports))
    (fun _ _ => rfl) (fun _ _ => rfl) (fun _ _ => rfl) (fun _ _ => rfl) (fun _ _ => rfl) (fun _ _ => rfl) (fun _ _ => rfl) (fun _ _ => rfl) (fun _ _ => rfl) (fun _ _ => rfl) (fun _ _ => rfl) (fun _ _ => rfl) (fun _ _ => rfl) ..

@[simp] theorem State.settleInput_frame (s : State) (i : InputId) :
    (s.settleInput i).pending = s.pending ∧
    (s.settleInput i).power = s.power ∧
    (s.settleInput i).clock = s.clock ∧
    (s.settleInput i).cfg = s.cfg ∧
    (s.settleInput i).store = s.store ∧
    (s.settleInput i).storeWrite = s.storeWrite ∧
    (s.settleInput i).ports = s.ports := by
  simpa only [Prod.mk.injEq] using State.settleInput_keep (fun x => (x.pending, x.power, x.clock, x.cfg, x.store, x.storeWrite, x.ports))
    (fun _ _ => rfl) (fun _ _ => rfl) (fun _ _ => rfl) (fun _ _ => rfl) (fun _ _ => rfl) (fun _ _ => rfl) (fun _ _ => rfl) (fun _ _ => rfl) (fun _ _ => rfl) (fun _ _ => rfl) (fun _ _ => rfl) (fun _ _ => rfl) (fun _ _ => rfl) ..

@[simp] theorem State.settleInputsOf_frame (s : State) (ids : List InputId) :
    (s.settleInputsOf ids).pending = s.pending ∧
    (s.settleInputsOf ids).clock = s.clock ∧
    (s.settleInputsOf ids).cfg = s.cfg ∧
    (s.settleInputsOf ids).store = s.store ∧
    (s.settleInputsOf ids).storeWrite = s.storeWrite ∧
    (s.settleInputsOf ids).ports = s.ports := by
  simpa only [Prod.mk.injEq] using State.settleInputsOf_keep (fun x => (x.pending, x.clock, x.cfg, x.store, x.storeWrite, x.ports))
    (fun _ _ => rfl) (fun _ _ => rfl) (fun _ _ => rfl) (fun _ _ => rfl) (fun _ _ => rfl) (fun _ _ => rfl) (fun _ _ => rfl) (fun _ _ => rfl) (fun _ _ => rfl) (fun _ _ => rfl) (fun _ _ => rfl) (fun _ _ => rfl) (fun _ _ => rfl) (fun _ _ => rfl) ..

@[simp] theorem State.settleInputs_frame (s : State) :
    (s.settleInputs).pending = s.pending ∧
    (s.settleInputs).clock = s.clock ∧
    (s.settleInputs).cfg = s.cfg ∧
    (s.settleInputs).store = s.store ∧
    (s.settleInputs).storeWrite = s.storeWrite ∧
    (s.settleInputs).ports = s.ports := by
  simpa only [Prod.mk.injEq] using State.settleInputs_keep (fun x => (x.pending, x.clock, x.cfg, x.store, x.storeWrite, x.ports))
    (fun _ _ => rfl) (fun _ _ => rfl) (fun _ _ => rfl) (fun _ _ => rfl) (fun _ _ => rfl) (fun _ _ => rfl) (fun _ _ => rfl) (fun _ _ => rfl) (fun _ _ => rfl) (fun _ _ => rfl) (fun _ _ => rfl) (fun _ _ => rfl) (fun _ _ => rfl) (fun _ _ => rfl) ..

@[simp] theorem State.postRequests_frame (s : State) :
    (s.postRequests).pending = s.pending ∧
    (s.postRequests).power = s.power ∧
    (s.postRequests).clock = s.clock ∧
    (s.postRequests).cfg = s.cfg ∧
    (s.postRequests).store = s.store ∧
    (s.postRequests).storeWrite = s.storeWrite ∧
    (s.postRequests).ports = s.ports ∧
    (s.postRequests).slots = s.slots ∧
    (s.postRequests).inputs = s.inputs ∧
    (s.postRequests).claims = s.claims ∧
    (s.postRequests).results = s.results ∧
    (s.postRequests).chans = s.chans ∧
    (s.postRequests).queue = s.queue ∧
    (s.postRequests).window = s.window ∧
    (s.postRequests).gates = s.gates ∧
    (s.postRequests).flash = s.flash ∧
    (s.postRequests).sup = s.sup ∧
    (s.postRequests).gauges = s.gauges ∧
    (s.postRequests).fan = s.fan := by
  simpa only [Prod.mk.injEq] using State.postRequests_keep (fun x => (x.pending, x.power, x.clock, x.cfg, x.store, x.storeWrite, x.ports, x.slots, x.inputs, x.claims, x.results, x.chans, x.queue, x.window, x.gates, x.flash, x.sup, x.gauges, x.fan))
    (fun _ _ => rfl) ..

@[simp] theorem State.serve_frame (s : State) (x : Source) (v : Nat) :
    (s.serve x v).pending = s.pending ∧
    (s.serve x v).power = s.power ∧
    (s.serve x v).clock = s.clock ∧
    (s.serve x v).cfg = s.cfg ∧
    (s.serve x v).store = s.store ∧
    (s.serve x v).storeWrite = s.storeWrite ∧
    (s.serve x v).ports = s.ports ∧
    (s.serve x v).slots = s.slots ∧
    (s.serve x v).inputs = s.inputs ∧
    (s.serve x v).claims = s.claims ∧
    (s.serve x v).results = s.results ∧
    (s.serve x v).chans = s.chans ∧
    (s.serve x v).queue = s.queue ∧
    (s.serve x v).window = s.window ∧
    (s.serve x v).gates = s.gates ∧
    (s.serve x v).flash = s.flash ∧
    (s.serve x v).sup = s.sup ∧
    (s.serve x v).gauges = s.gauges ∧
    (s.serve x v).fan = s.fan := by
  simpa only [Prod.mk.injEq] using State.serve_keep (fun x => (x.pending, x.power, x.clock, x.cfg, x.store, x.storeWrite, x.ports, x.slots, x.inputs, x.claims, x.results, x.chans, x.queue, x.window, x.gates, x.flash, x.sup, x.gauges, x.fan))
    (fun _ _ => rfl) ..

@[simp] theorem State.abandonUnservable_frame (s : State) :
    (s.abandonUnservable).pending = s.pending ∧
    (s.abandonUnservable).power = s.power ∧
    (s.abandonUnservable).clock = s.clock ∧
    (s.abandonUnservable).cfg = s.cfg ∧
    (s.abandonUnservable).store = s.store ∧
    (s.abandonUnservable).storeWrite = s.storeWrite ∧
    (s.abandonUnservable).ports = s.ports ∧
    (s.abandonUnservable).slots = s.slots ∧
    (s.abandonUnservable).inputs = s.inputs ∧
    (s.abandonUnservable).claims = s.claims ∧
    (s.abandonUnservable).results = s.results ∧
    (s.abandonUnservable).chans = s.chans ∧
    (s.abandonUnservable).queue = s.queue ∧
    (s.abandonUnservable).window = s.window ∧
    (s.abandonUnservable).gates = s.gates ∧
    (s.abandonUnservable).flash = s.flash ∧
    (s.abandonUnservable).sup = s.sup ∧
    (s.abandonUnservable).gauges = s.gauges ∧
    (s.abandonUnservable).fan = s.fan := by
  simpa only [Prod.mk.injEq] using State.abandonUnservable_keep (fun x => (x.pending, x.power, x.clock, x.cfg, x.store, x.storeWrite, x.ports, x.slots, x.inputs, x.claims, x.results, x.chans, x.queue, x.window, x.gates, x.flash, x.sup, x.gauges, x.fan))
    (fun _ _ => rfl) ..

@[simp] theorem State.hunt_frame (s : State) (p : Port) (n : Nat) :
    (s.hunt p n).pending = s.pending ∧
    (s.hunt p n).power = s.power ∧
    (s.hunt p n).clock = s.clock ∧
    (s.hunt p n).cfg = s.cfg ∧
    (s.hunt p n).store = s.store ∧
    (s.hunt p n).storeWrite = s.storeWrite ∧
    (s.hunt p n).slots = s.slots ∧
    (s.hunt p n).inputs = s.inputs ∧
    (s.hunt p n).claims = s.claims ∧
    (s.hunt p n).results = s.results ∧
    (s.hunt p n).chans = s.chans ∧
    (s.hunt p n).queue = s.queue ∧
    (s.hunt p n).window = s.window ∧
    (s.hunt p n).gates = s.gates ∧
    (s.hunt p n).flash = s.flash ∧
    (s.hunt p n).sup = s.sup ∧
    (s.hunt p n).seq = s.seq ∧
    (s.hunt p n).gauges = s.gauges ∧
    (s.hunt p n).fan = s.fan := by
  simpa only [Prod.mk.injEq] using State.hunt_keep (fun x => (x.pending, x.power, x.clock, x.cfg, x.store, x.storeWrite, x.slots, x.inputs, x.claims, x.results, x.chans, x.queue, x.window, x.gates, x.flash, x.sup, x.seq, x.gauges, x.fan))
    (fun _ _ => rfl) ..

@[simp] theorem State.accept_frame (s : State) (p : Port) (f : Frame) :
    (s.accept p f).pending = s.pending ∧
    (s.accept p f).clock = s.clock ∧
    (s.accept p f).cfg = s.cfg ∧
    (s.accept p f).store = s.store ∧
    (s.accept p f).storeWrite = s.storeWrite ∧
    (s.accept p f).inputs = s.inputs ∧
    (s.accept p f).gates = s.gates ∧
    (s.accept p f).sup = s.sup ∧
    (s.accept p f).seq = s.seq ∧
    (s.accept p f).gauges = s.gauges := by
  simpa only [Prod.mk.injEq] using State.accept_keep (fun x => (x.pending, x.clock, x.cfg, x.store, x.storeWrite, x.inputs, x.gates, x.sup, x.seq, x.gauges))
    (fun _ _ => rfl) (fun _ _ => rfl) (fun _ _ => rfl) (fun _ _ => rfl) (fun _ _ => rfl) (fun _ _ => rfl) (fun _ _ => rfl) (fun _ _ => rfl) (fun _ _ => rfl) (fun _ _ => rfl) ..

@[simp] theorem State.judge_frame (s : State) (p : Port) (f : RawFrame) :
    (s.judge p f).pending = s.pending ∧
    (s.judge p f).clock = s.clock ∧
    (s.judge p f).cfg = s.cfg ∧
    (s.judge p f).store = s.store ∧
    (s.judge p f).storeWrite = s.storeWrite ∧
    (s.judge p f).inputs = s.inputs ∧
    (s.judge p f).gates = s.gates ∧
    (s.judge p f).sup = s.sup ∧
    (s.judge p f).seq = s.seq ∧
    (s.judge p f).gauges = s.gauges := by
  simpa only [Prod.mk.injEq] using State.judge_keep (fun x => (x.pending, x.clock, x.cfg, x.store, x.storeWrite, x.inputs, x.gates, x.sup, x.seq, x.gauges))
    (fun _ _ => rfl) (fun _ _ => rfl) (fun _ _ => rfl) (fun _ _ => rfl) (fun _ _ => rfl) (fun _ _ => rfl) (fun _ _ => rfl) (fun _ _ => rfl) (fun _ _ => rfl) (fun _ _ => rfl) ..

@[simp] theorem State.applyRate_frame (s : State) (p : Port) :
    (s.applyRate p).pending = s.pending ∧
    (s.applyRate p).power = s.power ∧
    (s.applyRate p).clock = s.clock ∧
    (s.applyRate p).cfg = s.cfg ∧
    (s.applyRate p).store = s.store ∧
    (s.applyRate p).storeWrite = s.storeWrite ∧
    (s.applyRate p).slots = s.slots ∧
    (s.applyRate p).inputs = s.inputs ∧
    (s.applyRate p).claims = s.claims ∧
    (s.applyRate p).results = s.results ∧
    (s.applyRate p).chans = s.chans ∧
    (s.applyRate p).queue = s.queue ∧
    (s.applyRate p).window = s.window ∧
    (s.applyRate p).gates = s.gates ∧
    (s.applyRate p).flash = s.flash ∧
    (s.applyRate p).sup = s.sup ∧
    (s.applyRate p).seq = s.seq ∧
    (s.applyRate p).gauges = s.gauges ∧
    (s.applyRate p).fan = s.fan := by
  simpa only [Prod.mk.injEq] using State.applyRate_keep (fun x => (x.pending, x.power, x.clock, x.cfg, x.store, x.storeWrite, x.slots, x.inputs, x.claims, x.results, x.chans, x.queue, x.window, x.gates, x.flash, x.sup, x.seq, x.gauges, x.fan))
    (fun _ _ => rfl) ..

@[simp] theorem State.applyRates_frame (s : State) :
    (s.applyRates).pending = s.pending ∧
    (s.applyRates).power = s.power ∧
    (s.applyRates).clock = s.clock ∧
    (s.applyRates).cfg = s.cfg ∧
    (s.applyRates).store = s.store ∧
    (s.applyRates).storeWrite = s.storeWrite ∧
    (s.applyRates).slots = s.slots ∧
    (s.applyRates).inputs = s.inputs ∧
    (s.applyRates).claims = s.claims ∧
    (s.applyRates).results = s.results ∧
    (s.applyRates).chans = s.chans ∧
    (s.applyRates).queue = s.queue ∧
    (s.applyRates).window = s.window ∧
    (s.applyRates).gates = s.gates ∧
    (s.applyRates).flash = s.flash ∧
    (s.applyRates).sup = s.sup ∧
    (s.applyRates).seq = s.seq ∧
    (s.applyRates).gauges = s.gauges ∧
    (s.applyRates).fan = s.fan := by
  simpa only [Prod.mk.injEq] using State.applyRates_keep (fun x => (x.pending, x.power, x.clock, x.cfg, x.store, x.storeWrite, x.slots, x.inputs, x.claims, x.results, x.chans, x.queue, x.window, x.gates, x.flash, x.sup, x.seq, x.gauges, x.fan))
    (fun _ _ => rfl) ..

@[simp] theorem State.leaveQueue_frame (s : State) (p : Port) :
    (s.leaveQueue p).pending = s.pending ∧
    (s.leaveQueue p).power = s.power ∧
    (s.leaveQueue p).clock = s.clock ∧
    (s.leaveQueue p).cfg = s.cfg ∧
    (s.leaveQueue p).store = s.store ∧
    (s.leaveQueue p).storeWrite = s.storeWrite ∧
    (s.leaveQueue p).slots = s.slots ∧
    (s.leaveQueue p).inputs = s.inputs ∧
    (s.leaveQueue p).claims = s.claims ∧
    (s.leaveQueue p).results = s.results ∧
    (s.leaveQueue p).chans = s.chans ∧
    (s.leaveQueue p).queue = s.queue ∧
    (s.leaveQueue p).window = s.window ∧
    (s.leaveQueue p).gates = s.gates ∧
    (s.leaveQueue p).flash = s.flash ∧
    (s.leaveQueue p).sup = s.sup ∧
    (s.leaveQueue p).seq = s.seq ∧
    (s.leaveQueue p).gauges = s.gauges ∧
    (s.leaveQueue p).fan = s.fan := by
  simpa only [Prod.mk.injEq] using State.leaveQueue_keep (fun x => (x.pending, x.power, x.clock, x.cfg, x.store, x.storeWrite, x.slots, x.inputs, x.claims, x.results, x.chans, x.queue, x.window, x.gates, x.flash, x.sup, x.seq, x.gauges, x.fan))
    (fun _ _ => rfl) ..

@[simp] theorem State.clearChannel_frame (s : State) (b : Byte) :
    (s.clearChannel b).pending = s.pending ∧
    (s.clearChannel b).power = s.power ∧
    (s.clearChannel b).clock = s.clock ∧
    (s.clearChannel b).cfg = s.cfg ∧
    (s.clearChannel b).store = s.store ∧
    (s.clearChannel b).storeWrite = s.storeWrite ∧
    (s.clearChannel b).ports = s.ports ∧
    (s.clearChannel b).slots = s.slots ∧
    (s.clearChannel b).inputs = s.inputs ∧
    (s.clearChannel b).claims = s.claims ∧
    (s.clearChannel b).results = s.results ∧
    (s.clearChannel b).queue = s.queue ∧
    (s.clearChannel b).window = s.window ∧
    (s.clearChannel b).gates = s.gates ∧
    (s.clearChannel b).flash = s.flash ∧
    (s.clearChannel b).sup = s.sup ∧
    (s.clearChannel b).seq = s.seq ∧
    (s.clearChannel b).gauges = s.gauges := by
  simpa only [Prod.mk.injEq] using State.clearChannel_keep (fun x => (x.pending, x.power, x.clock, x.cfg, x.store, x.storeWrite, x.ports, x.slots, x.inputs, x.claims, x.results, x.queue, x.window, x.gates, x.flash, x.sup, x.seq, x.gauges))
    (fun _ _ => rfl) (fun _ _ => rfl) ..

@[simp] theorem State.retarget_frame (s : State) (c : VClass) :
    (s.retarget c).pending = s.pending ∧
    (s.retarget c).power = s.power ∧
    (s.retarget c).clock = s.clock ∧
    (s.retarget c).store = s.store ∧
    (s.retarget c).storeWrite = s.storeWrite ∧
    (s.retarget c).ports = s.ports ∧
    (s.retarget c).slots = s.slots ∧
    (s.retarget c).inputs = s.inputs ∧
    (s.retarget c).claims = s.claims ∧
    (s.retarget c).results = s.results ∧
    (s.retarget c).chans = s.chans ∧
    (s.retarget c).queue = s.queue ∧
    (s.retarget c).window = s.window ∧
    (s.retarget c).gates = s.gates ∧
    (s.retarget c).flash = s.flash ∧
    (s.retarget c).sup = s.sup ∧
    (s.retarget c).seq = s.seq ∧
    (s.retarget c).gauges = s.gauges ∧
    (s.retarget c).fan = s.fan := by
  simpa only [Prod.mk.injEq] using State.retarget_keep (fun x => (x.pending, x.power, x.clock, x.store, x.storeWrite, x.ports, x.slots, x.inputs, x.claims, x.results, x.chans, x.queue, x.window, x.gates, x.flash, x.sup, x.seq, x.gauges, x.fan))
    (fun _ _ => rfl) ..

@[simp] theorem State.changeClass_frame (s : State) (c : VClass) :
    (s.changeClass c).pending = s.pending ∧
    (s.changeClass c).power = s.power ∧
    (s.changeClass c).clock = s.clock ∧
    (s.changeClass c).store = s.store ∧
    (s.changeClass c).storeWrite = s.storeWrite ∧
    (s.changeClass c).ports = s.ports ∧
    (s.changeClass c).inputs = s.inputs ∧
    (s.changeClass c).claims = s.claims := by
  simpa only [Prod.mk.injEq] using State.changeClass_keep (fun x => (x.pending, x.power, x.clock, x.store, x.storeWrite, x.ports, x.inputs, x.claims))
    (fun _ _ => rfl) (fun _ _ => rfl) (fun _ _ => rfl) (fun _ _ => rfl) (fun _ _ => rfl) (fun _ _ => rfl) (fun _ _ => rfl) (fun _ _ => rfl) (fun _ _ => rfl) (fun _ _ => rfl) (fun _ _ => rfl) (fun _ _ => rfl) ..

@[simp] theorem State.applyUnit_frame (s : State) (p : Port) (b : Bool) (r : UnitRec) :
    (s.applyUnit p b r).pending = s.pending ∧
    (s.applyUnit p b r).power = s.power ∧
    (s.applyUnit p b r).clock = s.clock ∧
    (s.applyUnit p b r).store = s.store ∧
    (s.applyUnit p b r).storeWrite = s.storeWrite ∧
    (s.applyUnit p b r).inputs = s.inputs ∧
    (s.applyUnit p b r).claims = s.claims := by
  simpa only [Prod.mk.injEq] using State.applyUnit_keep (fun x => (x.pending, x.power, x.clock, x.store, x.storeWrite, x.inputs, x.claims))
    (fun _ _ => rfl) (fun _ _ => rfl) (fun _ _ => rfl) (fun _ _ => rfl) (fun _ _ => rfl) (fun _ _ => rfl) (fun _ _ => rfl) (fun _ _ => rfl) (fun _ _ => rfl) (fun _ _ => rfl) (fun _ _ => rfl) (fun _ _ => rfl) (fun _ _ => rfl) ..

@[simp] theorem State.restartRuns_frame (s : State) :
    (s.restartRuns).pending = s.pending ∧
    (s.restartRuns).power = s.power ∧
    (s.restartRuns).clock = s.clock ∧
    (s.restartRuns).cfg = s.cfg ∧
    (s.restartRuns).store = s.store ∧
    (s.restartRuns).storeWrite = s.storeWrite ∧
    (s.restartRuns).ports = s.ports ∧
    (s.restartRuns).slots = s.slots ∧
    (s.restartRuns).claims = s.claims ∧
    (s.restartRuns).results = s.results ∧
    (s.restartRuns).chans = s.chans ∧
    (s.restartRuns).queue = s.queue ∧
    (s.restartRuns).window = s.window ∧
    (s.restartRuns).gates = s.gates ∧
    (s.restartRuns).flash = s.flash ∧
    (s.restartRuns).sup = s.sup ∧
    (s.restartRuns).seq = s.seq ∧
    (s.restartRuns).gauges = s.gauges ∧
    (s.restartRuns).fan = s.fan := by
  simpa only [Prod.mk.injEq] using State.restartRuns_keep (fun x => (x.pending, x.power, x.clock, x.cfg, x.store, x.storeWrite, x.ports, x.slots, x.claims, x.results, x.chans, x.queue, x.window, x.gates, x.flash, x.sup, x.seq, x.gauges, x.fan))
    (fun _ _ => rfl) ..

@[simp] theorem State.applyInputs_frame (s : State) (r : PerInput InputRec) :
    (s.applyInputs r).pending = s.pending ∧
    (s.applyInputs r).clock = s.clock ∧
    (s.applyInputs r).store = s.store ∧
    (s.applyInputs r).storeWrite = s.storeWrite ∧
    (s.applyInputs r).ports = s.ports := by
  simpa only [Prod.mk.injEq] using State.applyInputs_keep (fun x => (x.pending, x.clock, x.store, x.storeWrite, x.ports))
    (fun _ _ => rfl) (fun _ _ => rfl) (fun _ _ => rfl) (fun _ _ => rfl) (fun _ _ => rfl) (fun _ _ => rfl) (fun _ _ => rfl) (fun _ _ => rfl) (fun _ _ => rfl) (fun _ _ => rfl) (fun _ _ => rfl) (fun _ _ => rfl) (fun _ _ => rfl) (fun _ _ => rfl) (fun _ _ => rfl) ..

@[simp] theorem State.forgetSlot_frame (s : State) (m : SlotId) :
    (s.forgetSlot m).pending = s.pending ∧
    (s.forgetSlot m).power = s.power ∧
    (s.forgetSlot m).clock = s.clock ∧
    (s.forgetSlot m).cfg = s.cfg ∧
    (s.forgetSlot m).store = s.store ∧
    (s.forgetSlot m).storeWrite = s.storeWrite ∧
    (s.forgetSlot m).ports = s.ports ∧
    (s.forgetSlot m).inputs = s.inputs ∧
    (s.forgetSlot m).gates = s.gates ∧
    (s.forgetSlot m).sup = s.sup ∧
    (s.forgetSlot m).seq = s.seq ∧
    (s.forgetSlot m).gauges = s.gauges := by
  simpa only [Prod.mk.injEq] using State.forgetSlot_keep (fun x => (x.pending, x.power, x.clock, x.cfg, x.store, x.storeWrite, x.ports, x.inputs, x.gates, x.sup, x.seq, x.gauges))
    (fun _ _ => rfl) (fun _ _ => rfl) (fun _ _ => rfl) (fun _ _ => rfl) (fun _ _ => rfl) (fun _ _ => rfl) (fun _ _ => rfl) (fun _ _ => rfl) ..

@[simp] theorem State.applySlot_frame (s : State) (x : SlotId × SlotRec) :
    (s.applySlot x).pending = s.pending ∧
    (s.applySlot x).power = s.power ∧
    (s.applySlot x).clock = s.clock ∧
    (s.applySlot x).store = s.store ∧
    (s.applySlot x).storeWrite = s.storeWrite ∧
    (s.applySlot x).ports = s.ports ∧
    (s.applySlot x).inputs = s.inputs ∧
    (s.applySlot x).gates = s.gates ∧
    (s.applySlot x).sup = s.sup ∧
    (s.applySlot x).seq = s.seq ∧
    (s.applySlot x).gauges = s.gauges := by
  simpa only [Prod.mk.injEq] using State.applySlot_keep (fun x => (x.pending, x.power, x.clock, x.store, x.storeWrite, x.ports, x.inputs, x.gates, x.sup, x.seq, x.gauges))
    (fun _ _ => rfl) (fun _ _ => rfl) (fun _ _ => rfl) (fun _ _ => rfl) (fun _ _ => rfl) (fun _ _ => rfl) (fun _ _ => rfl) (fun _ _ => rfl) (fun _ _ => rfl) ..

@[simp] theorem State.applyFunction_frame (s : State) (x : Fn × FunctionRec) :
    (s.applyFunction x).pending = s.pending ∧
    (s.applyFunction x).power = s.power ∧
    (s.applyFunction x).clock = s.clock ∧
    (s.applyFunction x).store = s.store ∧
    (s.applyFunction x).storeWrite = s.storeWrite ∧
    (s.applyFunction x).ports = s.ports ∧
    (s.applyFunction x).slots = s.slots ∧
    (s.applyFunction x).inputs = s.inputs ∧
    (s.applyFunction x).gates = s.gates ∧
    (s.applyFunction x).sup = s.sup ∧
    (s.applyFunction x).seq = s.seq ∧
    (s.applyFunction x).gauges = s.gauges := by
  simpa only [Prod.mk.injEq] using State.applyFunction_keep (fun x => (x.pending, x.power, x.clock, x.store, x.storeWrite, x.ports, x.slots, x.inputs, x.gates, x.sup, x.seq, x.gauges))
    (fun _ _ => rfl) (fun _ _ => rfl) (fun _ _ => rfl) (fun _ _ => rfl) (fun _ _ => rfl) (fun _ _ => rfl) (fun _ _ => rfl) (fun _ _ => rfl) ..

@[simp] theorem State.resetHealth_frame (s : State) (c : Channel) :
    (s.resetHealth c).pending = s.pending ∧
    (s.resetHealth c).power = s.power ∧
    (s.resetHealth c).clock = s.clock ∧
    (s.resetHealth c).cfg = s.cfg ∧
    (s.resetHealth c).store = s.store ∧
    (s.resetHealth c).storeWrite = s.storeWrite ∧
    (s.resetHealth c).ports = s.ports ∧
    (s.resetHealth c).inputs = s.inputs ∧
    (s.resetHealth c).claims = s.claims ∧
    (s.resetHealth c).results = s.results ∧
    (s.resetHealth c).queue = s.queue ∧
    (s.resetHealth c).window = s.window ∧
    (s.resetHealth c).gates = s.gates ∧
    (s.resetHealth c).flash = s.flash ∧
    (s.resetHealth c).sup = s.sup ∧
    (s.resetHealth c).seq = s.seq ∧
    (s.resetHealth c).gauges = s.gauges ∧
    (s.resetHealth c).fan = s.fan := by
  simpa only [Prod.mk.injEq] using State.resetHealth_keep (fun x => (x.pending, x.power, x.clock, x.cfg, x.store, x.storeWrite, x.ports, x.inputs, x.claims, x.results, x.queue, x.window, x.gates, x.flash, x.sup, x.seq, x.gauges, x.fan))
    (fun _ _ => rfl) (fun _ _ => rfl) ..

@[simp] theorem State.applyChannel_frame (s : State) (x : Channel × ChannelRec) :
    (s.applyChannel x).pending = s.pending ∧
    (s.applyChannel x).power = s.power ∧
    (s.applyChannel x).clock = s.clock ∧
    (s.applyChannel x).store = s.store ∧
    (s.applyChannel x).storeWrite = s.storeWrite ∧
    (s.applyChannel x).ports = s.ports ∧
    (s.applyChannel x).inputs = s.inputs ∧
    (s.applyChannel x).claims = s.claims ∧
    (s.applyChannel x).results = s.results ∧
    (s.applyChannel x).gates = s.gates ∧
    (s.applyChannel x).flash = s.flash ∧
    (s.applyChannel x).sup = s.sup ∧
    (s.applyChannel x).seq = s.seq ∧
    (s.applyChannel x).gauges = s.gauges := by
  simpa only [Prod.mk.injEq] using State.applyChannel_keep (fun x => (x.pending, x.power, x.clock, x.store, x.storeWrite, x.ports, x.inputs, x.claims, x.results, x.gates, x.flash, x.sup, x.seq, x.gauges))
    (fun _ _ => rfl) (fun _ _ => rfl) (fun _ _ => rfl) (fun _ _ => rfl) (fun _ _ => rfl) (fun _ _ => rfl) ..

@[simp] theorem State.fanChannelChanged_frame (s : State) (o : Option Channel) :
    (s.fanChannelChanged o).pending = s.pending ∧
    (s.fanChannelChanged o).power = s.power ∧
    (s.fanChannelChanged o).clock = s.clock ∧
    (s.fanChannelChanged o).cfg = s.cfg ∧
    (s.fanChannelChanged o).store = s.store ∧
    (s.fanChannelChanged o).storeWrite = s.storeWrite ∧
    (s.fanChannelChanged o).ports = s.ports ∧
    (s.fanChannelChanged o).slots = s.slots ∧
    (s.fanChannelChanged o).inputs = s.inputs ∧
    (s.fanChannelChanged o).claims = s.claims ∧
    (s.fanChannelChanged o).results = s.results ∧
    (s.fanChannelChanged o).queue = s.queue ∧
    (s.fanChannelChanged o).window = s.window ∧
    (s.fanChannelChanged o).gates = s.gates ∧
    (s.fanChannelChanged o).flash = s.flash ∧
    (s.fanChannelChanged o).sup = s.sup ∧
    (s.fanChannelChanged o).seq = s.seq ∧
    (s.fanChannelChanged o).gauges = s.gauges := by
  simpa only [Prod.mk.injEq] using State.fanChannelChanged_keep (fun x => (x.pending, x.power, x.clock, x.cfg, x.store, x.storeWrite, x.ports, x.slots, x.inputs, x.claims, x.results, x.queue, x.window, x.gates, x.flash, x.sup, x.seq, x.gauges))
    (fun _ _ => rfl) (fun _ _ => rfl) ..

@[simp] theorem State.applyMap_frame (s : State) (x : Fin 32 × Option MapEntry) :
    (s.applyMap x).pending = s.pending ∧
    (s.applyMap x).power = s.power ∧
    (s.applyMap x).clock = s.clock ∧
    (s.applyMap x).store = s.store ∧
    (s.applyMap x).storeWrite = s.storeWrite ∧
    (s.applyMap x).ports = s.ports ∧
    (s.applyMap x).slots = s.slots ∧
    (s.applyMap x).inputs = s.inputs ∧
    (s.applyMap x).claims = s.claims ∧
    (s.applyMap x).results = s.results ∧
    (s.applyMap x).gates = s.gates ∧
    (s.applyMap x).flash = s.flash ∧
    (s.applyMap x).sup = s.sup ∧
    (s.applyMap x).seq = s.seq ∧
    (s.applyMap x).gauges = s.gauges := by
  simpa only [Prod.mk.injEq] using State.applyMap_keep (fun x => (x.pending, x.power, x.clock, x.store, x.storeWrite, x.ports, x.slots, x.inputs, x.claims, x.results, x.gates, x.flash, x.sup, x.seq, x.gauges))
    (fun _ _ => rfl) (fun _ _ => rfl) (fun _ _ => rfl) (fun _ _ => rfl) (fun _ _ => rfl) ..

@[simp] theorem State.applyGauge_frame (s : State) (x : GaugeId × GaugeRec) :
    (s.applyGauge x).pending = s.pending ∧
    (s.applyGauge x).power = s.power ∧
    (s.applyGauge x).clock = s.clock ∧
    (s.applyGauge x).store = s.store ∧
    (s.applyGauge x).storeWrite = s.storeWrite ∧
    (s.applyGauge x).ports = s.ports ∧
    (s.applyGauge x).slots = s.slots ∧
    (s.applyGauge x).inputs = s.inputs ∧
    (s.applyGauge x).claims = s.claims ∧
    (s.applyGauge x).results = s.results ∧
    (s.applyGauge x).gates = s.gates ∧
    (s.applyGauge x).flash = s.flash ∧
    (s.applyGauge x).sup = s.sup ∧
    (s.applyGauge x).seq = s.seq ∧
    (s.applyGauge x).gauges = s.gauges := by
  simpa only [Prod.mk.injEq] using State.applyGauge_keep (fun x => (x.pending, x.power, x.clock, x.store, x.storeWrite, x.ports, x.slots, x.inputs, x.claims, x.results, x.gates, x.flash, x.sup, x.seq, x.gauges))
    (fun _ _ => rfl) (fun _ _ => rfl) (fun _ _ => rfl) (fun _ _ => rfl) (fun _ _ => rfl) ..

@[simp] theorem State.applyFlasher_frame (s : State) (r : FlasherRec) :
    (s.applyFlasher r).pending = s.pending ∧
    (s.applyFlasher r).power = s.power ∧
    (s.applyFlasher r).clock = s.clock ∧
    (s.applyFlasher r).store = s.store ∧
    (s.applyFlasher r).storeWrite = s.storeWrite ∧
    (s.applyFlasher r).ports = s.ports ∧
    (s.applyFlasher r).slots = s.slots ∧
    (s.applyFlasher r).inputs = s.inputs ∧
    (s.applyFlasher r).claims = s.claims ∧
    (s.applyFlasher r).results = s.results ∧
    (s.applyFlasher r).chans = s.chans ∧
    (s.applyFlasher r).queue = s.queue ∧
    (s.applyFlasher r).window = s.window ∧
    (s.applyFlasher r).gates = s.gates ∧
    (s.applyFlasher r).flash = s.flash ∧
    (s.applyFlasher r).sup = s.sup ∧
    (s.applyFlasher r).seq = s.seq ∧
    (s.applyFlasher r).gauges = s.gauges ∧
    (s.applyFlasher r).fan = s.fan := by
  simpa only [Prod.mk.injEq] using State.applyFlasher_keep (fun x => (x.pending, x.power, x.clock, x.store, x.storeWrite, x.ports, x.slots, x.inputs, x.claims, x.results, x.chans, x.queue, x.window, x.gates, x.flash, x.sup, x.seq, x.gauges, x.fan))
    (fun _ _ => rfl) ..

@[simp] theorem State.applyFan_frame (s : State) (r : FanRec) :
    (s.applyFan r).pending = s.pending ∧
    (s.applyFan r).power = s.power ∧
    (s.applyFan r).clock = s.clock ∧
    (s.applyFan r).store = s.store ∧
    (s.applyFan r).storeWrite = s.storeWrite ∧
    (s.applyFan r).ports = s.ports ∧
    (s.applyFan r).slots = s.slots ∧
    (s.applyFan r).inputs = s.inputs ∧
    (s.applyFan r).claims = s.claims ∧
    (s.applyFan r).results = s.results ∧
    (s.applyFan r).queue = s.queue ∧
    (s.applyFan r).window = s.window ∧
    (s.applyFan r).gates = s.gates ∧
    (s.applyFan r).flash = s.flash ∧
    (s.applyFan r).sup = s.sup ∧
    (s.applyFan r).seq = s.seq ∧
    (s.applyFan r).gauges = s.gauges := by
  simpa only [Prod.mk.injEq] using State.applyFan_keep (fun x => (x.pending, x.power, x.clock, x.store, x.storeWrite, x.ports, x.slots, x.inputs, x.claims, x.results, x.queue, x.window, x.gates, x.flash, x.sup, x.seq, x.gauges))
    (fun _ _ => rfl) (fun _ _ => rfl) (fun _ _ => rfl) ..

@[simp] theorem State.settleHold_frame (m : SlotId) (s : State) (f : Fn) :
    (State.settleHold m s f).pending = s.pending ∧
    (State.settleHold m s f).power = s.power ∧
    (State.settleHold m s f).clock = s.clock ∧
    (State.settleHold m s f).cfg = s.cfg ∧
    (State.settleHold m s f).store = s.store ∧
    (State.settleHold m s f).storeWrite = s.storeWrite ∧
    (State.settleHold m s f).ports = s.ports ∧
    (State.settleHold m s f).slots = s.slots ∧
    (State.settleHold m s f).inputs = s.inputs ∧
    (State.settleHold m s f).gates = s.gates ∧
    (State.settleHold m s f).sup = s.sup ∧
    (State.settleHold m s f).seq = s.seq ∧
    (State.settleHold m s f).gauges = s.gauges := by
  simpa only [Prod.mk.injEq] using State.settleHold_keep (fun x => (x.pending, x.power, x.clock, x.cfg, x.store, x.storeWrite, x.ports, x.slots, x.inputs, x.gates, x.sup, x.seq, x.gauges))
    (fun _ _ => rfl) (fun _ _ => rfl) (fun _ _ => rfl) (fun _ _ => rfl) (fun _ _ => rfl) (fun _ _ => rfl) (fun _ _ => rfl) ..

@[simp] theorem State.settleSlot_frame (s : State) (m : SlotId) :
    (s.settleSlot m).pending = s.pending ∧
    (s.settleSlot m).power = s.power ∧
    (s.settleSlot m).clock = s.clock ∧
    (s.settleSlot m).cfg = s.cfg ∧
    (s.settleSlot m).store = s.store ∧
    (s.settleSlot m).storeWrite = s.storeWrite ∧
    (s.settleSlot m).ports = s.ports ∧
    (s.settleSlot m).inputs = s.inputs ∧
    (s.settleSlot m).gates = s.gates ∧
    (s.settleSlot m).sup = s.sup ∧
    (s.settleSlot m).seq = s.seq ∧
    (s.settleSlot m).gauges = s.gauges := by
  simpa only [Prod.mk.injEq] using State.settleSlot_keep (fun x => (x.pending, x.power, x.clock, x.cfg, x.store, x.storeWrite, x.ports, x.inputs, x.gates, x.sup, x.seq, x.gauges))
    (fun _ _ => rfl) (fun _ _ => rfl) (fun _ _ => rfl) (fun _ _ => rfl) (fun _ _ => rfl) (fun _ _ => rfl) (fun _ _ => rfl) (fun _ _ => rfl) ..

@[simp] theorem State.settleFlash_frame (s : State) :
    (s.settleFlash).pending = s.pending ∧
    (s.settleFlash).power = s.power ∧
    (s.settleFlash).clock = s.clock ∧
    (s.settleFlash).cfg = s.cfg ∧
    (s.settleFlash).store = s.store ∧
    (s.settleFlash).storeWrite = s.storeWrite ∧
    (s.settleFlash).ports = s.ports ∧
    (s.settleFlash).inputs = s.inputs ∧
    (s.settleFlash).claims = s.claims ∧
    (s.settleFlash).results = s.results ∧
    (s.settleFlash).gates = s.gates ∧
    (s.settleFlash).sup = s.sup ∧
    (s.settleFlash).seq = s.seq ∧
    (s.settleFlash).gauges = s.gauges := by
  simpa only [Prod.mk.injEq] using State.settleFlash_keep (fun x => (x.pending, x.power, x.clock, x.cfg, x.store, x.storeWrite, x.ports, x.inputs, x.claims, x.results, x.gates, x.sup, x.seq, x.gauges))
    (fun _ _ => rfl) (fun _ _ => rfl) (fun _ _ => rfl) (fun _ _ => rfl) (fun _ _ => rfl) (fun _ _ => rfl) ..

@[simp] theorem State.settleGauge_frame (s : State) (g : GaugeId) :
    (s.settleGauge g).pending = s.pending ∧
    (s.settleGauge g).power = s.power ∧
    (s.settleGauge g).clock = s.clock ∧
    (s.settleGauge g).cfg = s.cfg ∧
    (s.settleGauge g).store = s.store ∧
    (s.settleGauge g).storeWrite = s.storeWrite ∧
    (s.settleGauge g).ports = s.ports ∧
    (s.settleGauge g).inputs = s.inputs ∧
    (s.settleGauge g).claims = s.claims ∧
    (s.settleGauge g).results = s.results ∧
    (s.settleGauge g).queue = s.queue ∧
    (s.settleGauge g).window = s.window ∧
    (s.settleGauge g).gates = s.gates ∧
    (s.settleGauge g).flash = s.flash ∧
    (s.settleGauge g).sup = s.sup ∧
    (s.settleGauge g).seq = s.seq := by
  simpa only [Prod.mk.injEq] using State.settleGauge_keep (fun x => (x.pending, x.power, x.clock, x.cfg, x.store, x.storeWrite, x.ports, x.inputs, x.claims, x.results, x.queue, x.window, x.gates, x.flash, x.sup, x.seq))
    (fun _ _ => rfl) (fun _ _ => rfl) (fun _ _ => rfl) (fun _ _ => rfl) ..

@[simp] theorem State.settleChannel_frame (s : State) (c : Channel) :
    (s.settleChannel c).pending = s.pending ∧
    (s.settleChannel c).power = s.power ∧
    (s.settleChannel c).clock = s.clock ∧
    (s.settleChannel c).cfg = s.cfg ∧
    (s.settleChannel c).store = s.store ∧
    (s.settleChannel c).storeWrite = s.storeWrite ∧
    (s.settleChannel c).ports = s.ports ∧
    (s.settleChannel c).inputs = s.inputs ∧
    (s.settleChannel c).claims = s.claims ∧
    (s.settleChannel c).results = s.results ∧
    (s.settleChannel c).gates = s.gates ∧
    (s.settleChannel c).flash = s.flash ∧
    (s.settleChannel c).sup = s.sup ∧
    (s.settleChannel c).seq = s.seq ∧
    (s.settleChannel c).gauges = s.gauges := by
  simpa only [Prod.mk.injEq] using State.settleChannel_keep (fun x => (x.pending, x.power, x.clock, x.cfg, x.store, x.storeWrite, x.ports, x.inputs, x.claims, x.results, x.gates, x.flash, x.sup, x.seq, x.gauges))
    (fun _ _ => rfl) (fun _ _ => rfl) (fun _ _ => rfl) (fun _ _ => rfl) (fun _ _ => rfl) ..

@[simp] theorem State.settleStall_frame (s : State) :
    (s.settleStall).pending = s.pending ∧
    (s.settleStall).power = s.power ∧
    (s.settleStall).clock = s.clock ∧
    (s.settleStall).cfg = s.cfg ∧
    (s.settleStall).store = s.store ∧
    (s.settleStall).storeWrite = s.storeWrite ∧
    (s.settleStall).ports = s.ports ∧
    (s.settleStall).inputs = s.inputs ∧
    (s.settleStall).claims = s.claims ∧
    (s.settleStall).results = s.results ∧
    (s.settleStall).flash = s.flash ∧
    (s.settleStall).sup = s.sup ∧
    (s.settleStall).gauges = s.gauges := by
  simpa only [Prod.mk.injEq] using State.settleStall_keep (fun x => (x.pending, x.power, x.clock, x.cfg, x.store, x.storeWrite, x.ports, x.inputs, x.claims, x.results, x.flash, x.sup, x.gauges))
    (fun _ _ => rfl) (fun _ _ => rfl) (fun _ _ => rfl) (fun _ _ => rfl) (fun _ _ => rfl) (fun _ _ => rfl) (fun _ _ => rfl) ..

@[simp] theorem State.settleStepsOf_frame (s : State) (ids : List InputId) :
    (s.settleStepsOf ids).pending = s.pending ∧
    (s.settleStepsOf ids).clock = s.clock ∧
    (s.settleStepsOf ids).cfg = s.cfg ∧
    (s.settleStepsOf ids).store = s.store ∧
    (s.settleStepsOf ids).storeWrite = s.storeWrite ∧
    (s.settleStepsOf ids).ports = s.ports := by
  simpa only [Prod.mk.injEq] using State.settleStepsOf_keep (fun x => (x.pending, x.clock, x.cfg, x.store, x.storeWrite, x.ports))
    (fun _ _ => rfl) (fun _ _ => rfl) (fun _ _ => rfl) (fun _ _ => rfl) (fun _ _ => rfl) (fun _ _ => rfl) (fun _ _ => rfl) (fun _ _ => rfl) (fun _ _ => rfl) (fun _ _ => rfl) (fun _ _ => rfl) (fun _ _ => rfl) (fun _ _ => rfl) (fun _ _ => rfl) ..

@[simp] theorem State.settleSteps_frame (s : State) :
    (s.settleSteps).pending = s.pending ∧
    (s.settleSteps).clock = s.clock ∧
    (s.settleSteps).cfg = s.cfg ∧
    (s.settleSteps).store = s.store ∧
    (s.settleSteps).storeWrite = s.storeWrite ∧
    (s.settleSteps).ports = s.ports := by
  simpa only [Prod.mk.injEq] using State.settleSteps_keep (fun x => (x.pending, x.clock, x.cfg, x.store, x.storeWrite, x.ports))
    (fun _ _ => rfl) (fun _ _ => rfl) (fun _ _ => rfl) (fun _ _ => rfl) (fun _ _ => rfl) (fun _ _ => rfl) (fun _ _ => rfl) (fun _ _ => rfl) (fun _ _ => rfl) (fun _ _ => rfl) (fun _ _ => rfl) (fun _ _ => rfl) (fun _ _ => rfl) (fun _ _ => rfl) ..

@[simp] theorem State.watchLine_frame (s : State) (p : Port) :
    (s.watchLine p).pending = s.pending ∧
    (s.watchLine p).power = s.power ∧
    (s.watchLine p).clock = s.clock ∧
    (s.watchLine p).cfg = s.cfg ∧
    (s.watchLine p).store = s.store ∧
    (s.watchLine p).storeWrite = s.storeWrite ∧
    (s.watchLine p).slots = s.slots ∧
    (s.watchLine p).inputs = s.inputs ∧
    (s.watchLine p).claims = s.claims ∧
    (s.watchLine p).results = s.results ∧
    (s.watchLine p).chans = s.chans ∧
    (s.watchLine p).queue = s.queue ∧
    (s.watchLine p).window = s.window ∧
    (s.watchLine p).gates = s.gates ∧
    (s.watchLine p).flash = s.flash ∧
    (s.watchLine p).sup = s.sup ∧
    (s.watchLine p).seq = s.seq ∧
    (s.watchLine p).gauges = s.gauges ∧
    (s.watchLine p).fan = s.fan := by
  simpa only [Prod.mk.injEq] using State.watchLine_keep (fun x => (x.pending, x.power, x.clock, x.cfg, x.store, x.storeWrite, x.slots, x.inputs, x.claims, x.results, x.chans, x.queue, x.window, x.gates, x.flash, x.sup, x.seq, x.gauges, x.fan))
    (fun _ _ => rfl) ..

@[simp] theorem State.sleep_frame (s : State) :
    (s.sleep).pending = s.pending ∧
    (s.sleep).clock = s.clock ∧
    (s.sleep).cfg = s.cfg ∧
    (s.sleep).store = s.store ∧
    (s.sleep).storeWrite = s.storeWrite ∧
    (s.sleep).slots = s.slots ∧
    (s.sleep).inputs = s.inputs ∧
    (s.sleep).claims = s.claims ∧
    (s.sleep).results = s.results ∧
    (s.sleep).chans = s.chans ∧
    (s.sleep).queue = s.queue ∧
    (s.sleep).window = s.window ∧
    (s.sleep).flash = s.flash ∧
    (s.sleep).sup = s.sup ∧
    (s.sleep).gauges = s.gauges ∧
    (s.sleep).fan = s.fan := by
  simpa only [Prod.mk.injEq] using State.sleep_keep (fun x => (x.pending, x.clock, x.cfg, x.store, x.storeWrite, x.slots, x.inputs, x.claims, x.results, x.chans, x.queue, x.window, x.flash, x.sup, x.gauges, x.fan))
    (fun _ _ => rfl) (fun _ _ => rfl) (fun _ _ => rfl) (fun _ _ => rfl) ..

@[simp] theorem State.settle_frame (s : State) :
    (s.settle).pending = s.pending ∧
    (s.settle).clock = s.clock ∧
    (s.settle).cfg = s.cfg ∧
    (s.settle).store = s.store ∧
    (s.settle).storeWrite = s.storeWrite := by
  simpa only [Prod.mk.injEq] using State.settle_keep (fun x => (x.pending, x.clock, x.cfg, x.store, x.storeWrite))
    (fun _ _ => rfl) (fun _ _ => rfl) (fun _ _ => rfl) (fun _ _ => rfl) (fun _ _ => rfl) (fun _ _ => rfl) (fun _ _ => rfl) (fun _ _ => rfl) (fun _ _ => rfl) (fun _ _ => rfl) (fun _ _ => rfl) (fun _ _ => rfl) (fun _ _ => rfl) (fun _ _ => rfl) (fun _ _ => rfl) ..

@[simp] theorem State.rawEvent_frame (s : State) (c : WakeCause) :
    (s.rawEvent c).pending = s.pending ∧
    (s.rawEvent c).power = s.power ∧
    (s.rawEvent c).clock = s.clock ∧
    (s.rawEvent c).cfg = s.cfg ∧
    (s.rawEvent c).store = s.store ∧
    (s.rawEvent c).storeWrite = s.storeWrite ∧
    (s.rawEvent c).ports = s.ports ∧
    (s.rawEvent c).slots = s.slots ∧
    (s.rawEvent c).claims = s.claims ∧
    (s.rawEvent c).results = s.results ∧
    (s.rawEvent c).chans = s.chans ∧
    (s.rawEvent c).queue = s.queue ∧
    (s.rawEvent c).window = s.window ∧
    (s.rawEvent c).gates = s.gates ∧
    (s.rawEvent c).flash = s.flash ∧
    (s.rawEvent c).sup = s.sup ∧
    (s.rawEvent c).seq = s.seq ∧
    (s.rawEvent c).gauges = s.gauges ∧
    (s.rawEvent c).fan = s.fan := by
  simpa only [Prod.mk.injEq] using State.rawEvent_keep (fun x => (x.pending, x.power, x.clock, x.cfg, x.store, x.storeWrite, x.ports, x.slots, x.claims, x.results, x.chans, x.queue, x.window, x.gates, x.flash, x.sup, x.seq, x.gauges, x.fan))
    (fun _ _ => rfl) ..

@[simp] theorem State.freshRun_frame (s : State) (i : InputId) :
    (s.freshRun i).pending = s.pending ∧
    (s.freshRun i).power = s.power ∧
    (s.freshRun i).clock = s.clock ∧
    (s.freshRun i).cfg = s.cfg ∧
    (s.freshRun i).store = s.store ∧
    (s.freshRun i).storeWrite = s.storeWrite ∧
    (s.freshRun i).ports = s.ports ∧
    (s.freshRun i).slots = s.slots ∧
    (s.freshRun i).claims = s.claims ∧
    (s.freshRun i).results = s.results ∧
    (s.freshRun i).chans = s.chans ∧
    (s.freshRun i).queue = s.queue ∧
    (s.freshRun i).window = s.window ∧
    (s.freshRun i).gates = s.gates ∧
    (s.freshRun i).flash = s.flash ∧
    (s.freshRun i).sup = s.sup ∧
    (s.freshRun i).seq = s.seq ∧
    (s.freshRun i).gauges = s.gauges ∧
    (s.freshRun i).fan = s.fan := by
  simpa only [Prod.mk.injEq] using State.freshRun_keep (fun x => (x.pending, x.power, x.clock, x.cfg, x.store, x.storeWrite, x.ports, x.slots, x.claims, x.results, x.chans, x.queue, x.window, x.gates, x.flash, x.sup, x.seq, x.gauges, x.fan))
    (fun _ _ => rfl) ..

@[simp] theorem State.freshTimer_frame (s : State) (m : SlotId) :
    (s.freshTimer m).pending = s.pending ∧
    (s.freshTimer m).power = s.power ∧
    (s.freshTimer m).clock = s.clock ∧
    (s.freshTimer m).cfg = s.cfg ∧
    (s.freshTimer m).store = s.store ∧
    (s.freshTimer m).storeWrite = s.storeWrite ∧
    (s.freshTimer m).ports = s.ports ∧
    (s.freshTimer m).inputs = s.inputs ∧
    (s.freshTimer m).claims = s.claims ∧
    (s.freshTimer m).results = s.results ∧
    (s.freshTimer m).chans = s.chans ∧
    (s.freshTimer m).queue = s.queue ∧
    (s.freshTimer m).window = s.window ∧
    (s.freshTimer m).gates = s.gates ∧
    (s.freshTimer m).flash = s.flash ∧
    (s.freshTimer m).sup = s.sup ∧
    (s.freshTimer m).seq = s.seq ∧
    (s.freshTimer m).gauges = s.gauges ∧
    (s.freshTimer m).fan = s.fan := by
  simpa only [Prod.mk.injEq] using State.freshTimer_keep (fun x => (x.pending, x.power, x.clock, x.cfg, x.store, x.storeWrite, x.ports, x.inputs, x.claims, x.results, x.chans, x.queue, x.window, x.gates, x.flash, x.sup, x.seq, x.gauges, x.fan))
    (fun _ _ => rfl) ..

@[simp] theorem State.wakeUp_frame (s : State) :
    (s.wakeUp).pending = s.pending ∧
    (s.wakeUp).cfg = s.cfg ∧
    (s.wakeUp).store = s.store ∧
    (s.wakeUp).storeWrite = s.storeWrite ∧
    (s.wakeUp).claims = s.claims ∧
    (s.wakeUp).results = s.results ∧
    (s.wakeUp).chans = s.chans ∧
    (s.wakeUp).queue = s.queue ∧
    (s.wakeUp).window = s.window ∧
    (s.wakeUp).gates = s.gates ∧
    (s.wakeUp).flash = s.flash ∧
    (s.wakeUp).seq = s.seq ∧
    (s.wakeUp).gauges = s.gauges ∧
    (s.wakeUp).fan = s.fan := by
  simpa only [Prod.mk.injEq] using State.wakeUp_keep (fun x => (x.pending, x.cfg, x.store, x.storeWrite, x.claims, x.results, x.chans, x.queue, x.window, x.gates, x.flash, x.seq, x.gauges, x.fan))
    (fun _ _ => rfl) (fun _ _ => rfl) (fun _ _ => rfl) (fun _ _ => rfl) (fun _ _ => rfl) (fun _ _ => rfl) ..

@[simp] theorem State.startPeriod_frame (s : State) (l : PerInput Bool) :
    (s.startPeriod l).pending = s.pending ∧
    (s.startPeriod l).cfg = s.cfg ∧
    (s.startPeriod l).store = s.store ∧
    (s.startPeriod l).storeWrite = s.storeWrite ∧
    (s.startPeriod l).ports = s.ports ∧
    (s.startPeriod l).results = s.results ∧
    (s.startPeriod l).sup = s.sup := by
  simpa only [Prod.mk.injEq] using State.startPeriod_keep (fun x => (x.pending, x.cfg, x.store, x.storeWrite, x.ports, x.results, x.sup))
    (fun _ _ => rfl) (fun _ _ => rfl) (fun _ _ => rfl) (fun _ _ => rfl) (fun _ _ => rfl) (fun _ _ => rfl) (fun _ _ => rfl) (fun _ _ => rfl) (fun _ _ => rfl) (fun _ _ => rfl) (fun _ _ => rfl) (fun _ _ => rfl) (fun _ _ => rfl) ..

@[simp] theorem State.beginStep_frame (s : State) (n k : Nat) :
    (s.beginStep n k).pending = s.pending ∧
    (s.beginStep n k).power = s.power ∧
    (s.beginStep n k).cfg = s.cfg ∧
    (s.beginStep n k).store = s.store ∧
    (s.beginStep n k).storeWrite = s.storeWrite ∧
    (s.beginStep n k).ports = s.ports ∧
    (s.beginStep n k).slots = s.slots ∧
    (s.beginStep n k).inputs = s.inputs ∧
    (s.beginStep n k).claims = s.claims ∧
    (s.beginStep n k).results = s.results ∧
    (s.beginStep n k).chans = s.chans ∧
    (s.beginStep n k).queue = s.queue ∧
    (s.beginStep n k).window = s.window ∧
    (s.beginStep n k).flash = s.flash ∧
    (s.beginStep n k).sup = s.sup ∧
    (s.beginStep n k).gauges = s.gauges ∧
    (s.beginStep n k).fan = s.fan := by
  simpa only [Prod.mk.injEq] using State.beginStep_keep (fun x => (x.pending, x.power, x.cfg, x.store, x.storeWrite, x.ports, x.slots, x.inputs, x.claims, x.results, x.chans, x.queue, x.window, x.flash, x.sup, x.gauges, x.fan))
    (fun _ _ => rfl) (fun _ _ => rfl) (fun _ _ => rfl) ..

@[simp] theorem State.brownOut_frame (s : State) :
    (s.brownOut).pending = s.pending :=
  State.brownOut_keep (·.pending) (fun _ _ => rfl) (fun _ _ => rfl) (fun _ _ => rfl) (fun _ _ => rfl) (fun _ _ => rfl) (fun _ _ => rfl) (fun _ _ => rfl) (fun _ _ => rfl) (fun _ _ => rfl) (fun _ _ => rfl) (fun _ _ => rfl) (fun _ _ => rfl) (fun _ _ => rfl) (fun _ _ => rfl) (fun _ _ => rfl) (fun _ _ => rfl) (fun _ _ => rfl) (fun _ _ => rfl) (fun _ _ => rfl) ..

@[simp] theorem State.begin_frame (s : State) (k : ResetKind) :
    (s.begin k).pending = s.pending :=
  State.begin_keep (·.pending) (fun _ _ => rfl) (fun _ _ => rfl) (fun _ _ => rfl) (fun _ _ => rfl) (fun _ _ => rfl) (fun _ _ => rfl) (fun _ _ => rfl) (fun _ _ => rfl) (fun _ _ => rfl) (fun _ _ => rfl) (fun _ _ => rfl) (fun _ _ => rfl) (fun _ _ => rfl) (fun _ _ => rfl) (fun _ _ => rfl) (fun _ _ => rfl) (fun _ _ => rfl) (fun _ _ => rfl) (fun _ _ => rfl) ..

@[simp] theorem State.busSample_frame (s : State) (v : Nat) :
    (s.busSample v).pending = s.pending :=
  State.busSample_keep (·.pending) (fun _ _ => rfl) (fun _ _ => rfl) (fun _ _ => rfl) (fun _ _ => rfl) (fun _ _ => rfl) (fun _ _ => rfl) (fun _ _ => rfl) (fun _ _ => rfl) (fun _ _ => rfl) (fun _ _ => rfl) (fun _ _ => rfl) (fun _ _ => rfl) (fun _ _ => rfl) (fun _ _ => rfl) (fun _ _ => rfl) (fun _ _ => rfl) (fun _ _ => rfl) (fun _ _ => rfl) (fun _ _ => rfl) ..

@[simp] theorem State.consume_frame (s : State) (r : Request) (v : Nat) :
    (s.consume r v).pending = s.pending :=
  State.consume_keep (·.pending) (fun _ _ => rfl) (fun _ _ => rfl) (fun _ _ => rfl) (fun _ _ => rfl) (fun _ _ => rfl) (fun _ _ => rfl) (fun _ _ => rfl) (fun _ _ => rfl) (fun _ _ => rfl) (fun _ _ => rfl) (fun _ _ => rfl) (fun _ _ => rfl) (fun _ _ => rfl) (fun _ _ => rfl) (fun _ _ => rfl) (fun _ _ => rfl) (fun _ _ => rfl) (fun _ _ => rfl) (fun _ _ => rfl) ..

@[simp] theorem State.afterFrame_frame (s : State) (a b : Bool) :
    (s.afterFrame a b).pending = s.pending :=
  State.afterFrame_keep (·.pending) (fun _ _ => rfl) (fun _ _ => rfl) (fun _ _ => rfl) (fun _ _ => rfl) (fun _ _ => rfl) (fun _ _ => rfl) (fun _ _ => rfl) (fun _ _ => rfl) (fun _ _ => rfl) (fun _ _ => rfl) (fun _ _ => rfl) (fun _ _ => rfl) (fun _ _ => rfl) (fun _ _ => rfl) (fun _ _ => rfl) (fun _ _ => rfl) (fun _ _ => rfl) (fun _ _ => rfl) (fun _ _ => rfl) ..

@[simp] theorem State.finishFrame_frame (s : State) (p : Port) :
    (s.finishFrame p).pending = s.pending :=
  State.finishFrame_keep (·.pending) (fun _ _ => rfl) (fun _ _ => rfl) (fun _ _ => rfl) (fun _ _ => rfl) (fun _ _ => rfl) (fun _ _ => rfl) (fun _ _ => rfl) (fun _ _ => rfl) (fun _ _ => rfl) (fun _ _ => rfl) (fun _ _ => rfl) (fun _ _ => rfl) (fun _ _ => rfl) (fun _ _ => rfl) (fun _ _ => rfl) (fun _ _ => rfl) (fun _ _ => rfl) (fun _ _ => rfl) (fun _ _ => rfl) ..

@[simp] theorem State.answer_frame (s : State) (p : Port) (a : Option Answer) (k : Option Status) :
    (s.answer p a k).pending = s.pending :=
  State.answer_keep (·.pending) (fun _ _ => rfl) (fun _ _ => rfl) (fun _ _ => rfl) (fun _ _ => rfl) (fun _ _ => rfl) (fun _ _ => rfl) (fun _ _ => rfl) (fun _ _ => rfl) (fun _ _ => rfl) (fun _ _ => rfl) (fun _ _ => rfl) (fun _ _ => rfl) (fun _ _ => rfl) (fun _ _ => rfl) (fun _ _ => rfl) (fun _ _ => rfl) (fun _ _ => rfl) (fun _ _ => rfl) (fun _ _ => rfl) ..

@[simp] theorem State.answerStatus_frame (s : State) (p : Port) (k : Status) :
    (s.answerStatus p k).pending = s.pending :=
  State.answerStatus_keep (·.pending) (fun _ _ => rfl) (fun _ _ => rfl) (fun _ _ => rfl) (fun _ _ => rfl) (fun _ _ => rfl) (fun _ _ => rfl) (fun _ _ => rfl) (fun _ _ => rfl) (fun _ _ => rfl) (fun _ _ => rfl) (fun _ _ => rfl) (fun _ _ => rfl) (fun _ _ => rfl) (fun _ _ => rfl) (fun _ _ => rfl) (fun _ _ => rfl) (fun _ _ => rfl) (fun _ _ => rfl) (fun _ _ => rfl) ..

@[simp] theorem State.abandonReply_frame (s : State) (p : Port) (r : Reply) :
    (s.abandonReply p r).pending = s.pending :=
  State.abandonReply_keep (·.pending) (fun _ _ => rfl) (fun _ _ => rfl) (fun _ _ => rfl) (fun _ _ => rfl) (fun _ _ => rfl) (fun _ _ => rfl) (fun _ _ => rfl) (fun _ _ => rfl) (fun _ _ => rfl) (fun _ _ => rfl) (fun _ _ => rfl) (fun _ _ => rfl) (fun _ _ => rfl) (fun _ _ => rfl) (fun _ _ => rfl) (fun _ _ => rfl) (fun _ _ => rfl) (fun _ _ => rfl) (fun _ _ => rfl) ..

@[simp] theorem State.lineActive_frame (s : State) (p : Port) :
    (s.lineActive p).pending = s.pending :=
  State.lineActive_keep (·.pending) (fun _ _ => rfl) (fun _ _ => rfl) (fun _ _ => rfl) (fun _ _ => rfl) (fun _ _ => rfl) (fun _ _ => rfl) (fun _ _ => rfl) (fun _ _ => rfl) (fun _ _ => rfl) (fun _ _ => rfl) (fun _ _ => rfl) (fun _ _ => rfl) (fun _ _ => rfl) (fun _ _ => rfl) (fun _ _ => rfl) (fun _ _ => rfl) (fun _ _ => rfl) (fun _ _ => rfl) (fun _ _ => rfl) ..

@[simp] theorem State.claimItem_frame (s : State) (p : Port) (m : SlotId) (l : List (Byte × Byte)) :
    (s.claimItem p m l).pending = s.pending :=
  State.claimItem_keep (·.pending) (fun _ _ => rfl) (fun _ _ => rfl) (fun _ _ => rfl) (fun _ _ => rfl) (fun _ _ => rfl) (fun _ _ => rfl) (fun _ _ => rfl) (fun _ _ => rfl) (fun _ _ => rfl) (fun _ _ => rfl) (fun _ _ => rfl) (fun _ _ => rfl) (fun _ _ => rfl) (fun _ _ => rfl) (fun _ _ => rfl) (fun _ _ => rfl) (fun _ _ => rfl) (fun _ _ => rfl) (fun _ _ => rfl) ..

@[simp] theorem State.claimAllItem_frame (s : State) (p : Port) (m : SlotId) (l : List (Byte × Byte)) :
    (s.claimAllItem p m l).pending = s.pending :=
  State.claimAllItem_keep (·.pending) (fun _ _ => rfl) (fun _ _ => rfl) (fun _ _ => rfl) (fun _ _ => rfl) (fun _ _ => rfl) (fun _ _ => rfl) (fun _ _ => rfl) (fun _ _ => rfl) (fun _ _ => rfl) (fun _ _ => rfl) (fun _ _ => rfl) (fun _ _ => rfl) (fun _ _ => rfl) (fun _ _ => rfl) (fun _ _ => rfl) (fun _ _ => rfl) (fun _ _ => rfl) (fun _ _ => rfl) (fun _ _ => rfl) ..

@[simp] theorem State.readItem_frame (s : State) (p : Port) (b : Bool) (k : ReadKind) (i : Byte) :
    (s.readItem p b k i).pending = s.pending :=
  State.readItem_keep (·.pending) (fun _ _ => rfl) (fun _ _ => rfl) (fun _ _ => rfl) (fun _ _ => rfl) (fun _ _ => rfl) (fun _ _ => rfl) (fun _ _ => rfl) (fun _ _ => rfl) (fun _ _ => rfl) (fun _ _ => rfl) (fun _ _ => rfl) (fun _ _ => rfl) (fun _ _ => rfl) (fun _ _ => rfl) (fun _ _ => rfl) (fun _ _ => rfl) (fun _ _ => rfl) (fun _ _ => rfl) (fun _ _ => rfl) ..

@[simp] theorem State.readOf_frame (s : State) (p : Port) (q : ReadKind → Bool) :
    (s.readOf p q).pending = s.pending :=
  State.readOf_keep (·.pending) (fun _ _ => rfl) (fun _ _ => rfl) (fun _ _ => rfl) (fun _ _ => rfl) (fun _ _ => rfl) (fun _ _ => rfl) (fun _ _ => rfl) (fun _ _ => rfl) (fun _ _ => rfl) (fun _ _ => rfl) (fun _ _ => rfl) (fun _ _ => rfl) (fun _ _ => rfl) (fun _ _ => rfl) (fun _ _ => rfl) (fun _ _ => rfl) (fun _ _ => rfl) (fun _ _ => rfl) (fun _ _ => rfl) ..

@[simp] theorem State.clearChannelsItem_frame (s : State) (p : Port) (m : SlotId) (l : List Byte) :
    (s.clearChannelsItem p m l).pending = s.pending :=
  State.clearChannelsItem_keep (·.pending) (fun _ _ => rfl) (fun _ _ => rfl) (fun _ _ => rfl) (fun _ _ => rfl) (fun _ _ => rfl) (fun _ _ => rfl) (fun _ _ => rfl) (fun _ _ => rfl) (fun _ _ => rfl) (fun _ _ => rfl) (fun _ _ => rfl) (fun _ _ => rfl) (fun _ _ => rfl) (fun _ _ => rfl) (fun _ _ => rfl) (fun _ _ => rfl) (fun _ _ => rfl) (fun _ _ => rfl) (fun _ _ => rfl) ..

@[simp] theorem State.clearEventsItem_frame (s : State) (p : Port) (m : SlotId) (a b : Byte) :
    (s.clearEventsItem p m a b).pending = s.pending :=
  State.clearEventsItem_keep (·.pending) (fun _ _ => rfl) (fun _ _ => rfl) (fun _ _ => rfl) (fun _ _ => rfl) (fun _ _ => rfl) (fun _ _ => rfl) (fun _ _ => rfl) (fun _ _ => rfl) (fun _ _ => rfl) (fun _ _ => rfl) (fun _ _ => rfl) (fun _ _ => rfl) (fun _ _ => rfl) (fun _ _ => rfl) (fun _ _ => rfl) (fun _ _ => rfl) (fun _ _ => rfl) (fun _ _ => rfl) (fun _ _ => rfl) ..

@[simp] theorem State.resetItem_frame (s : State) (p : Port) (m : SlotId) :
    (s.resetItem p m).pending = s.pending :=
  State.resetItem_keep (·.pending) (fun _ _ => rfl) (fun _ _ => rfl) (fun _ _ => rfl) (fun _ _ => rfl) (fun _ _ => rfl) (fun _ _ => rfl) (fun _ _ => rfl) (fun _ _ => rfl) (fun _ _ => rfl) (fun _ _ => rfl) (fun _ _ => rfl) (fun _ _ => rfl) (fun _ _ => rfl) (fun _ _ => rfl) (fun _ _ => rfl) (fun _ _ => rfl) (fun _ _ => rfl) (fun _ _ => rfl) (fun _ _ => rfl) ..

@[simp] theorem State.configLength_frame (s : State) (p : Port) (m : SlotId) :
    (s.configLength p m).pending = s.pending :=
  State.configLength_keep (·.pending) (fun _ _ => rfl) (fun _ _ => rfl) (fun _ _ => rfl) (fun _ _ => rfl) (fun _ _ => rfl) (fun _ _ => rfl) (fun _ _ => rfl) (fun _ _ => rfl) (fun _ _ => rfl) (fun _ _ => rfl) (fun _ _ => rfl) (fun _ _ => rfl) (fun _ _ => rfl) (fun _ _ => rfl) (fun _ _ => rfl) (fun _ _ => rfl) (fun _ _ => rfl) (fun _ _ => rfl) (fun _ _ => rfl) ..

@[simp] theorem State.rowlessItem_frame (s : State) (p : Port) (f : Frame) (i : Item) :
    (s.rowlessItem p f i).pending = s.pending :=
  State.rowlessItem_keep (·.pending) (fun _ _ => rfl) (fun _ _ => rfl) (fun _ _ => rfl) (fun _ _ => rfl) (fun _ _ => rfl) (fun _ _ => rfl) (fun _ _ => rfl) (fun _ _ => rfl) (fun _ _ => rfl) (fun _ _ => rfl) (fun _ _ => rfl) (fun _ _ => rfl) (fun _ _ => rfl) (fun _ _ => rfl) (fun _ _ => rfl) (fun _ _ => rfl) (fun _ _ => rfl) (fun _ _ => rfl) (fun _ _ => rfl) ..

@[simp] theorem State.beginFrame_frame (s : State) (p : Port) (l : List Item) :
    (s.beginFrame p l).pending = s.pending :=
  State.beginFrame_keep (·.pending) (fun _ _ => rfl) (fun _ _ => rfl) (fun _ _ => rfl) (fun _ _ => rfl) (fun _ _ => rfl) (fun _ _ => rfl) (fun _ _ => rfl) (fun _ _ => rfl) (fun _ _ => rfl) (fun _ _ => rfl) (fun _ _ => rfl) (fun _ _ => rfl) (fun _ _ => rfl) (fun _ _ => rfl) (fun _ _ => rfl) (fun _ _ => rfl) (fun _ _ => rfl) (fun _ _ => rfl) (fun _ _ => rfl) ..

end Sys2Proof.Machine
end

