-- ==== Sys2Proof/Laws/Effects.lean ====
section
/-! SUPPORT. What the shared operations do: for each, one lemma that says its effect on the fields it reaches. What it
leaves is in Laws/Frames.lean. -/

namespace Sys2Proof.Machine
open Sys2Proof

/-! ### Events -/

@[simp] theorem State.raiseTo_slot (s : State) (k : EventKind) (m n : SlotId) :
    (s.raiseTo k m).slot n = if m = n then s.raisedTo k m else s.slot n := by
  unfold State.raiseTo State.raisedTo
  rw [State.slot_setSlot]

theorem State.raise_slot (s : State) (k : EventKind) (m : SlotId) : (s.raise k).slot m = s.raisedTo k m := by
  cases m <;> simp [State.raise, allSlots, State.raisedTo, State.slotRec]

theorem State.raiseOthers_slot (s : State) (m n : SlotId) :
    (s.raiseOthers m).slot n = if n = m then s.slot n else s.raisedTo .master n := by
  cases m <;> cases n <;> simp [State.raiseOthers, SlotId.others, State.raisedTo, State.slotRec]

/-! ### Results and claims -/

/-- An evaluation reads the claims, the function's record, the input levels and the shed level, and nothing else. -/
theorem State.evaluated_congr {s t : State} (f : Fn) (hc : t.claims = s.claims) (hg : t.cfg.functions = s.cfg.functions)
    (hi : t.inputs = s.inputs) (hs : t.sup.shed = s.sup.shed) : t.evaluated f = s.evaluated f := by
  simp [State.evaluated, State.gatedOff, State.combined, State.presentValues, State.fnRec, State.cell, State.filtered,
    State.input, hc, hg, hi, hs]

theorem State.reevaluate_result (s : State) (f g : Fn) :
    (s.reevaluate f).result g = if g = f then s.evaluated f else s.result g := by
  unfold State.reevaluate
  by_cases h : s.evaluated f = s.result f
  · rw [if_pos h]; split <;> simp_all
  · rw [if_neg h]
    have hr : ∀ b, ((s.setResult f (s.evaluated f)).handOn f b).result g = (s.setResult f (s.evaluated f)).result g :=
      fun b => by unfold State.result; rw [(State.handOn_frame _ f b).2.2.2.2.2.2.2.2.2.2.1]
    rw [hr, State.result_setResult]
    simp only [eq_comm]

theorem State.reevaluate_evaluated (s : State) (f g : Fn) : (s.reevaluate f).evaluated g = s.evaluated g := by
  apply State.evaluated_congr <;> simp

theorem State.reevaluateAll_result (s : State) (fs : List Fn) (g : Fn) :
    (s.reevaluateAll fs).result g = if g ∈ fs then s.evaluated g else s.result g := by
  unfold State.reevaluateAll
  induction fs generalizing s with
  | nil => simp
  | cons f fs ih =>
    rw [List.foldl_cons, ih, State.reevaluate_evaluated, State.reevaluate_result]
    by_cases h : g = f <;> simp_all

@[simp] theorem State.reevaluate_cell (s : State) (f g : Fn) (k : Claimant) :
    (s.reevaluate f).cell g k = s.cell g k := by
  unfold State.cell; simp

theorem State.writeCell_cell (s : State) (f g : Fn) (k j : Claimant) (v : Option Claim) :
    (s.writeCell f k v).cell g j = if g = f ∧ j = k then v else s.cell g j := by
  unfold State.writeCell
  by_cases h : s.cell f k = v
  · rw [if_pos h]; split <;> simp_all
  · rw [if_neg h, State.reevaluate_cell, State.cell_setCell]
    simp only [eq_comm]

/-- A write of a cell re-evaluates its function alone. -/
theorem State.writeCell_result (s : State) (f g : Fn) (k : Claimant) (v : Option Claim) (h : g ≠ f) :
    (s.writeCell f k v).result g = s.result g := by
  unfold State.writeCell
  split
  · rfl
  · rw [State.reevaluate_result, if_neg h]; rfl

/-- Another function's evaluation does not read the cell. -/
theorem State.setCell_evaluated (s : State) (f g : Fn) (k : Claimant) (v : Option Claim) (h : g ≠ f) :
    (s.setCell f k v).evaluated g = s.evaluated g := by
  have hc : ∀ j, (s.setCell f k v).cell g j = s.cell g j := fun j => by simp [Ne.symm h]
  simp [State.evaluated, State.gatedOff, State.combined, State.presentValues, State.fnRec, State.filtered, State.input, hc]

/-- A write of a cell keeps every result evaluated (R9, R12). -/
theorem State.writeCell_evaluated {s : State} (hs : s.ResultsEvaluated) (f : Fn) (k : Claimant) (v : Option Claim) :
    (s.writeCell f k v).ResultsEvaluated := by
  unfold State.writeCell
  split
  · exact hs
  · intro g
    rw [State.reevaluate_result, State.reevaluate_evaluated]
    split
    · rename_i h; rw [h]
    · rename_i h; rw [State.setCell_evaluated _ _ _ _ _ h]; exact hs g

/-! ### Demands and sample requests -/

@[simp] theorem State.writeDemand_chan (s : State) (c d : Channel) (v : Nat) (src : DemandSource) :
    (s.writeDemand c v src).chan d =
      if c = d then { s.chan c with
        demand := v, source := src,
        onEdge := if v = 250 ∧ src = .flash then (s.chan c).demand == 0 || (s.chan c).onEdge else false }
      else s.chan d := by
  simp [State.writeDemand]

theorem State.abandon_requests (s : State) (x : Source) :
    (s.abandon x).seq.requests = s.seq.requests.filter fun r => r.src != x := by
  unfold State.abandon
  split
  · rfl
  · rename_i h
    refine (List.filter_eq_self.mpr fun r hr => ?_).symm
    simp only [State.request?, List.find?_isSome, not_exists, not_and] at h
    simpa using h r hr

theorem Source.number_inj (x y : Source) : x.number = y.number ↔ x = y := by
  refine ⟨fun h => ?_, fun h => h ▸ rfl⟩
  have hv : x.number.val = y.number.val := congrArg Fin.val h
  rcases x with _ | c | x <;> rcases y with _ | d | y
  · rfl
  · exact absurd hv (by simp [Source.number])
  · cases y <;> exact absurd hv (by decide)
  · exact absurd hv (by simp [Source.number])
  · have : c = d := Fin.ext (by simpa [Source.number] using hv)
    rw [this]
  · have hc := c.isLt
    have : (Source.channel c).number.val = c.val + 1 := rfl
    rw [this] at hv
    cases y <;> simp [Source.number] at hv <;> omega
  · cases x <;> exact absurd hv (by decide)
  · have hd := d.isLt
    have : (Source.channel d).number.val = d.val + 1 := rfl
    rw [this] at hv
    cases x <;> simp [Source.number] at hv <;> omega
  · cases x <;> cases y <;> first | rfl | exact absurd hv (by decide)

theorem State.abandon_value (s : State) (x y : Source) :
    (s.abandon x).value y =
      if y = x ∧ (s.request? x).isSome = true then { s.value x with mark := .held } else s.value y := by
  unfold State.abandon
  by_cases h : (s.request? x).isSome = true
  · have hn : (x.number.val = y.number.val) ↔ y = x := by rw [← Fin.ext_iff, Source.number_inj, eq_comm]
    simp [h, State.value, Vector.getElem_set, hn]
  · simp [h]

/-- An abandonment touches the requests and the values alone: the period count, the averaging stage and the served mark
stand (R132, R136). -/
theorem State.abandon_seq (s : State) (x : Source) :
    (s.abandon x).seq =
      { s.seq with requests := (s.abandon x).seq.requests, values := (s.abandon x).seq.values } := by
  unfold State.abandon
  split <;> rfl

/-- The same of all of them (R136). -/
theorem State.abandonAll_seq (s : State) :
    s.abandonAll.seq = { s.seq with requests := s.abandonAll.seq.requests, values := s.abandonAll.seq.values } := by
  unfold State.abandonAll
  generalize s.seq.requests = l
  induction l generalizing s with
  | nil => rfl
  | cons r l ih =>
    simp only [List.foldl_cons]
    conv_lhs => rw [ih (s.abandon r.src), State.abandon_seq]

/-! ### Admission -/

/-- After the admission test the queue is empty or its head fails the test (R62, R63). -/
theorem State.admitLoop_head : ∀ (n : Nat) (s : State), s.queue.length ≤ n →
    ∀ (c : Channel) (u : Urgency) (rest : List (Channel × Urgency)), (admitLoop n s).queue = (c, u) :: rest →
      (admitLoop n s).admissible c = false
  | 0, s, hn, c, u, rest, h => by
    simp only [admitLoop] at h
    simp [h] at hn
  | n + 1, s, hn, c, u, rest, h => by
    unfold admitLoop at h ⊢
    split at h
    · simp_all
    · rename_i d w tail hq
      split at h
      · rename_i ha
        rw [if_pos ha]
        refine State.admitLoop_head n _ ?_ c u rest h
        have : (s.admitOne d).queue = (s.dequeue d).queue := by
          unfold State.admitOne
          dsimp only
          by_cases hz : s.inrushTime d = 0
          · rw [if_pos hz]; exact State.ifFan_keep (·.queue) _ _ _ fun t => by simp
          · rw [if_neg hz]; exact (State.ifFan_keep (·.queue) _ _ _ fun t => by simp).trans (by simp)
        rw [this]
        have hf : (tail.filter fun q => q.1 != d).length ≤ tail.length := List.length_filter_le ..
        simp only [State.dequeue, State.setQueue, hq, List.filter_cons, bne_self_eq_false]
        rw [hq] at hn
        simp only [List.length_cons] at hn
        simpa using le_trans hf (by omega)
      · rename_i ha
        rw [if_neg ha]
        rw [hq] at h
        obtain ⟨⟨rfl, -⟩, -⟩ := by simpa using h
        simpa using ha

theorem State.admit_head (s : State) (c : Channel) (u : Urgency) (rest : List (Channel × Urgency))
    (h : s.admitHeads.queue = (c, u) :: rest) : s.admitHeads.admissible c = false :=
  State.admitLoop_head _ s le_rfl c u rest h

/-! ### Line activity -/

/-- A port owes a reply that is built, or that of an answered frame in execution (R180). -/
theorem State.owesReply_iff (s : State) (p : Port) :
    s.owesReply p = true ↔ (∃ y : Reply, (s.port p).reply = .built y) ∨
      (s.port p).reply = .quiet ∧ s.headAnswered p = true ∧ ∃ r : Run, (s.port p).run = some r ∧ r.lost = false := by
  unfold State.owesReply
  cases hy : (s.port p).reply <;> cases hr : (s.port p).run <;> simp

/-- Line activity on a port that owes no reply changes nothing (R180). -/
theorem State.lineActive_idle {s : State} {p : Port} (h : s.owesReply p = false) : s.lineActive p = s := by
  unfold State.lineActive
  unfold State.owesReply at h ⊢
  cases hy : (s.port p).reply <;> cases hr : (s.port p).run <;> simp_all

/-- Line activity on a port that holds a built reply ends the reply (R180). -/
theorem State.lineActive_built {s : State} {p : Port} {y : Reply} (h : (s.port p).reply = .built y) :
    s.lineActive p = s.abandonReply p y := by
  unfold State.lineActive
  rw [h]

/-- Line activity on a port that executes an answered frame loses the frame's reply, and the items go on (R180; log 21).
-/
theorem State.lineActive_executing {s : State} {p : Port} {r : Run} (hy : (s.port p).reply = .quiet)
    (hr : (s.port p).run = some r) (ho : s.owesReply p = true) :
    s.lineActive p =
      s.setPort p { s.port p with run := some { r with lost := true }, assembly := .hunt, idle := 0 } := by
  unfold State.lineActive
  rw [hy, hr]
  simp only [ho, if_true]
  cases p <;> rfl

/-! ### Bus samples -/

/-- A bus sample in CRANK moves the exit counter alone, and is kept in hand for the return it makes (R112, R116). -/
theorem State.countSample_crank {s : State} (v : Nat) (h : s.sup.crank = .crank) :
    s.countSample v =
      let n := if s.exitLevel ≤ v then min 20 (s.sup.crankOut + 1) else 0
      s.setSup { s.sup with crankOut := n, inHand := if n = 20 ∧ s.startActive = false then some v else none } := by
  unfold State.countSample
  rw [if_pos (by simp [State.cranking, h])]

/-- The second low sample in NORMAL goes no further than the entry counter (R112, R115). -/
theorem State.countSample_low {s : State} (v : Nat) (h : s.sup.crank = .normal)
    (hv : v < s.cfg.supply.crankThreshold) (hn : s.sup.crankIn ≠ 0) :
    s.countSample v = s.setSup { s.sup with crankIn := 2 } := by
  have : min 2 (s.sup.crankIn + 1) = 2 := by omega
  unfold State.countSample
  rw [if_neg (by simp [State.cranking, h])]
  simp [hv, this]

/-- Any other sample in NORMAL is counted, filtered and counted for dwell (R112, R114, R119, R120). -/
theorem State.countSample_normal {s : State} (v : Nat) (h : s.sup.crank = .normal)
    (hn : v < s.cfg.supply.crankThreshold → s.sup.crankIn = 0) :
    s.countSample v =
      (s.setSup { s.sup with crankIn := if v < s.cfg.supply.crankThreshold then 1 else 0 }).filterSample v := by
  unfold State.countSample
  rw [if_neg (by simp [State.cranking, h])]
  by_cases hv : v < s.cfg.supply.crankThreshold
  · simp [hv, hn hv]
  · simp [hv]

/-! ### Items -/

/-- The item of an execution is the one an item command takes. -/
theorem Executing.itemOn {s : State} {p : Port} {f : Frame} {r : Run} {i : Item} (h : Executing s p f r i) :
    s.itemOn p = some (f, i) := by
  obtain ⟨hr, hq, hn, hi, -⟩ := h
  unfold State.itemOn
  rw [if_pos hr, hn]
  cases hl : (s.port p).queue with
  | nil => simp [hl] at hq
  | cons g rest =>
    have : g = f := by simpa [hl] using hq
    simp [hi, this]

/-! ### Stall reports, the crank state, steps that have fallen due -/

/-- A stall run below the stall samples stays below them: the sample that reaches them reports (R166). -/
theorem Fan.countStall_lt (x : Fan) (r : FanRec) (c : Channel) (mA : Nat) (h : x.stallRun < r.stallSamples) :
    (x.countStall r c mA).stallRun < r.stallSamples := by
  unfold Fan.countStall
  split
  · exact Nat.zero_lt_of_lt h
  · split
    · assumption
    · exact Nat.zero_lt_of_lt h

/-- A report is discarded unless it is of the fan channel, in RUN (R75). -/
theorem State.stallReport_discard (s : State) (h : ∀ c, s.fan.report = some c → s.isFan c = true → (s.chan c).st ≠ .run) :
    s.stallReport = s.setFan { s.fan with report := none } := by
  unfold State.stallReport
  cases hr : s.fan.report with
  | none => rfl
  | some c => exact if_neg fun hc => h c hr hc.1 hc.2

/-- What is due of the crank state: nothing, the entry alone, or the return, with an entry that is due after it. -/
theorem State.settleCrank_cases (s : State) :
    (s.crankExitDue = false ∧ s.crankEntryDue = false ∧ s.settleCrank = s) ∨
      (s.crankExitDue = false ∧ s.crankEntryDue = true ∧ s.settleCrank = s.crankEnter) ∨
      (s.crankExitDue = true ∧ s.settleCrank = s.crankLeave.whenDue s.crankLeave.crankEntryDue State.crankEnter) := by
  unfold State.settleCrank
  cases hx : s.crankExitDue
  · cases he : s.crankEntryDue <;> simp [State.whenDue, he]
  · simp [State.whenDue]

/-- The settled state before a drive step or a drive period start: asleep, or with the due steps taken, START's change
aside where step 0 is still to come (R115, R116). -/
theorem State.settle_cases (s : State) :
    (s.settleSteps.dormantOk = true ∧ s.settle = s.settleSteps.sleep) ∨
      (s.settleSteps.dormantOk = false ∧ s.clock = .started ∧ s.settle = s.settleStepsOf [.ign, .brake, .hazard]) ∨
      (s.settleSteps.dormantOk = false ∧ s.clock ≠ .started ∧ s.settle = s.settleSteps) := by
  unfold State.settle State.inputsToSettle
  cases s.settleSteps.dormantOk
  · by_cases h : s.clock = .started <;> simp [h, State.settleSteps]
  · simp

end Sys2Proof.Machine
end

