-- ==== Sys2Proof/Laws/PerInstr.lean ====
section
/-! SUPPORT. One law of every command, proved constructor by constructor: a command is well formed unless it is a
received frame whose octets have not the shape of a frame (R170, R183). -/

namespace Sys2Proof.Laws.ShapedFrames
open Sys2Proof

/-- A command is well formed exactly when the octets it brings as a received frame, if it brings any, have the shape of
a frame. -/
def Statement (i : Instr) : Prop :=
  i.wellFormed = true ↔ ∀ (p : Port) (octets : List Byte), i = .frameReceived p octets → frameShape octets = true

theorem powerOn : Statement (Instr.powerOn) :=
  ⟨fun _ _ _ e => (nomatch e), fun _ => rfl⟩
theorem brownOutRestart : Statement (Instr.brownOutRestart) :=
  ⟨fun _ _ _ e => (nomatch e), fun _ => rfl⟩
theorem startingComplete : Statement (Instr.startingComplete) :=
  ⟨fun _ _ _ e => (nomatch e), fun _ => rfl⟩
theorem drivePeriodStart (lines : PerInput Bool) : Statement (Instr.drivePeriodStart lines) :=
  ⟨fun _ _ _ e => (nomatch e), fun _ => rfl⟩
theorem inrushExpiry (c : Channel) : Statement (Instr.inrushExpiry c) :=
  ⟨fun _ _ _ e => (nomatch e), fun _ => rfl⟩
theorem runCountReached (c : Channel) : Statement (Instr.runCountReached c) :=
  ⟨fun _ _ _ e => (nomatch e), fun _ => rfl⟩
theorem overcurrentTrip (c : Channel) (current : Nat) : Statement (Instr.overcurrentTrip c current) :=
  ⟨fun _ _ _ e => (nomatch e), fun _ => rfl⟩
theorem coolOffExpiry (c : Channel) : Statement (Instr.coolOffExpiry c) :=
  ⟨fun _ _ _ e => (nomatch e), fun _ => rfl⟩
theorem bulbOutSet (c : Channel) : Statement (Instr.bulbOutSet c) :=
  ⟨fun _ _ _ e => (nomatch e), fun _ => rfl⟩
theorem bulbOutClear (c : Channel) : Statement (Instr.bulbOutClear c) :=
  ⟨fun _ _ _ e => (nomatch e), fun _ => rfl⟩
theorem flashStart : Statement (Instr.flashStart) :=
  ⟨fun _ _ _ e => (nomatch e), fun _ => rfl⟩
theorem offPhaseEntry : Statement (Instr.offPhaseEntry) :=
  ⟨fun _ _ _ e => (nomatch e), fun _ => rfl⟩
theorem onPhaseEntry : Statement (Instr.onPhaseEntry) :=
  ⟨fun _ _ _ e => (nomatch e), fun _ => rfl⟩
theorem tickEnd : Statement (Instr.tickEnd) :=
  ⟨fun _ _ _ e => (nomatch e), fun _ => rfl⟩
theorem conversionDone (src : Source) (quantity : Nat) : Statement (Instr.conversionDone src quantity) :=
  ⟨fun _ _ _ e => (nomatch e), fun _ => rfl⟩
theorem requestAbandon (src : Source) : Statement (Instr.requestAbandon src) :=
  ⟨fun _ _ _ e => (nomatch e), fun _ => rfl⟩
theorem crankEntry : Statement (Instr.crankEntry) :=
  ⟨fun _ _ _ e => (nomatch e), fun _ => rfl⟩
theorem crankExit : Statement (Instr.crankExit) :=
  ⟨fun _ _ _ e => (nomatch e), fun _ => rfl⟩
theorem shedRise : Statement (Instr.shedRise) :=
  ⟨fun _ _ _ e => (nomatch e), fun _ => rfl⟩
theorem shedFall : Statement (Instr.shedFall) :=
  ⟨fun _ _ _ e => (nomatch e), fun _ => rfl⟩
theorem stallReport : Statement (Instr.stallReport) :=
  ⟨fun _ _ _ e => (nomatch e), fun _ => rfl⟩
theorem faultHoldEntry (g : GaugeId) : Statement (Instr.faultHoldEntry g) :=
  ⟨fun _ _ _ e => (nomatch e), fun _ => rfl⟩
theorem faultHoldExpiry (g : GaugeId) : Statement (Instr.faultHoldExpiry g) :=
  ⟨fun _ _ _ e => (nomatch e), fun _ => rfl⟩
theorem gaugeRecovery (g : GaugeId) : Statement (Instr.gaugeRecovery g) :=
  ⟨fun _ _ _ e => (nomatch e), fun _ => rfl⟩
theorem inputSeed (i : InputId) : Statement (Instr.inputSeed i) :=
  ⟨fun _ _ _ e => (nomatch e), fun _ => rfl⟩
theorem filteredLevelChange (i : InputId) : Statement (Instr.filteredLevelChange i) :=
  ⟨fun _ _ _ e => (nomatch e), fun _ => rfl⟩
theorem silenceExpiry (m : SlotId) : Statement (Instr.silenceExpiry m) :=
  ⟨fun _ _ _ e => (nomatch e), fun _ => rfl⟩
theorem holdExpiry (m : SlotId) (f : Fn) : Statement (Instr.holdExpiry m f) :=
  ⟨fun _ _ _ e => (nomatch e), fun _ => rfl⟩
theorem frameReceived (p : Port) (octets : List Byte) : Statement (.frameReceived p octets) :=
  ⟨fun h _ _ e => by cases e; exact h, fun h => h p octets rfl⟩
theorem frameAbandonIdle (p : Port) (idle : Nat) : Statement (Instr.frameAbandonIdle p idle) :=
  ⟨fun _ _ _ e => (nomatch e), fun _ => rfl⟩
theorem framingFault (p : Port) (fault : FramingFault) : Statement (Instr.framingFault p fault) :=
  ⟨fun _ _ _ e => (nomatch e), fun _ => rfl⟩
theorem frameExecute (p : Port) : Statement (Instr.frameExecute p) :=
  ⟨fun _ _ _ e => (nomatch e), fun _ => rfl⟩
theorem frameError (p : Port) : Statement (Instr.frameError p) :=
  ⟨fun _ _ _ e => (nomatch e), fun _ => rfl⟩
theorem claim (p : Port) : Statement (Instr.claim p) :=
  ⟨fun _ _ _ e => (nomatch e), fun _ => rfl⟩
theorem claimAll (p : Port) : Statement (Instr.claimAll p) :=
  ⟨fun _ _ _ e => (nomatch e), fun _ => rfl⟩
theorem readChannel (p : Port) : Statement (Instr.readChannel p) :=
  ⟨fun _ _ _ e => (nomatch e), fun _ => rfl⟩
theorem readTrip (p : Port) : Statement (Instr.readTrip p) :=
  ⟨fun _ _ _ e => (nomatch e), fun _ => rfl⟩
theorem readFunction (p : Port) : Statement (Instr.readFunction p) :=
  ⟨fun _ _ _ e => (nomatch e), fun _ => rfl⟩
theorem readSlots (p : Port) : Statement (Instr.readSlots p) :=
  ⟨fun _ _ _ e => (nomatch e), fun _ => rfl⟩
theorem readGauge (p : Port) : Statement (Instr.readGauge p) :=
  ⟨fun _ _ _ e => (nomatch e), fun _ => rfl⟩
theorem readSupply (p : Port) : Statement (Instr.readSupply p) :=
  ⟨fun _ _ _ e => (nomatch e), fun _ => rfl⟩
theorem readFlasher (p : Port) : Statement (Instr.readFlasher p) :=
  ⟨fun _ _ _ e => (nomatch e), fun _ => rfl⟩
theorem readFan (p : Port) : Statement (Instr.readFan p) :=
  ⟨fun _ _ _ e => (nomatch e), fun _ => rfl⟩
theorem readInputs (p : Port) : Statement (Instr.readInputs p) :=
  ⟨fun _ _ _ e => (nomatch e), fun _ => rfl⟩
theorem readResetCause (p : Port) : Statement (Instr.readResetCause p) :=
  ⟨fun _ _ _ e => (nomatch e), fun _ => rfl⟩
theorem readConfigurationRecord (p : Port) : Statement (Instr.readConfigurationRecord p) :=
  ⟨fun _ _ _ e => (nomatch e), fun _ => rfl⟩
theorem configUnit (p : Port) : Statement (Instr.configUnit p) :=
  ⟨fun _ _ _ e => (nomatch e), fun _ => rfl⟩
theorem configInputs (p : Port) : Statement (Instr.configInputs p) :=
  ⟨fun _ _ _ e => (nomatch e), fun _ => rfl⟩
theorem configSlot (p : Port) : Statement (Instr.configSlot p) :=
  ⟨fun _ _ _ e => (nomatch e), fun _ => rfl⟩
theorem configFunction (p : Port) : Statement (Instr.configFunction p) :=
  ⟨fun _ _ _ e => (nomatch e), fun _ => rfl⟩
theorem configChannel (p : Port) : Statement (Instr.configChannel p) :=
  ⟨fun _ _ _ e => (nomatch e), fun _ => rfl⟩
theorem configMap (p : Port) : Statement (Instr.configMap p) :=
  ⟨fun _ _ _ e => (nomatch e), fun _ => rfl⟩
theorem configGauge (p : Port) : Statement (Instr.configGauge p) :=
  ⟨fun _ _ _ e => (nomatch e), fun _ => rfl⟩
theorem configFlasher (p : Port) : Statement (Instr.configFlasher p) :=
  ⟨fun _ _ _ e => (nomatch e), fun _ => rfl⟩
theorem configSupply (p : Port) : Statement (Instr.configSupply p) :=
  ⟨fun _ _ _ e => (nomatch e), fun _ => rfl⟩
theorem configFan (p : Port) : Statement (Instr.configFan p) :=
  ⟨fun _ _ _ e => (nomatch e), fun _ => rfl⟩
theorem storeWriteDone : Statement (Instr.storeWriteDone) :=
  ⟨fun _ _ _ e => (nomatch e), fun _ => rfl⟩
theorem clearChannels (p : Port) : Statement (Instr.clearChannels p) :=
  ⟨fun _ _ _ e => (nomatch e), fun _ => rfl⟩
theorem clearEvents (p : Port) : Statement (Instr.clearEvents p) :=
  ⟨fun _ _ _ e => (nomatch e), fun _ => rfl⟩
theorem reset (p : Port) : Statement (Instr.reset p) :=
  ⟨fun _ _ _ e => (nomatch e), fun _ => rfl⟩
theorem replyStart (p : Port) (delay : Nat) : Statement (Instr.replyStart p delay) :=
  ⟨fun _ _ _ e => (nomatch e), fun _ => rfl⟩
theorem replySent (p : Port) : Statement (Instr.replySent p) :=
  ⟨fun _ _ _ e => (nomatch e), fun _ => rfl⟩
theorem replyAbandon (p : Port) (cause : AbandonCause) : Statement (Instr.replyAbandon p cause) :=
  ⟨fun _ _ _ e => (nomatch e), fun _ => rfl⟩
theorem dormantEntry : Statement (Instr.dormantEntry) :=
  ⟨fun _ _ _ e => (nomatch e), fun _ => rfl⟩
theorem wake (cause : WakeCause) : Statement (Instr.wake cause) :=
  ⟨fun _ _ _ e => (nomatch e), fun _ => rfl⟩
theorem sync (p : Port) (octet : Byte) (idle : Nat) : Statement (Instr.sync p octet idle) :=
  ⟨fun _ _ _ e => (nomatch e), fun _ => rfl⟩
theorem driveStep (x : StepStart) : Statement (Instr.driveStep x) :=
  ⟨fun _ _ _ e => (nomatch e), fun _ => rfl⟩
theorem toneHalfPeriod : Statement (Instr.toneHalfPeriod) :=
  ⟨fun _ _ _ e => (nomatch e), fun _ => rfl⟩

end Sys2Proof.Laws.ShapedFrames
end

