-- ==== Sys2Proof/Tests/Slice0.lean ====
section
/-! SUPPORT. Tests: ill-formed commands refused, the manual's worked examples, small steps, and for every statement with
hypotheses a state and operands that meet them together. -/

namespace Sys2Proof.Tests
open Sys2Proof Sys2Proof.Machine

-- One theorem after another: each test that the kernel evaluates waits for all declarations before it to be checked, and
-- tests elaborated side by side would each hold a thread while they wait.
set_option Elab.async false

/-! ### Ill-formed frames are refused -/

theorem test_frame_too_short : (Instr.frameReceived .link1 [0x20, 0x10, 0x51]).wellFormed = false := by decide
theorem test_frame_body_above_56 :
    (Instr.frameReceived .link1 (0x20 :: 0x10 :: 0x51 :: 57 :: List.replicate 59 0)).wellFormed = false := by decide
theorem test_frame_body_of_56 :
    (Instr.frameReceived .link1 (0x20 :: 0x10 :: 0x51 :: 56 :: List.replicate 58 0)).wellFormed = true := by decide
theorem test_frame_without_check :
    (Instr.frameReceived .link1 [0x20, 0x10, 0x51, 1, 0x06]).wellFormed = false := by decide
theorem test_ill_formed_refused :
    exec (.frameReceived .link1 [0x20, 0x10, 0x51]) State.reset = .refused .noFrame := by rfl
theorem test_no_word_spells_a_command : decodeTableWord 0 0 = none ∧ State.reset.withFetchWord 16 5 = State.reset :=
  ⟨rfl, rfl⟩

/-! ### Worked examples of the manual -/

/-- R149, the seven rows of its table. -/
theorem test_table_examples :
    let t := [(330, 9600), (900, 7800), (1600, 6000), (2400, 4200)]
    [200, 615, 1000, 1201, 1602, 2400, 3000].map (tableTarget · t) = [9600, 8700, 7543, 7026, 5995, 4200, 4200] := by
  decide

/-- R114, the four rows of its table. -/
theorem test_filter_examples :
    filterStep (some 12300) 11700 = 12225 ∧ filterStep (some 12225) 11700 = 12160 ∧
      filterStep (some 11307) 13800 = 11618 ∧ filterStep (some 11707) 11700 = 11707 := by decide

/-- R96, rows of its table: ON and OFF at the configured and at the fast period. -/
theorem test_cycle_examples :
    [80, 81, 101, 134, 150, 300].map (fun p =>
      ((Cycle.ofPeriod p).onLength, (Cycle.ofPeriod p).offLength, fastPeriod p,
        (Cycle.ofPeriod (fastPeriod p)).onLength, (Cycle.ofPeriod (fastPeriod p)).offLength)) =
    [(40, 40, 40, 20, 20), (41, 40, 40, 20, 20), (51, 50, 50, 25, 25), (67, 67, 67, 34, 33), (75, 75, 75, 38, 37),
      (150, 150, 150, 75, 75)] := by decide

/-- R48: channel 13 at phase 180 with duty 160 is driven in steps 180 to 249 and then 0 to 89 of the next period. -/
theorem test_wrapped_drive :
    let ch := { Chan.reset with applied := 160, prevDuty := 160 }
    gateOn 180 ch 179 = false ∧ gateOn 180 ch 180 = true ∧ gateOn 180 ch 249 = true ∧ gateOn 180 ch 89 = true ∧
      gateOn 180 ch 90 = false := by decide

/-- R100: half a period of 1,200 Hz is 417 us, of 4,000 Hz 125 us. -/
theorem test_tone_half : toneHalf 1200 = 417 ∧ toneHalf 4000 = 125 := by decide

/-- R183: an event's bit is where the digest's table puts it. -/
theorem test_event_bits : EventKind.trip.bit = 1#9 ∧ EventKind.flashFast.bit = 64#9 ∧ EventKind.reset.bit = 256#9 := by
  decide

/-! ### States for the tests -/

/-- A part in ACTIVE at the last step of a period, on the default records. -/
def base : State :=
  { State.reset with power := { State.reset.power with part := .active }, clock := .step 249 }

def lampRec (c : Channel) : ChannelRec := { ChannelRec.default c with kind := .lamp, phase := 0 }

/-- A part whose channel `c` has a kind and a volatile record. -/
def withChan (s : State) (c : Channel) (kind : ChKind) (ch : Chan) : State :=
  (s.setCfg { s.cfg with channels := s.cfg.channels.set c { s.chRec c with kind := kind, phase := 0 } }).setChan c ch

/-- A map entry of a part. -/
def withEntry (s : State) (i : Fin 32) (f : Fn) (c : Channel) (k : Contribution) : State :=
  s.setCfg { s.cfg with map := s.cfg.map.set i (some ⟨f, c, k⟩) }

/-- A frame of the diagnostic master C, which has every right by default. -/
def ask : Frame := { answered := true, slot := .c, source := 18, kind := requestKind, body := [] }

def runOf (i : Item) : Run :=
  { items := [i], answers := [], oldAddress := none, rateAfter := false, resetAfter := false, lost := false }

/-- A part that executes an item on LINK_2. -/
def item (i : Item) : State := base.setPort .link2 { base.port .link2 with queue := [ask], run := some (runOf i) }

theorem item_executing (i : Item) : Executing (item i) .link2 ask (runOf i) i := ⟨rfl, rfl, rfl, rfl, rfl⟩

theorem item_configTest (i : Item) : (item i).configTest ask.slot = none := rfl

/-- A part whose LINK_2 is in some condition. -/
def portIs (f : PortState → PortState) : State := base.setPort .link2 (f (base.port .link2))

/-- A part with one sample request at step 249. -/
def asking (x : Source) (slots : List GaugeId) : State :=
  base.setSeq { base.seq with requests := [⟨x, 249, slots⟩] }

/-- The answers of the reply a port has built. -/
def answersOf (t : State) (p : Port) : List Answer :=
  match (t.port p).reply with
  | .built y => y.answers
  | _ => []

/-- The state a command leaves: the next state, or the same where it answers none. -/
def after (c : Instr) (s : State) : State :=
  match exec c s with
  | .next t => t
  | .fault _ | .refused _ => s

/-! ### Small steps -/

/-- R6, R7: PANEL 251 is clamped to 250 and answered CLAMPED. -/
theorem test_claim_clamps :
    (match exec (.claim .link2) (item (.claim [(11, 251)])) with
      | .next t => (t.cell .panel .c, answersOf t .link2)
      | _ => (none, [])) = (some ⟨250, false, none⟩, Status.only .clamped) := by decide +kernel

/-- R8: CLAIM_ALL with an empty list withdraws every claim. -/
theorem test_claim_all_empties :
    (match exec (.claimAll .link2) ((item (.claimAll [])).setCell .side .c (some ⟨1, false, none⟩)) with
      | .next t => (t.cell .side .c, answersOf t .link2)
      | _ => (some ⟨9, false, none⟩, [])) = (none, Status.only .ok) := by decide +kernel

/-- R113: 3,599 mV is a brown-out, 3,600 mV is not. -/
theorem test_brown_out_limit :
    (match exec (.conversionDone .bus 3599) (asking .bus []) with | .next t => t.power.part | _ => .dormant) = .held ∧
      (match exec (.conversionDone .bus 3600) (asking .bus []) with | .next t => t.power.part | _ => .dormant) =
        .active := by decide

/-- R112: the second low sample enters CRANK within its own handling, and the twentieth high one, with START inactive,
returns to NORMAL and is filtered. -/
theorem test_sample_moves_crank_state :
    (match exec (.conversionDone .bus 8999) ((asking .bus []).setSup { base.sup with crankIn := 1 }) with
      | .next t => (t.sup.crank, t.sup.crankIn, t.sup.vf)
      | _ => (.normal, 9, none)) = (.crank, 0, none) ∧
      (match exec (.conversionDone .bus 9500) ((asking .bus []).setSup
          { base.sup with crank := .crank, crankOut := 19, vf := some 12000 }) with
        | .next t => (t.sup.crank, t.sup.crankOut, t.sup.vf)
        | _ => (.crank, 9, none)) = (.normal, 0, some 11688) := by decide +kernel

/-- R115, R116: filtered START moves the crank state with its own change: to CRANK from NORMAL, and back with the exit
counter at 20. -/
theorem test_start_moves_crank_state :
    (match exec (.filteredLevelChange .start) (base.setInput .start
        { raw := true, filtered := some false, run := 4, sampledNow := false }) with
      | .next t => t.sup.crank
      | _ => .normal) = .crank ∧
      (match exec (.filteredLevelChange .start) ((base.setSup { base.sup with crank := .crank, crankOut := 20 }).setInput
          .start { raw := false, filtered := some true, run := 4, sampledNow := false }) with
        | .next t => (t.sup.crank, t.sup.crankOut)
        | _ => (.crank, 9)) = (.normal, 0) := by decide +kernel

/-- R115, R116: a change of START at a drive period start may stand behind the bus sample of step 0, and no later. -/
theorem test_sample_before_start :
    let s := base.setInput .start { raw := true, filtered := some false, run := 4, sampledNow := false }
    (match exec (.driveStep ⟨0, 0⟩) (s.setClock .started) with
      | .next t => (t.clock, t.sup.crank, (t.input .start).filtered)
      | _ => (.awaiting, .crank, none)) = (.step 0, .normal, some false) ∧
      (match exec (.driveStep ⟨1, 0⟩) (s.setClock (.step 0)) with
        | .next t => (t.clock, t.sup.crank, (t.input .start).filtered)
        | _ => (.awaiting, .normal, none)) = (.step 1, .crank, some true) := by decide +kernel

/-- R121: the sample that brings the rise counter to the dwell raises the shed level within its own handling. -/
theorem test_sample_moves_shed_level :
    (match exec (.conversionDone .bus 11000) ((asking .bus []).setSup { base.sup with rise := some 399 }) with
      | .next t => (t.sup.shed, t.sup.rise, t.sup.fall)
      | _ => (9, none, none)) = (1, some 0, some 0) := by decide +kernel

/-- R188: the brown-out count stays at 255. -/
theorem test_brown_out_count :
    (match exec .brownOutRestart { base with power := { base.power with part := .held, brownOuts := 255 } } with
      | .next t => (t.power.part, t.power.brownOuts, t.power.lastReset)
      | _ => (.held, 0, .powerOn)) = (.starting, 255, .brownOut) := by decide +kernel

/-- R176: a record that does not exist is BAD_ITEM, and channel 17 does not. -/
theorem test_read_channel_17 :
    (match exec (.readChannel .link2) (item (.read (some .channel) 17)) with
      | .next t => answersOf t .link2
      | _ => []) = Status.only .badItem := by decide

/-- R170: 0xA5 after 1 octet time of idle is no sync, after 2 it is. -/
theorem test_sync_idle :
    (match exec (.sync .link2 0xA5 1) base with | .next t => (t.port .link2).assembly | _ => .watching) = .hunt ∧
      (match exec (.sync .link2 0xA5 2) base with | .next t => (t.port .link2).assembly | _ => .watching) =
        .assembling := by decide

/-- R180: an octet on the line of a port that executes an answered frame loses the frame's reply. -/
theorem test_sync_in_execution :
    (match exec (.sync .link2 0xA5 9) (item .reset) with
      | .next t => ((t.port .link2).run.map fun r => r.lost, (t.port .link2).assembly)
      | _ => (none, .watching)) = (some true, .hunt) := by decide +kernel

/-- R187: an INPUTS record takes nothing from a change of level whose last sample has been taken (log 48). -/
theorem test_inputs_record_after_a_change :
    let i : WInput := { polarity := some .activeLow, debounce := 4 }
    (match exec (.configInputs .link2) ((item (.config (.inputs ⟨i, i, i, i⟩))).setInput .brake
        { raw := true, filtered := some false, run := 4, sampledNow := false }) with
      | .next t => ((t.input .brake).filtered, (t.input .brake).run, (t.cell .stop .l).isSome)
      | _ => (none, 9, false)) = (some true, 0, true) := by decide +kernel

/-- R187: an INPUTS record waits for a start of which a sample has been taken ahead (log 48). -/
theorem test_inputs_record_waits :
    let i : WInput := { polarity := some .activeHigh, debounce := 4 }
    let s := (item (.config (.inputs ⟨i, i, i, i⟩))).setInput .brake
      { raw := true, filtered := some true, run := 0, sampledNow := true }
    exec (.configInputs .link2) s = .next s := by rfl

/-- R179: at 19,200 bit/s two octet times are 1,042 us; the reply begins no sooner. -/
theorem test_reply_window :
    replyTimely .b19200 1041 = false ∧ replyTimely .b19200 1042 = true ∧ replyTimely .b19200 5000 = true ∧
      replyTimely .b19200 5001 = false := by decide

/-- R22, R18: a mask without RESET takes RESET out of the pending set. -/
theorem test_mask_drops_event :
    (match exec (.configSlot .link2) (item (.config (.slot
        { slot := some .a, port := some .link1, source := 16, rights := ⟨true, true, false, false⟩, timeout := 100,
          mask := 255#9 }))) with
      | .next t => ((t.slot .a).pending, answersOf t .link2)
      | _ => (0, [])) = (128#9, Status.only .ok) := by decide

/-- R170: in HUNT an octet with no stop bit is ignored and the idle line is counted from it, so a 0xA5 right behind it is
no sync. -/
theorem test_framing_fault_in_hunt :
    (match exec (.framingFault .link2 .noStopBit) (portIs fun v => { v with idle := 5 }) with
      | .next t => (t.port .link2).idle
      | _ => 9) = 0 := by decide

/-- R100: a tick of 6,000 us at halves of 417 us does not end in its first half. -/
theorem test_tick_lasts :
    let s := base.setFlash { base.flash with tick := some { half := 417, length := 6000, elapsed := 0 }, tone := true }
    exec .tickEnd s = .next s := by rfl

/-- R92: the counter of an ON phase of 67 stays within 0 to 66 at the start that ends the phase. -/
theorem test_flash_counter_bound :
    let s := base.setFlash { base.flash with phase := .onPhase { Cycle.ofPeriod 134 with counter := 66 } }
    (match exec (.drivePeriodStart ⟨false, false, false, false⟩) s with
      | .next t => (t.flash.phase, t.flash.ended)
      | _ => (.idle false false, false)) = (.onPhase { Cycle.ofPeriod 134 with counter := 66 }, true) := by
  decide +kernel

/-- R186: a fifth entry on a channel is no conflict at a load, so it loads as it is stored. -/
theorem test_load_fifth_entry :
    let e (f : Fn) : Option (Option MapEntry) := some (some ⟨f, 0, .full⟩)
    let map := ((((((Vector.replicate 32 (some none)).set 0 (e .side)).set 1 (e .headDip)).set 2 (e .headMain)).set 3
      (e .stop)).set 4 (e .fog))
    (loadStore { Store.new with map := map, channels := Vector.replicate 16 (some (lampRec 0)) }).cfg.map[(4 : Fin 32)] =
      some ⟨.fog, 0, .full⟩ := by
  decide +kernel

/-- R83, R125: an INRUSH_EXPIRY ahead of its start waits for the conversion of step 249, whose sample is not counted:
it was taken in INRUSH. A channel in RUN has its own counted. -/
theorem test_sample_in_inrush :
    let s (st : ChState) : State :=
      let a := (withChan base 1 .lamp { Chan.reset with
        st := st, inrushTimer := some 1, admCount := some 0, demand := 250, applied := 250 }).setSeq
          { base.seq with requests := [⟨.channel 1, 249, []⟩] }
      a.setCfg { a.cfg with channels := a.cfg.channels.set 1 { lampRec 1 with openThreshold := 100 } }
    let x := s .inrush
    exec (.inrushExpiry 1) x = .next x ∧ ((after (.conversionDone (.channel 1) 0) x).chan 1).low = 0 ∧
      ((after (.inrushExpiry 1) (after (.conversionDone (.channel 1) 0) x)).chan 1).st = .run ∧
      ((after (.conversionDone (.channel 1) 0) (s .run)).chan 1).low = 1 := by
  refine ⟨rfl, ?_⟩; decide +kernel

/-- R91, R95: the ON phase ends ahead of a start, the demand ends and begins again before it: the new cycle begins at
the start after that one. -/
theorem test_demand_begins_again :
    let on (n : Nat) (s : State) : State := (s.setResult .turnL n).flashTest
    let a := (base.setResult .turnL 1).setFlash { base.flash with
      phase := .onPhase { Cycle.ofPeriod 134 with counter := 66 } }
    let b := on 1 (on 0 (after .offPhaseEntry a))
    let start := after (.drivePeriodStart ⟨false, false, false, false⟩)
    let c := start b
    let d := start { c with clock := .step 249, seq := { c.seq with requests := [] } }
    (b.flash.phase, (after .flashStart b).flash.phase) = (.idle true false, .idle true false) ∧
      (c.flash.phase, (after .flashStart c).flash.phase) = (.idle true false, .idle true false) ∧
      d.flash.phase = .idle true true ∧ (after .flashStart d).flash.phase = .onPhase (Cycle.ofPeriod 134) := by
  decide +kernel

/-- R18, R20: a slot falls silent ahead of a start and its master is heard before it: the start leaves its timer 0. -/
theorem test_slot_heard_again :
    let s := base.setSlot .a { base.slot .a with st := .live, timer := some 99 }
    let a := (after (.silenceExpiry .a) s).hear .a
    ((after (.silenceExpiry .a) s).slot .a).st = .silent ∧ (a.slot .a).timer = some 0 ∧
      ((after (.drivePeriodStart ⟨false, false, false, false⟩) a).slot .a).timer = some 0 ∧
      ((after (.drivePeriodStart ⟨false, false, false, false⟩) s).slot .a).timer = some 100 := by decide +kernel

/-! ### Witnesses: start-up, supply and store -/

theorem witness_WellFormedCommandsComplete :
    Instr.powerOn.wellFormed = true ∧ (Instr.frameReceived .link1 []).wellFormed = false := by decide

theorem witness_PartStartsUp :
    { base with power := { base.power with part := .held } }.power.part = .held ∧
      State.reset.power.part = .starting ∧ 5 ≤ ({ State.reset.power with starts := 5 } : Power).starts ∧
      ({ State.reset.power with starts := 4 } : Power).starts = 4 ∧ base.clock = .step 249 ∧
      base.conversionDue = false := by decide

theorem witness_PartStartsUp_store (x : ConfigRecord) :
    base.storeWrite = none ∧ { base with storeWrite := some x }.storeWrite = some x := ⟨rfl, rfl⟩

theorem witness_LoadTakesDefaults :
    Store.new.unit = none ∧ Store.new.inputs = none ∧ Store.new.slots.get .a = none ∧
      Store.new.functions[Fn.aux2.idx] = none ∧ Store.new.channels[(15 : Channel)] = none ∧
      Store.new.map[(31 : Fin 32)] = none ∧ Store.new.gauges.get .g3 = none ∧ Store.new.flasher = none ∧
      Store.new.supply = none ∧ Store.new.fan = none ∧
      { Store.new with inputs := some inputsDefault }.inputs = some inputsDefault ∧
      { Store.new with channels := Vector.replicate 16 (some (lampRec 0)) }.channels[(15 : Channel)] = some (lampRec 0) ∧
      { Store.new with flasher := some FlasherRec.default }.flasher = some FlasherRec.default := by decide +kernel

/-- A store with records of the 12 V class; each of those named conflicts with what is loaded before it, or not. -/
def stored (conflicts : Bool) : Store :=
  { Store.new with
    unit := some { UnitRec.default with group1 := if conflicts then 32 else 40, cls := .c12 },
    slots := { Store.new.slots with
      b := some { SlotRec.default .b with port := .link1, source := if conflicts then 16 else 17 } },
    functions := Store.new.functions.set Fn.aux2.idx
      (some { FunctionRec.default .aux2 with order := if conflicts then [.a, .b] else [.a, .b, .c, .l] }),
    channels := (Store.new.channels.set 0 (some (lampRec 0))).set 1 (some { lampRec 1 with kind := .gauge }),
    map := (Store.new.map.set 3 (some (some ⟨.side, 0, .full⟩))).set 5
      (some (some ⟨if conflicts then .side else .fog, 0, .full⟩)),
    gauges := { Store.new.gauges with
      g1 := some { GaugeRec.default .c12 .g1 with bound := some (if conflicts then 0 else 1) } },
    supply := some { SupplyRec.default .c12 with shed3 := if conflicts then 11500 else 11000 },
    fan := some { FanRec.default with duty1 := if conflicts then 161 else 90 } }

theorem witness_LoadTakesDefaults_conflict :
    ∀ conflicts : Bool,
      let l := (loadStore (stored conflicts)).cfg
      ((40 : Nat) ≠ 32 ∧ UnitRec.default.address = 32) ∧ l.unit.cls = .c12 ∧
        (l.slots.get .a).port = .link1 ∧ (l.slots.get .a).source = 16 ∧
        l.channels[(0 : Channel)].kind = .lamp ∧ l.channels[(1 : Channel)].kind = .gauge ∧
        l.map[(3 : Fin 32)] = some ⟨.side, 0, .full⟩ ∧ (l.gauges.get .g2).bound = none ∧
        (SupplyRec.default .c12).tag = .c12 ∧ (SupplyRec.default .c12).shed2 = 11500 ∧ FanRec.default.duty2 = 160 ∧
        l.unit.group1 = (if conflicts then 0 else 40) ∧
        l.map[(5 : Fin 32)] = (if conflicts then none else some ⟨.fog, 0, .full⟩) ∧
        (l.gauges.get .g1).bound = (if conflicts then none else some 1) ∧
        l.supply.shed3 = 11000 ∧ l.fan.duty1 = 90 := by
  decide +kernel

/-- R107, R140: records of another class. -/
theorem witness_LoadTakesDefaults_class :
    let st : Store := { Store.new with
      unit := some { UnitRec.default with cls := .c6 }, supply := some (SupplyRec.default .c12),
      gauges := { Store.new.gauges with g1 := some { GaugeRec.default .c12 .g1 with target := 7000 } } }
    let l := (loadStore st).cfg
    l.unit.cls = .c6 ∧ (SupplyRec.default .c12).tag ≠ l.unit.cls ∧ (GaugeRec.default .c12 .g1).tag ≠ l.unit.cls ∧
      l.supply = SupplyRec.default .c6 ∧ (l.gauges.get .g1).target = 5000 := by decide +kernel

theorem witness_BrownOutHoldsThePart :
    (asking .bus []).request? .bus = some ⟨.bus, 249, []⟩ ∧ (asking .bus []).servesNow ⟨.bus, 249, []⟩ = true ∧
      3599 < 3600 := by decide

/-! ### Witnesses: invariants -/

/-- A part with a lamp driven, one in its inrush window and one waiting, and a drive step at the front of its queue. -/
def lit : State :=
  let a := withChan base 0 .lamp { Chan.reset with st := .run, demand := 250, applied := 250, present := true }
  let b := withChan a 1 .lamp { Chan.reset with st := .inrush, inrushTimer := some 3, demand := 250, present := true }
  let c := withChan b 2 .lamp { Chan.reset with st := .waiting, demand := 250, present := true }
  let d := withEntry (withEntry (withEntry c 0 .side 0 .full) 1 .side 1 .full) 2 .side 2 .full
  let e := (d.setCell .side .a (some ⟨1, false, none⟩)).setResult .side 1
  { e with pending := [.tickEnd], queue := [(2, .normal)], window := [(1, 8000)] }

theorem witness_step : step lit = .next { lit with pending := [] } := by rfl

theorem witness_EventsStayMasked : lit.EventsMasked := fun m => by cases m <;> decide

theorem newChannels : ∀ c : Channel, Store.new.channels[c] = none := by decide +kernel

/-- A part on a new store, with no store write in flight, keeps every phase in its range if its CHANNEL records do. -/
theorem phasesInRange (s : State) (hs : s.store = Store.new) (hw : s.storeWrite = none)
    (hc : ∀ c : Channel, (s.chRec c).phase ≤ 249) : s.PhasesInRange := by
  refine ⟨hc, fun c r h => ?_, fun c r h => ?_⟩
  · rw [hs, newChannels c] at h; exact nomatch h
  · rw [hw] at h; exact nomatch h

/-- Two entries stand apart where neither is a FAN entry, or on the other's channel beside one. -/
def apart (x y : Option MapEntry) : Bool :=
  match x, y with
  | some e, some f => !(e.fn == .fan && (f.fn == .fan || f.chan == e.chan))
  | _, _ => true

theorem mapChecked (s : State) (hk : ∀ e ∈ s.entries, (s.chRec e.chan).kind = .lamp ∨ (s.chRec e.chan).kind = .motor)
    (hf : ∀ e ∈ s.entries, e.fn = .fan → (s.chRec e.chan).kind = .motor)
    (ha : ∀ i j : Fin 32, i = j ∨ apart s.cfg.map[i] s.cfg.map[j] = true) : s.MapChecked := by
  refine ⟨hk, hf, fun i j e x hi hj he hx => (ha i j).resolve_right fun h => ?_⟩
  simp only [hi, hj, apart, he] at h
  rcases hx with hx | hx <;> simp [hx] at h

theorem witness_IdleChannelsStayDark : lit.IdleChannelsDark ∧ lit.PhasesInRange := by
  refine ⟨?_, phasesInRange lit rfl rfl (by decide +kernel)⟩
  unfold State.IdleChannelsDark; decide +kernel

theorem litChecked : lit.MapChecked := by refine mapChecked lit ?_ ?_ ?_ <;> decide +kernel

/-- A part with a LATCHED channel whose entry is present. -/
def latched : State :=
  { withEntry (withChan lit 9 .lamp { Chan.reset with st := .latched, demand := 250, present := true }) 9 .side 9 (.dim 249)
    with pending := [.tickEnd] }

theorem witness_IdleChannelsStayDark_latched :
    step latched = .next { latched with pending := [] } ∧ latched.MapChecked ∧ latched.FanFollowsChannel ∧
      latched.LatchesStand ∧ (latched.chan 9).st = .latched := by
  refine ⟨by rfl, by refine mapChecked latched ?_ ?_ ?_ <;> decide +kernel, ?_, ?_, by decide +kernel⟩
  · unfold State.FanFollowsChannel; decide +kernel
  · unfold State.LatchesStand; decide +kernel

/-- An entry whose level is in its range. -/
def dimFits (e : MapEntry) : Bool :=
  match e.contrib with
  | .dim l => decide (l ≤ 249)
  | .full | .level | .flash => true

theorem dimFits_inRange (e : MapEntry) (h : dimFits e = true) : e.InRange := by
  unfold dimFits at h
  unfold MapEntry.InRange
  cases hc : e.contrib <;> simp_all

theorem newMap : ∀ i : Fin 32, Store.new.map[i] = none := by decide +kernel

/-- A part on a new store, with no store write in flight and the default FAN record, keeps every duty at most 250 if its
channels, gauge slots, fan and map entries do. -/
theorem dutiesInRange (s : State) (hs : s.store = Store.new) (hw : s.storeWrite = none) (hf : s.cfg.fan = FanRec.default)
    (hc : ∀ c : Channel, (s.chan c).demand ≤ 250 ∧ (s.chan c).applied ≤ 250 ∧ (s.chan c).prevDuty ≤ 250)
    (hg : ∀ g ∈ [GaugeId.g1, .g2, .g3], (s.gauge g).duty ≤ 250) (ht : s.fan.target ≤ 250) (hr : s.fan.ramp ≤ 250)
    (hm : ∀ i : Fin 32, (s.cfg.map[i]).all dimFits = true) : s.DutiesInRange := by
  refine ⟨hc, fun g => hg g (by cases g <;> decide), ht, hr, ?_, fun r h => ?_, fun i e h => ?_, fun r h => ?_⟩
  · rw [hf]; unfold FanRec.InRange; decide
  · rw [hs] at h; exact nomatch h
  · rcases h with h | h
    · exact dimFits_inRange e (by have := hm i; rw [h] at this; exact this)
    · rw [hs] at h
      rw [newMap i] at h; exact nomatch h
  · rw [hw] at h; exact nomatch h

theorem witness_IdleChannelsStayDark_duties : latched.DutiesInRange := by
  refine dutiesInRange latched rfl rfl rfl ?_ ?_ ?_ ?_ ?_ <;> decide +kernel

theorem witness_QueueAndWindowStayTrue : lit.QueueIsWaiting ∧ lit.WindowIsInrush ∧ lit.StopsAreUrgent := by
  unfold State.QueueIsWaiting State.WindowIsInrush State.StopsAreUrgent; decide +kernel

/-- A part with an URGENT and a NORMAL place, and channels outside the queue with and without a stop mark. -/
def queued : State :=
  let a := withChan base 4 .lamp { Chan.reset with st := .waiting, demand := 250, stop := true }
  let b := withChan a 2 .lamp { Chan.reset with st := .waiting, demand := 250 }
  let c := withChan b 5 .lamp { Chan.reset with demand := 250, stop := true }
  { c with queue := [(4, .urgent), (2, .normal)] }

theorem witness_QueueAndWindowStayTrue_places :
    queued.QueueIsWaiting ∧ (6 ∉ queued.queued ∧ (queued.chan 6).stop = false) ∧
      (5 ∉ queued.queued ∧ (queued.chan 5).stop = true) ∧ queued.queue ≠ [] ∧
      (queued.queue.filter fun x => x.2 == .urgent) ≠ [] ∧ (2, .normal) ∈ queued.queue ∧
      (4, .normal) ∉ queued.queue := by
  unfold State.QueueIsWaiting; decide +kernel

theorem witness_ResultsStayEvaluated : lit.ResultsEvaluated := fun f => by cases f <;> decide +kernel

/-- A part in which a function has a record and claims of A, B and L, at a shed level. -/
def claimed (f : Fn) (r : FunctionRec) (a b l : Option Nat) (shed : Nat) : State :=
  let claim (v : Option Nat) : Option Claim := v.map fun n => ⟨n, false, none⟩
  let s := base.setCfg { base.cfg with functions := base.cfg.functions.set f.idx r }
  ((((s.setCell f .a (claim a)).setCell f .b (claim b)).setCell f .l (claim l))).setSup { base.sup with shed := shed }

/-- R13 to R15: a function off by its gate and by each rank at its own shed level, and one that each combine rule
evaluates: no claim, a claim of 0 ahead of one that is not, and one of 1 ahead of the greatest. -/
theorem witness_ResultsStayEvaluated_rules :
    (∀ x ∈ [(ShedRank.r1, 1), (.r2, 2), (.r3, 3)],
      let s := claimed .panel { FunctionRec.default .panel with rank := x.1 } (some 90) none none x.2
      (s.fnRec .panel).rank = x.1 ∧ x.2 ≤ s.sup.shed ∧ s.combined .panel = 90) ∧
    (let s := claimed .fan { FunctionRec.default .fan with gate := .ign } (some 2) none none 0
     (s.fnRec .fan).gate = .ign ∧ (s.input .ign).filtered ≠ some true ∧ s.combined .fan = 2) ∧
    (∀ k ∈ [Combine.any, .highest, .priority],
      ∀ c ∈ [(none, none, none), (some 0, some 1, none), (some 1, none, some 0), (some 0, none, some 0)],
        let s := claimed .stop { FunctionRec.default .stop with gate := .any, combine := k } c.1 c.2.1 c.2.2 3
        (s.fnRec .stop).combine = k ∧ (s.fnRec .stop).gate = .any ∧ (s.fnRec .stop).rank = .never ∧
          (s.fnRec .stop).order = [.a] ++ .b :: [.c, .l] ∧
          (s.cell .stop .a).map Claim.value = c.1 ∧ (s.cell .stop .b).map Claim.value = c.2.1 ∧
          (s.cell .stop .c).isNone ∧ (s.cell .stop .l).map Claim.value = c.2.2) ∧
    ∀ k ∈ [Combine.any, .highest, .priority],
      ∀ c ∈ [(none, none, none), (some 0, some 90, some 250), (none, some 0, none)],
      let s := claimed .panel { FunctionRec.default .panel with combine := k } c.1 c.2.1 c.2.2 2
      (s.fnRec .panel).combine = k ∧ (s.fnRec .panel).gate = .any ∧ (s.fnRec .panel).rank = .r3 ∧ s.sup.shed = 2 ∧
        (s.fnRec .panel).order = [.a] ++ .b :: [.c, .l] ∧
        (s.cell .panel .a).map Claim.value = c.1 ∧ (s.cell .panel .b).map Claim.value = c.2.1 ∧
        (s.cell .panel .l).map Claim.value = c.2.2 := by decide +kernel

/-- R13: the four rows of its table on PANEL, claims of A and B at 0 and 90 and of L at 250. -/
theorem test_combine_rules :
    [Combine.any, .highest, .priority].map (fun k =>
      (claimed .panel { FunctionRec.default .panel with combine := k } (some 0) (some 90) (some 250) 0).evaluated
        .panel) =
    [90, 250, 0] := by decide +kernel

/-- R11, R14: IGN seeded active finds the claim on a gated function again. -/
theorem witness_ResultsStayEvaluated_ignition :
    let s := (base.setCell .turnL .a (some ⟨1, false, none⟩)).setInput .ign
      { raw := true, filtered := none, run := 4, sampledNow := false }
    let t := after (.inputSeed .ign) s
    (s.result .turnL = 0 ∧ t.result .turnL = 1 ∧ t.claims = s.claims) ∧ s.ResultsEvaluated :=
  ⟨by decide +kernel, fun f => by cases f <;> decide +kernel⟩

theorem witness_DemandsStayComposed :
    lit.BoundAreGauges ∧ lit.MapChecked ∧ lit.DemandsComposed ∧ lit.FanTargetComputed :=
  ⟨fun g c h => by cases g <;> exact (nomatch (show (none : Option Channel) = some c from h)), litChecked,
    by unfold State.DemandsComposed; decide +kernel, by unfold State.FanTargetComputed; decide +kernel⟩

/-- A part with a combined rear lamp on channel 7, a turn tell-tale on channel 11 and a hazard tell-tale on channel 12,
with SIDE and STOP on, in a phase of the flash. -/
def rear (turnL hazard : Nat) (phase : FlashPhase) : State :=
  let a := withChan (withChan (withChan base 6 .lamp Chan.reset) 10 .lamp Chan.reset) 11 .lamp Chan.reset
  let b := withEntry (withEntry (withEntry a 7 .turnL 6 .flash) 8 .stop 6 .full) 9 .side 6 (.dim 40)
  let c := withEntry (withEntry (withEntry b 15 .turnL 10 .flash) 16 .turnR 10 .flash) 17 .hazard 11 .flash
  ((((c.setResult .side 1).setResult .stop 1).setResult .turnL turnL).setResult .hazard hazard).setFlash
    { base.flash with phase := phase }

/-- R32 to R35, chapter 2.5: the rear lamp follows the side, the hazard tell-tale the hazard alone. -/
theorem witness_DemandsStayComposed_entries :
    let cy := Cycle.ofPeriod 134
    (∀ phase ∈ [FlashPhase.idle true false, .onPhase cy, .offPhase cy], ∀ x ∈ [(0, 0), (1, 0), (0, 1)],
      let s := rear x.1 x.2 phase
      s.flash.phase = phase ∧ (s.follows 6 = true ↔ x ≠ (0, 0)) ∧ (s.follows 11 = true ↔ x = (0, 1)) ∧
        s.cfg.map[(7 : Fin 32)] = some ⟨.turnL, 6, .flash⟩ ∧ s.cfg.map[(9 : Fin 32)] = some ⟨.side, 6, .dim 40⟩) ∧
      (rear 0 0 (.idle false false)).composed 6 = (250, .steady) ∧
      (rear 1 0 (.onPhase cy)).composed 6 = (250, .flash) ∧ (rear 0 1 (.offPhase cy)).composed 6 = (0, .flash) ∧
      (rear 1 0 (.onPhase cy)).composed 11 = (0, .steady) ∧
      (rear 0 0 (.idle false false)).composed 0 = (0, .steady) := by
  decide +kernel

theorem witness_DemandsStayComposed_flash : lit.FlashFollowsDemand := by
  unfold State.FlashFollowsDemand; decide +kernel

/-- A part whose gauge slot 1 computes the duty of a 10,000 mV target at a Vf of 12,000 mV for channel 5. -/
def gauged : State :=
  let a := withChan base 4 .gauge { Chan.reset with demand := 174 }
  let b := a.setCfg { a.cfg with
    gauges := a.cfg.gauges.set .g1 { a.gaugeRec .g1 with
      enabled := true, bound := some 4, mode := .stabilised, target := 10000 } }
  let c := (b.setGauge .g1 { GaugeSlot.reset with
    st := .active, ring := [400], average := some 400, vt := some 10000, duty := 174 }).setSup
      { b.sup with vf := some 12000 }
  { c.setInput .ign { raw := true, filtered := some true, run := 0, sampledNow := false } with pending := [.tickEnd] }

theorem gauged_bound (g : GaugeId) (c : Channel) (h : (gauged.gaugeRec g).bound = some c) : g = .g1 ∧ c = 4 := by
  cases g
  · exact ⟨rfl, (Option.some.inj (show some (4 : Channel) = some c from h)).symm⟩
  · exact nomatch (show (none : Option Channel) = some c from h)
  · exact nomatch (show (none : Option Channel) = some c from h)

theorem witness_DemandsStayComposed_gauge :
    step gauged = .next { gauged with pending := [] } ∧ gauged.BoundAreGauges ∧ gauged.MapChecked ∧
      gauged.FanFollowsChannel ∧ gauged.GaugesComputed ∧ (gauged.gauge .g1).st = .active := by
  refine ⟨by rfl, ?_, by refine mapChecked gauged ?_ ?_ ?_ <;> decide +kernel, ?_,
    ⟨?_, ?_, fun g => by cases g <;> decide +kernel, ?_, ?_, ?_, ?_, ?_⟩, by decide +kernel⟩
  · intro g c h; obtain ⟨rfl, rfl⟩ := gauged_bound g c h; decide +kernel
  · unfold State.FanFollowsChannel; decide +kernel
  · intro h; exact absurd (show (gauged.input .ign).filtered = some true by decide +kernel) h
  · intro g h; cases g
    · exact absurd h (by decide +kernel)
    · rfl
    · rfl
  · intro g; cases g <;> decide +kernel
  · intro g vf ha hv vt ht
    cases g
    · have hvf : gauged.sup.vf = some 12000 := by decide +kernel
      have hvt : (gauged.gaugeRec .g1).mode = .stabilised ∧ (gauged.gaugeRec .g1).target = 10000 := by decide +kernel
      rw [hvt.1, hvt.2] at ht
      obtain rfl : (12000 : Nat) = vf := Option.some.inj (hvf.symm.trans hv)
      obtain rfl : (10000 : Nat) = vt := Option.some.inj ht
      decide +kernel
    · exact absurd ha (by decide +kernel)
    · exact absurd ha (by decide +kernel)
  · intro g h c hg hh; rw [(gauged_bound g c hg).1, (gauged_bound h c hh).1]
  · intro g c h; obtain ⟨rfl, rfl⟩ := gauged_bound g c h; decide +kernel
  · intro c hk hb
    by_cases hc : c = 4
    · subst hc; exact absurd (show (gauged.gaugeRec .g1).bound = some 4 by decide +kernel) (hb .g1)
    · revert hc hk; clear hb; revert c; decide +kernel

theorem witness_SupplyStatesStayLegal_start :
    lit.CrankFollowsStart ∧ (base.setSup { base.sup with crank := .crank, crankOut := 19 }).CrankFollowsStart := by
  unfold State.CrankFollowsStart; decide +kernel

theorem witness_SupplyStatesStayLegal : lit.GaugesFollowCrank ∧ lit.ShedCounters ∧ lit.SamplesHandled := by
  refine ⟨fun g => by cases g <;> decide, by unfold State.ShedCounters; decide, by decide, by decide, fun n h => ?_,
    fun n h => ?_, by decide +kernel, fun r h => ?_, fun r h => ?_⟩
  · obtain rfl : (0 : Nat) = n := Option.some.inj (show some 0 = some n from h)
    decide +kernel
  · exact nomatch (show (none : Option Nat) = some n from h)
  · exact nomatch (show (none : Option SupplyRec) = some r from h)
  · exact nomatch (show (none : Option ConfigRecord) = some (.supply r) from h)

theorem lit_cell (f : Fn) (k : Claimant) (c : Claim) (h : lit.cell f k = some c) :
    c = ⟨1, false, none⟩ ∧ f = .side := by
  have hs : lit.cell .side .a = some ⟨1, false, none⟩ := by decide +kernel
  by_cases hf : f = .side ∧ k = .a
  · obtain ⟨rfl, rfl⟩ := hf
    exact ⟨(Option.some.inj (hs.symm.trans h)).symm, rfl⟩
  · have : lit.cell f k = none := by
      cases f <;> cases k <;> first | rfl | exact absurd ⟨rfl, rfl⟩ hf
    rw [this] at h
    exact nomatch h

theorem witness_ClaimTableStaysTrue : lit.ValuesOfKind ∧ lit.SilenceMarks :=
  ⟨⟨fun f k c h => by obtain ⟨rfl, rfl⟩ := lit_cell f k c h; decide, fun f => by cases f <;> decide +kernel⟩,
    fun m => by cases m <;> decide,
    fun m f c h ho => by obtain ⟨rfl, rfl⟩ := lit_cell f m.claimant c h; exact (nomatch ho),
    fun f k c h ho => by obtain ⟨rfl, rfl⟩ := lit_cell f k c h; exact (nomatch ho)⟩

/-- R10: the brake is pressed, and L holds its claim on STOP. -/
theorem witness_ClaimTableStaysTrue_local :
    let s := (lit.setInput .brake { raw := true, filtered := some true, run := 0, sampledNow := false }).setCell .stop .l
      (some ⟨1, false, none⟩)
    lit.LocalClaimsFollowInputs ∧ s.LocalClaimsFollowInputs ∧ (s.input .brake).filtered = some true :=
  ⟨fun f => by cases f <;> decide +kernel, fun f => by cases f <;> decide +kernel, by decide +kernel⟩

theorem witness_BodiesStayShort : lit.BodiesFit := fun p => by
  cases p
  · exact ⟨fun _ h => absurd (show _ ∈ ([] : List Frame) from h) (by simp),
      fun _ h => (nomatch (show (none : Option Run) = some _ from h)), trivial⟩
  · exact ⟨fun _ h => absurd (show _ ∈ ([] : List Frame) from h) (by simp),
      fun _ h => (nomatch (show (none : Option Run) = some _ from h)), trivial⟩

/-- A part whose fan channel 3 is in some state, with its fan at step 2, duty 160. -/
def fanIn (st : FanState) (ramp : Nat) (ch : Chan) : State :=
  let a := withEntry (withChan base 3 .motor ch) 0 .fan 3 .full
  { a.setResult .fan 2 with
    fan := { a.fan with st := st, requested := 2, capped := 2, target := 160, ramp := ramp } }

theorem witness_DemandsStayComposed_fan :
    let s := { fanIn .ramp 162 { Chan.reset with st := .run, demand := 162, applied := 160 } with pending := [.tickEnd] }
    step s = .next { s with pending := [] } ∧ s.MapChecked ∧ s.QueueIsWaiting ∧ s.FanFollowsChannel ∧
      s.FanTargetComputed ∧ s.fanChannel = some 3 := by
  refine ⟨by rfl, by refine mapChecked _ ?_ ?_ ?_ <;> decide +kernel, ?_, ?_, ?_, by decide +kernel⟩
  · unfold State.QueueIsWaiting; decide +kernel
  · unfold State.FanFollowsChannel; decide +kernel
  · unfold State.FanTargetComputed; decide +kernel

/-! ### Witnesses: the drive period -/

/-- Every line inactive at a polarity of active low. -/
def noLine : PerInput Bool := ⟨true, true, true, true⟩

theorem witness_PeriodCountRises :
    (base.settle.running = true ∧ base.settle.clock = .step 249 ∧ base.settle.conversionDue = false ∧
      (base.settle.input .ign).sampledNow = false) ∧
      ({ base with clock := .awaiting }).settle.clock = .awaiting ∧
      (asking .bus []).settle.conversionDue = true ∧ ({ base with clock := .step 248 }).settle.clock = .step 248 ∧
      { base.power with part := Part.dormant }.part = .dormant ∧ 16 < 17 := by
  decide +kernel

/-- A part with a heard slot, a held claim, a phase of the flash, and a level of IGN taken ahead of the start. -/
def counting (phase : FlashPhase) (uncounted : Bool) : State :=
  (((base.setSlot .a { base.slot .a with st := .live, timer := some 7 }).setCell .side .b
    (some ⟨1, true, some 3⟩)).setFlash { base.flash with phase := phase, uncounted := uncounted }).setInput .ign
      { raw := true, filtered := some true, run := 0, sampledNow := true }

theorem witness_PeriodStartCounts :
    ∀ k : Fin 4, ∀ uncounted : Bool,
      let cy : Cycle := { Cycle.ofPeriod 81 with counter := if k.val % 2 = 0 then 38 else 39 + k.val / 2 % 2 }
      let phase : FlashPhase := if k.val < 2 then .offPhase cy else .onPhase cy
      let u := (counting phase uncounted).settle
      u.running = true ∧ u.clock = .step 249 ∧ u.conversionDue = false ∧
        (∀ i ∈ allInputs, (u.input i).sampledNow = true →
          (u.cfg.inputs.get i).polarity.rawLevel (if i = .ign then false else true) = (u.input i).raw) ∧
        (u.input .ign).sampledNow = true ∧ (u.input .brake).sampledNow = false ∧
        (u.slot .a).st = .live ∧ u.power.wakeStart = false ∧ (u.slot .b).silencedNow = false ∧
        u.holdOf .b .side = some 3 ∧ u.flash.phase = phase ∧ u.flash.uncounted = uncounted ∧
        cy.counter < (if k.val < 2 then cy.offLength else cy.onLength) ∧
        (k.val % 2 = 1 → cy.counter + 1 = if k.val < 2 then cy.offLength else cy.onLength) := by
  decide +kernel

/-- R91, R105: an idle generator with and without its mark, and a phase kept over a wake. -/
theorem witness_PeriodStartCounts_idle :
    (∀ p b uncounted : Bool,
      let u := (counting (.idle p b) uncounted).settle
      u.running = true ∧ u.clock = .step 249 ∧
        (u.flash.phase = .idle p b ∧ u.flash.uncounted = uncounted ∨ p = true ∧ b = true)) ∧
    (let s := counting (.idle false false) false
     let u := (s.setSlot .a { s.slot .a with silencedNow := true }).settle
     (u.slot .a).st = .live ∧ (u.slot .a).silencedNow = true ∧ (u.slot .a).timer ≠ none) ∧
    let s := counting (.onPhase (Cycle.ofPeriod 134)) false
    let u := ({ s with power := { s.power with wakeStart := true }, clock := .awaiting }).settle
    u.running = true ∧ u.clock = .awaiting ∧ u.power.wakeStart = true ∧ u.flash.uncounted = false ∧
      u.flash.phase = .onPhase (Cycle.ofPeriod 134) := by decide +kernel

/-- A part with a channel in each condition of a take-up. -/
def mixed : State :=
  let on : Chan := { Chan.reset with demand := 250 }
  let a := withChan base 0 .lamp { on with st := .run, applied := 100 }
  let a := withChan a 1 .lamp { on with st := .inrush, inrushTimer := some 30 }
  let a := withChan a 2 .lamp { on with st := .inrush, inrushTimer := some 9, admCount := some 0 }
  let a := withChan a 3 .lamp { Chan.reset with st := .waiting }
  let a := withChan a 4 .gauge on
  let a := withChan a 5 .lamp { on with source := .flash, onEdge := true }
  let a := withChan a 6 .lamp { on with source := .flash }
  let a := withChan a 7 .motor on
  let a := withChan a 8 .lamp { on with st := .cooling, coolOff := some 2 }
  let a := withChan a 9 .lamp { on with st := .latched }
  let a := withChan a 10 .lamp { on with st := .waiting, source := .flash, onEdge := true }
  { a with queue := [(3, .normal), (10, .normal)], window := [(1, 8000), (2, 8000)] }

theorem witness_PeriodStartTakesUpDemands :
    let u := mixed.settle
    u.running = true ∧ u.clock = .step 249 ∧ u.conversionDue = false ∧
      (∀ i ∈ allInputs, (u.input i).sampledNow = false) ∧ u.QueueIsWaiting ∧ (u.chan 0).st = .run ∧
      (u.chan 0).demand ≠ 0 ∧ (u.chan 1).st = .inrush ∧ (u.chan 1).admCount = none ∧
      (u.chan 2).st = .inrush ∧ (u.chan 2).admCount ≠ none ∧ (u.chan 3).st = .waiting ∧
      (u.chan 3).demand = 0 ∧ (u.chan 4).st = .off ∧ (u.chRec 4).kind = .gauge ∧ (u.chan 4).demand ≠ 0 ∧
      (u.chan 5).st = .off ∧ (u.chan 5).source = .flash ∧ (u.chan 5).onEdge = true ∧ (u.chan 6).onEdge = false ∧
      (u.chan 6).source = .flash ∧ (u.chan 7).st = .off ∧ (u.chan 7).source = .steady ∧ (u.chan 8).st = .cooling ∧
      (u.chan 9).st = .latched ∧ (u.chan 10).st = .waiting ∧ (u.chan 10).onEdge = true := by
  unfold State.QueueIsWaiting; decide +kernel

/-- R61, R62: a head that waits on, with its like in the set standing, and one that is tested since a channel left. -/
theorem witness_PeriodStartTakesUpDemands_head :
    ∀ demand ∈ [250, 0],
      let a := withChan base 1 .lamp { Chan.reset with st := .inrush, inrushTimer := some 9, demand := demand,
                                                       admCount := some 0 }
      let b := withChan a 2 .lamp { Chan.reset with st := .waiting, demand := 250 }
      let s := { b with queue := [(2, .normal)], window := [(1, 29000)] }
      let t := after (.drivePeriodStart noLine) s
      s.settle.queued.head? = some 2 ∧ t.inWindow 1 = (demand != 0) ∧ t.inWindow 2 = (demand == 0) := by decide +kernel

/-- A fan in RAMP with its channel in RUN: below T, above T, and at T. -/
theorem witness_PeriodStartTakesUpDemands_fan :
    ∀ d ∈ [90, 158, 162, 250, 160],
      let u := (fanIn .ramp d { Chan.reset with st := .run, demand := d, applied := 90 }).settle
      u.running = true ∧ u.clock = .step 249 ∧ u.conversionDue = false ∧ u.QueueIsWaiting ∧
        (∀ i ∈ allInputs, (u.input i).sampledNow = false) ∧ u.fanChannel = some 3 ∧ (u.chan 3).st = .run ∧
        u.fan.st = .ramp ∧ (u.chan 3).demand = d ∧ d ≠ 0 ∧ u.fan.target = 160 := by
  unfold State.QueueIsWaiting; decide +kernel

theorem witness_PeriodStartPostsRequests :
    lit.settle.running = true ∧ lit.settle.clock = .step 249 ∧ lit.settle.conversionDue = false ∧
      (∀ i ∈ allInputs, (lit.settle.input i).sampledNow = false) ∧ 0 < (lit.settle.chan 0).applied := by
  decide +kernel

/-- A part with a fan channel in RUN. -/
def blowing : State := fanIn .running 160 { Chan.reset with st := .run, demand := 160, applied := 160 }

theorem witness_DriveStepSetsGates :
    (({ blowing with clock := .started }).settle.running = true ∧
      ({ blowing with clock := .started }).settle.clock = .started ∧
      ({ blowing with clock := .started }).settle.fanChannel = some 3) ∧
      (({ blowing with clock := .step 248 }).settle.running = true ∧
        ({ blowing with clock := .step 248 }).settle.clock = .step 248 ∧
        ({ blowing with clock := .step 248 }).settle.conversionDue = false) ∧
      blowing.settle.running = true ∧ blowing.settle.clock = .step 249 := by decide +kernel

/-! ### Witnesses: admission, protection and lamp health -/

/-- Channel 2's inrush timer at a value, with a channel waiting behind it. -/
def opening (n : Nat) : State :=
  let a := withChan base 1 .lamp { Chan.reset with st := .inrush, inrushTimer := some n, demand := 250,
                                                   admCount := some 0 }
  let b := withChan a 2 .lamp { Chan.reset with st := .waiting, demand := 250 }
  { b with queue := [(2, .normal)], window := [(1, 8000)] }

theorem witness_InrushExpires :
    (∀ n ∈ [0, 1],
      let s := opening n
      s.running = true ∧ (s.chan 1).st = .inrush ∧ (s.chan 1).inrushTimer = some n ∧ s.clock = .step 249 ∧
        s.conversionDue = false ∧ (s.chan 1).admCount ≠ none ∧ s.fanChannel ≠ some 1 ∧ s.QueueIsWaiting ∧
        (s.chan 2).st = .waiting) ∧
      ((opening 2).chan 1).inrushTimer = some 2 ∧
      ∀ st ∈ [FanState.kick, .starting],
        let s := { fanIn st 0 { Chan.reset with st := .inrush, inrushTimer := some 0, demand := 250 } with
          window := [(3, 8000)] }
        s.running = true ∧ (s.chan 3).st = .inrush ∧ (s.chan 3).inrushTimer = some 0 ∧ s.QueueIsWaiting ∧
          s.fanChannel = some 3 ∧ s.fan.st = st := by
  unfold State.QueueIsWaiting; decide +kernel

theorem witness_HealthCountersAct :
    let s := withChan base 0 .lamp { Chan.reset with st := .run, runCount := some 2000, trips := 1, low := 3 }
    let t := withChan base 0 .lamp { Chan.reset with high := 3, bulbOut := true }
    s.running = true ∧ (s.chan 0).st = .run ∧ (s.chan 0).runCount = some 2000 ∧ (s.chan 0).trips ≠ 0 ∧
      (s.chan 0).low = 3 ∧ (s.chan 0).bulbOut = false ∧ (t.chan 0).high = 3 ∧ (t.chan 0).bulbOut = true := by
  decide +kernel

/-- A lamp in RUN at full duty, its map entry active or not. -/
def driven (present : Bool) (kind : ChKind) (open' : Bool) (trips : Nat) : State :=
  withChan base 0 kind
    { Chan.reset with st := .run, demand := 250, applied := 250, prevDuty := 250, present := present, opening := open',
                      trips := trips }

theorem witness_OvercurrentTrips :
    (∀ present open' : Bool, ∀ trips : Fin 3,
      let s := driven present .lamp open' trips.val
      s.running = true ∧ s.clock = .step 249 ∧ s.QueueIsWaiting ∧ s.fanChannel = none ∧ (s.chan 0).st = .run ∧
        (s.chRec 0).runLimit < 2001 ∧ ¬ (s.chRec 0).runLimit < 2000 ∧
        ((s.chRec 0).phase ≤ 249 ∧ 249 < (s.chRec 0).phase + (s.chan 0).applied) ∧ (s.chan 0).prevDuty = 250 ∧
        (s.chan 0).prevEdge = false ∧ (s.chan 0).opening = open' ∧ (s.chan 0).present = present) ∧
      ((driven true .lamp false 2).chRec 0).retryLimit ≤ 2 + 1 ∧
      ¬ ((driven true .lamp false 1).chRec 0).retryLimit ≤ 1 + 1 ∧
      (let s := blowing;
        s.fanChannel = some 3 ∧ (s.chRec 3).kind = .motor ∧ s.QueueIsWaiting ∧ (s.chan 3).st = .run ∧
          (s.chRec 3).runLimit < 2001 ∧ 249 % 2 ≠ 0 ∧ 125 < (s.chan 3).applied ∧ s.fan.target ≠ 0 ∧
          s.sup.crank = .normal ∧ (s.chan 3).prevDuty = 0 ∧ ¬ 249 < (s.chRec 3).blanking) := by
  unfold State.QueueIsWaiting; decide +kernel

theorem witness_StallTrips :
    blowing.fan.report = none ∧ ∀ st ∈ [ChState.run, .off],
      let s := { fanIn .stopped 0 { Chan.reset with st := st, applied := 160 } with
        fan := { blowing.fan with st := .stopped, report := some 3 } }
      s.running = true ∧ s.fan.report = some 3 ∧ s.fanChannel = some 3 ∧ s.QueueIsWaiting ∧
        (s.chRec 3).kind = .motor ∧ (s.chan 3).st = st := by
  unfold State.QueueIsWaiting; decide +kernel

/-- R75: a fan stopped since it reported leaves its report standing; the channel, still in RUN, trips. -/
theorem test_stall_report_stands :
    (match exec .stallReport { fanIn .stopped 0 { Chan.reset with st := .run, applied := 160 } with
        fan := { blowing.fan with st := .stopped, report := some 3 } } with
      | .next t => ((t.chan 3).tripRec.map TripRec.cause, t.fan.st, t.fan.report)
      | _ => (none, .stopped, some 3)) = (some .stall, .faulted, none) := by decide +kernel

/-- A channel's cool-off at a value, its demand nonzero or 0, and a channel waiting. -/
def cooling (n demand : Nat) : State :=
  let a := withChan base 1 .lamp { Chan.reset with st := .cooling, coolOff := some n, demand := demand }
  let b := withChan a 2 .lamp { Chan.reset with st := .waiting, demand := 250 }
  { b with queue := [(2, .normal)] }

theorem witness_CoolOffExpires :
    (∀ n ∈ [0, 1], ∀ demand ∈ [0, 250],
      let s := cooling n demand
      s.running = true ∧ s.clock = .step 249 ∧ s.conversionDue = false ∧ (s.chan 1).st = .cooling ∧
        (s.chan 1).coolOff = some n ∧
        (s.chan 1).demand = demand ∧ (s.chan 1).source = .steady ∧ (s.chRec 1).kind = .lamp ∧ s.QueueIsWaiting ∧
        s.queue ≠ [] ∧ (s.chan 1).stop = false) ∧ ((cooling 2 0).chan 1).coolOff = some 2 ∧
      (∀ target ∈ [0, 160], ∀ k ∈ [CrankState.normal, .crank],
        let a := fanIn .faulted 0 { Chan.reset with st := .cooling, coolOff := some 0, demand := 250 }
        let s := { a with fan := { a.fan with target := target }, sup := { a.sup with crank := k } }
        s.running = true ∧ (s.chan 3).st = .cooling ∧ (s.chan 3).coolOff = some 0 ∧ s.QueueIsWaiting ∧
          s.fanChannel = some 3 ∧ s.fan.st = .faulted ∧ s.fan.target = target ∧ s.sup.crank = k) := by
  unfold State.QueueIsWaiting; decide +kernel

/-! ### Witnesses: flash and clicker -/

def flashing (phase : FlashPhase) : State := base.setFlash { base.flash with phase := phase }

/-- The state at the start that ends a phase. -/
def phaseEnds (phase : FlashPhase) : State :=
  base.setFlash { base.flash with phase := phase, ended := true }

theorem witness_OnPhaseBegins :
    let cy : Cycle := { Cycle.ofPeriod 134 with counter := 66 }
    base.running = true ∧ (∀ p ∈ [FlashPhase.idle true false, .offPhase cy], (flashing p).conversionDue = false) ∧
      (flashing (.idle true true)).flash.phase = .idle true true ∧
      (flashing (.idle true true)).flash.state ≠ .offPhase ∧ (flashing (.idle true false)).clock = .step 249 ∧
      (flashing (.idle true false)).flash.phase = .idle true false ∧
      (flashing (.idle true false)).flash.uncounted = false ∧
      (phaseEnds (.offPhase cy)).flash.phase = .offPhase cy ∧ (phaseEnds (.offPhase cy)).flash.ended = true ∧
      (flashing (.offPhase cy)).flash.phase = .offPhase cy ∧ (flashing (.offPhase cy)).power.wakeStart = false ∧
      (flashing (.offPhase cy)).flash.uncounted = false ∧ cy.counter + 1 = cy.offLength ∧
      base.flash.phase = .idle false false ∧ base.cfg.flasher.enable = true ∧ base.sup.crank = .normal := by decide

/-- R39: channels that follow and are composed, with a demand of 0 and of 250. -/
theorem witness_OnPhaseBegins_follows :
    ∀ d ∈ [0, 250],
      let s := (withEntry (withChan (flashing (.idle true true)) 0 .lamp { Chan.reset with demand := d }) 0 .turnL 0
        .flash).setResult .turnL 1
      s.running = true ∧ s.flash.phase = .idle true true ∧ s.follows 0 = true ∧ s.composes 0 = true ∧
        (s.chan 0).demand = d := by decide +kernel

/-- R91, R95: the demand holds and does not, with the generator quiet, marked and in a phase. -/
theorem witness_OnPhaseBegins_demand :
    ∀ n ∈ [0, 1], ∀ b ∈ [false, true],
      let s (p : FlashPhase) : State := (flashing p).setResult .hazard n
      (s (.idle false b)).flash.phase = .idle false b ∧ (s (.idle true b)).flash.phase = .idle true b ∧
        (s (.offPhase (Cycle.ofPeriod 134))).flash.state ≠ .idle ∧ (s (.idle true b)).result .hazard = n ∧
        (s (.idle true b)).result .turnL = 0 ∧ (s (.idle true b)).result .turnR = 0 := by decide

theorem witness_OffPhaseBegins :
    let cy : Cycle := { Cycle.ofPeriod 134 with counter := 66 }
    base.running = true ∧ (phaseEnds (.onPhase cy)).flash.phase = .onPhase cy ∧
      (phaseEnds (.onPhase cy)).flash.ended = true ∧ (flashing (.onPhase cy)).flash.phase = .onPhase cy ∧
      (flashing (.onPhase cy)).clock = .step 249 ∧ (flashing (.onPhase cy)).conversionDue = false ∧
      (flashing (.onPhase cy)).power.wakeStart = false ∧
      (flashing (.onPhase cy)).flash.uncounted = false ∧ cy.counter + 1 = cy.onLength ∧
      (flashing (.onPhase cy)).flash.ended = false := by decide

theorem witness_TickRunsAndEnds :
    let k : Tick := { half := 417, length := 6000, elapsed := 0 }
    let last : Tick := { half := 417, length := 6000, elapsed := 5838 }
    (base.setFlash { base.flash with tick := some k }).flash.tick = some k ∧ k.elapsed + k.half < k.length ∧
      (base.setFlash { base.flash with tick := some last }).flash.tick = some last ∧
      last.length ≤ last.elapsed + last.half ∧ base.flash.tick = none := by decide

/-! ### Witnesses: measurement and supply -/

theorem witness_ChannelConversion :
    let s := (driven true .lamp false 0).setSeq { base.seq with requests := [⟨.channel 0, 249, []⟩] }
    let f := blowing.setSeq { base.seq with requests := [⟨.channel 3, 249, []⟩] }
    s.request? (.channel 0) = some ⟨.channel 0, 249, []⟩ ∧ s.clock = .step 249 ∧
      s.servesNow ⟨.channel 0, 249, []⟩ = true ∧ f.request? (.channel 3) = some ⟨.channel 3, 249, []⟩ ∧
      f.clock = .step 249 ∧ f.servesNow ⟨.channel 3, 249, []⟩ = true ∧ f.fanChannel = some 3 := by decide +kernel

/-- R166: the sample that brings the stall run to 20 reports a stall and sets the run to 0. -/
theorem test_stall_run :
    Fan.countStall { Fan.reset with stallRun := 19 } FanRec.default 3 12001 = { Fan.reset with report := some 3 } ∧
      Fan.countStall { Fan.reset with stallRun := 18 } FanRec.default 3 12001 = { Fan.reset with stallRun := 19 } ∧
      Fan.countStall { Fan.reset with stallRun := 19 } FanRec.default 3 12000 = Fan.reset := by decide

theorem witness_BusConversion :
    (∀ k ∈ [CrankState.normal, .crank], ∀ n ∈ [0, 1, 19],
      let s := (asking .bus []).setSup
        { base.sup with crank := k, crankIn := min 1 n, crankOut := n, rise := some (380 + n), vf := some 12000 }
      s.request? .bus = some ⟨.bus, 249, []⟩ ∧ s.clock = .step 249 ∧ s.servesNow ⟨.bus, 249, []⟩ = true ∧
        s.settleSupply = s ∧ s.sup.crank = k ∧ s.sup.crankIn = min 1 n ∧ s.sup.crankOut = n ∧
        (s.input .start).filtered = none) ∧
      8999 < base.cfg.supply.crankThreshold ∧ ¬ 9000 < base.cfg.supply.crankThreshold ∧
      base.cfg.supply.crankThreshold + base.cfg.supply.crankMargin ≤ 9500 := by
  decide +kernel

/-- R116: START has made a return due that comes before the sample. -/
theorem witness_BusConversion_start :
    let s := (asking .bus []).setSup { base.sup with crank := .crank, crankOut := 20 }
    s.servesNow ⟨.bus, 249, []⟩ = true ∧ s.settleSupply ≠ s ∧ s.settleSupply.sup.crank = .normal := by decide +kernel

theorem witness_SenderConversion :
    ∀ st ∈ [GaugeState.off, .active, .held, .faultHold, .faultRest], ∀ vf ∈ [none, some 12000],
      let s := ((asking (.sender .s1) [.g1, .g2]).setGauge .g1 { GaugeSlot.reset with st := st }).setSup
        { base.sup with vf := vf }
      s.request? (.sender .s1) = some ⟨.sender .s1, 249, [.g1, .g2]⟩ ∧ s.clock = .step 249 ∧
        s.servesNow ⟨.sender .s1, 249, [.g1, .g2]⟩ = true ∧ [GaugeId.g1, .g2].Nodup ∧ s.sup.crank = .normal ∧
        (s.gauge .g1).st = st ∧ s.sup.vf = vf ∧ (s.gaugeRec .g1).validLow ≤ 50 ∧ 50 ≤ (s.gaugeRec .g1).validHigh ∧
        ¬ (s.gaugeRec .g1).validLow ≤ 49 ∧ .g3 ∉ [GaugeId.g1, .g2] := by
  decide +kernel

/-- R150, R153: a reading whose computation clears UNDERDRIVE, and one that leaves it. -/
theorem witness_SenderConversion_under :
    ∀ under : Bool,
      let s := gauged.setSeq { gauged.seq with requests := [⟨.sender .s1, 249, [.g1]⟩] }
      let s := s.setGauge .g1 { s.gauge .g1 with under := under }
      let t := after (.conversionDone (.sender .s1) 400) s
      s.servesNow ⟨.sender .s1, 249, [.g1]⟩ = true ∧ (t.gauge .g1).under = false ∧
        (t.slot .a).pending = (s.slot .a).pending ||| if under then 16#9 else 0#9 := by decide +kernel

/-- R114, R150, R153: samples that take Vf to the target of 10,000 mV, and that leave it above. -/
theorem witness_BusConversion_under :
    ∀ v ∈ [9500, 12000],
      let s := gauged.setSeq { gauged.seq with requests := [⟨.bus, 249, []⟩] }
      let s := (s.setSup { s.sup with vf := some 10050 }).setGauge .g1 { s.gauge .g1 with under := false }
      s.servesNow ⟨.bus, 249, []⟩ = true ∧ s.settleSupply = s ∧
        ((after (.conversionDone .bus v) s).gauge .g1).under = decide (v = 9500) := by decide +kernel

theorem witness_RequestAbandoned :
    let s := asking (.channel 0) []
    s.request? (.channel 0) = some ⟨.channel 0, 249, []⟩ ∧ s.running = true ∧
      s.unservable ⟨.channel 0, 249, []⟩ = true ∧ s.servesNow ⟨.channel 0, 249, []⟩ = false ∧
      (asking .bus []).unservable ⟨.bus, 249, []⟩ = false ∧ s.request? .bus = none := by decide +kernel

theorem witness_RequestAbandoned_serves :
    (∀ d : Channel, (lit.chan d).prevDuty ≤ 250) ∧ lit.clock = .step 249 ∧
      ({ lit with clock := .awaiting }).clock = .awaiting ∧ ({ lit with clock := .started }).clock = .started := by
  decide +kernel

theorem noneBound (s : State) (h : ∀ g ∈ [GaugeId.g1, .g2, .g3], (s.gaugeRec g).bound = none) : s.BoundAreGauges := by
  intro g c hc
  have : (s.gaugeRec g).bound = none := h g (by cases g <;> decide)
  rw [this] at hc
  exact nomatch hc

theorem witness_CrankStateMoves :
    (let s := base.setSup { base.sup with crankIn := 2 };
      s.running = true ∧ s.sup.crank = .normal ∧ 2 ≤ s.sup.crankIn ∧
        ∀ g ∈ [GaugeId.g1, .g2, .g3], (s.gauge g).st = .off) ∧
      (let s := base.setInput .start { raw := true, filtered := some true, run := 0, sampledNow := false };
        s.sup.crank = .normal ∧ s.sup.crankIn = 0 ∧ (s.input .start).filtered = some true) ∧
      (∀ v ∈ [none, some 9600],
        let s := base.setSup { base.sup with crank := .crank, crankOut := 20, inHand := v }
        s.running = true ∧ s.sup.crank = .crank ∧ 20 ≤ s.sup.crankOut ∧ (s.input .start).filtered ≠ some true ∧
          s.sup.inHand = v) ∧ base.sup.crankIn = 0 ∧ base.BoundAreGauges :=
  ⟨by decide +kernel, by decide +kernel, by decide +kernel, by decide, noneBound _ (by decide +kernel)⟩

theorem witness_CrankStateMoves_order :
    exec .crankExit base = .next base ∧ exec .crankEntry base = .next base ∧ exec .shedFall base = .next base ∧
      ({ State.reset.power with starts := 5 } : Power).part = .starting ∧ base.power.part ≠ .starting :=
  ⟨rfl, rfl, rfl, rfl, by decide⟩

/-- R143, R144: gauge slots in every state, with runs below and at 4, at an entry to CRANK and at a return. -/
theorem witness_CrankStateMoves_gauge :
    ∀ st ∈ [GaugeState.off, .active, .held, .faultHold, .faultRest], ∀ n ∈ [3, 4],
      let s := (base.setGauge .g1 { GaugeSlot.reset with st := st, faultRun := n, recoveryRun := n }).setSup
        { base.sup with crankIn := 2 }
      let t := (base.setGauge .g1 { GaugeSlot.reset with st := st, average := some 400, ring := [400] }).setSup
        { base.sup with crank := .crank, crankOut := 20, vf := some 12000 }
      s.running = true ∧ s.sup.crank = .normal ∧ 2 ≤ s.sup.crankIn ∧ (s.gauge .g1).st = st ∧
        (s.gauge .g1).faultRun = n ∧ (s.gauge .g1).recoveryRun = n ∧ t.running = true ∧ 20 ≤ t.sup.crankOut ∧
        (t.input .start).filtered = none ∧ (t.gauge .g1).st = st ∧ (t.gaugeTarget .g1).isSome = true := by
  decide +kernel

/-- R143, R150, R153: a release at which UNDERDRIVE is set, one by whose sample it is set, and one that leaves it. -/
theorem witness_CrankStateMoves_under :
    ∀ x ∈ [(9900, none, true), (10050, some 9500, true), (12000, some 12000, false)],
      let s := (gauged.setGauge .g1 { gauged.gauge .g1 with st := .held }).setSup
        { gauged.sup with crank := .crank, crankOut := 20, vf := some x.1, inHand := x.2.1 }
      s.running = true ∧ (s.input .start).filtered ≠ some true ∧ (s.gauge .g1).st = .held ∧
        s.gaugeTarget .g1 = some 10000 ∧
        (∀ c : Channel, (s.gaugeRec .g1).bound = some c → (s.chRec c).kind = .gauge) ∧
        (s.gauge .g1).under = false ∧ ((after .crankExit s).gauge .g1).under = x.2.2 := by decide +kernel

theorem witness_CrankStateMoves_fan :
    (let s := blowing.setSup { base.sup with crankIn := 2 };
      s.running = true ∧ 2 ≤ s.sup.crankIn ∧ s.QueueIsWaiting ∧ s.FanFollowsChannel ∧ s.fanChannel = some 3 ∧
        s.BoundAreGauges ∧ s.MapChecked) ∧
    ∀ st ∈ [ChState.off, .waiting, .inrush, .run, .cooling, .latched],
      let s := (fanIn .suspended 0 { Chan.reset with st := st, applied := 90 }).setSup
        { base.sup with crank := .crank, crankOut := 20 }
      s.running = true ∧ 20 ≤ s.sup.crankOut ∧ s.fanChannel = some 3 ∧ s.fan.st = .suspended ∧ s.fan.target ≠ 0 ∧
        (s.chRec 3).kind = .motor ∧ (s.chan 3).st = st ∧ s.BoundAreGauges := by
  refine ⟨⟨by decide +kernel, by decide +kernel, ?_, ?_, by decide +kernel, noneBound _ (by decide +kernel),
    by refine mapChecked _ ?_ ?_ ?_ <;> decide +kernel⟩, fun st h => ?_⟩
  · unfold State.QueueIsWaiting; decide +kernel
  · unfold State.FanFollowsChannel; decide +kernel
  · refine ⟨?_, ?_, ?_, rfl, ?_, ?_, ?_, noneBound _ ?_⟩ <;> revert st <;> decide +kernel

theorem witness_ShedLevelMoves :
    (let s := base.setSup { base.sup with rise := some 400 };
      s.running = true ∧ s.sup.crank = .normal ∧ s.sup.shed = 0 ∧ s.sup.rise = some 400 ∧ s.cfg.supply.dwell = 400) ∧
      (let s := base.setSup { base.sup with shed := 3, rise := none, fall := some 400 };
        s.running = true ∧ s.sup.crank = .normal ∧ s.sup.shed = 2 + 1 ∧ s.sup.fall = some 400) ∧
      base.sup.rise = some 0 ∧ base.sup.fall = none ∧
      ∀ applied ∈ [90, 91],
        let s := (fanIn .running 160 { Chan.reset with st := .run, demand := 160, applied := applied }).setSup
          { base.sup with rise := some 400 }
        s.running = true ∧ s.QueueIsWaiting ∧ s.sup.rise = some 400 ∧ s.fanChannel = some 3 ∧ (s.chan 3).st = .run ∧
          (s.chan 3).applied = applied ∧ s.cfg.fan.stepDuty (s.cfg.fan.cap 1) = 90 ∧
          s.cfg.fan.stepDuty (s.cfg.fan.cap s.sup.shed) = 250 := by
  unfold State.QueueIsWaiting; decide +kernel

/-! ### Witnesses: gauges, inputs, silence -/

def gaugeIs (st : GaugeState) (faultRun recoveryRun : Nat) (timer : Option Nat) : State :=
  base.setGauge .g1 { GaugeSlot.reset with st := st, faultRun := faultRun, recoveryRun := recoveryRun, timer := timer }

theorem witness_FaultHoldBeginsAndExpires :
    (gaugeIs .active 4 0 none).running = true ∧ ((gaugeIs .active 4 0 none).gauge .g1).st = .active ∧
      4 ≤ ((gaugeIs .active 4 0 none).gauge .g1).faultRun ∧
      ((gaugeIs .active 4 0 none).gaugeRec .g1).faultHold ≠ 0 ∧
      (∀ n ∈ [0, 1], ((gaugeIs .faultHold 0 0 (some n)).gauge .g1).st = .faultHold ∧
        ((gaugeIs .faultHold 0 0 (some n)).gauge .g1).timer = some n ∧
        (gaugeIs .faultHold 0 0 (some n)).clock = .step 249 ∧
        (gaugeIs .faultHold 0 0 (some n)).conversionDue = false) ∧ base.running = true ∧
      let s := (gaugeIs .active 4 0 none).setCfg { base.cfg with
        gauges := base.cfg.gauges.set .g1 { base.gaugeRec .g1 with faultHold := 0, bound := some 5 } }
      s.running = true ∧ (s.gauge .g1).st = .active ∧ (s.gaugeRec .g1).faultHold = 0 ∧
        (s.gaugeRec .g1).bound = some 5 ∧ s.fanChannel ≠ some 5 := by decide +kernel

theorem witness_GaugeRecovers :
    ∀ vf ∈ [none, some 12000], ∀ st ∈ [GaugeState.faultHold, .faultRest],
      let s := ((gaugeIs st 0 4 none).setSup { base.sup with vf := vf }).setSeq
        { base.seq with values := base.seq.values.set 17 ⟨some 400, .fresh⟩ }
      s.running = true ∧ (s.gauge .g1).st = st ∧ 4 ≤ (s.gauge .g1).recoveryRun ∧ s.sup.crank = .normal ∧
        (s.value (.sender (s.gaugeRec .g1).sender)).value = some 400 ∧ s.sup.vf = vf := by decide +kernel

theorem witness_TableTargetInterpolates :
    let t := [(330, 9600), (900, 7800), (1600, 6000), (2400, 4200)]
    2 ≤ t.length ∧ t.length ≤ 12 ∧ readingsRise t = true ∧ (330, 9600) ∈ t.head? ∧ (2400, 4200) ∈ t.getLast? ∧
      ((900, 7800), (1600, 6000)) ∈ t.zip t.tail := by decide

def inputIs (i : InputId) (filtered : Option Bool) (run : Nat) : State :=
  base.setInput i { raw := true, filtered := filtered, run := run, sampledNow := false }

theorem witness_InputLevelTakesEffect :
    base.running = true ∧ base.clock = .step 249 ∧ base.conversionDue = false ∧ base.power.part = .active ∧
      (∀ i ∈ [InputId.ign, .brake, .hazard, .start], ∀ filtered ∈ [none, some false], ∀ run ∈ [3, 4],
        let s := inputIs i filtered run
        (s.input i).filtered = filtered ∧ (s.input i).run = run ∧ (s.cfg.inputs.get i).debounce = 4 ∧
          (s.input i).sampledNow = false ∧ (s.input i).raw = true ∧ s.settleSupply = s ∧
          s.conversionDue = false ∧ (s.gauge .g1).st = .off ∧ (s.gaugeRec .g1).enabled = false) ∧
      (∀ n ∈ [19, 20],
        let s := (inputIs .start (some true) 4).setSup { base.sup with crank := .crank, crankOut := n }
        s.settleSupply = s ∧ (s.input .start).filtered = some true ∧ s.sup.crankOut = n) ∧
      (inputIs .ign none 4).ResultsEvaluated :=
  ⟨by decide, by decide, by decide, by decide, by decide +kernel, by decide +kernel,
    fun f => by cases f <;> decide +kernel⟩

/-- R142, R153: filtered IGN goes inactive over a slot in OFF, one with UNDERDRIVE set, one whose fault has come and two
in fault states; and it goes active over a slot that computes UNDERDRIVE and one that does not. -/
theorem witness_InputLevelTakesEffect_gauge :
    (∀ x ∈ [(GaugeState.off, false, 0), (.held, true, 0), (.active, false, 4), (.faultHold, false, 0),
        (.faultRest, false, 0)],
      let s := (inputIs .ign (some true) 4).setGauge .g1 { GaugeSlot.reset with
        st := x.1, under := x.2.1, faultRun := x.2.2 }
      let t := after (.filteredLevelChange .ign) s
      (t.gauge .g1).st = .off ∧ (t.slots = s.slots ↔ x.1 = .off)) ∧
    ∀ vf ∈ [10000, 10001],
      let s := (gauged.setGauge .g1 GaugeSlot.reset).setSup { gauged.sup with vf := some vf }
      let t := after (.filteredLevelChange .ign)
        (s.setInput .ign { raw := true, filtered := some false, run := 4, sampledNow := false })
      (t.gauge .g1).st = .active ∧ (t.gauge .g1).under = decide (vf = 10000) := by decide +kernel

def heardFor (n : Nat) : State := base.setSlot .a { base.slot .a with st := .live, timer := some n }

def held (n : Nat) : State := base.setCell .interior .a (some ⟨1, true, some n⟩)

theorem witness_SilenceAndHoldExpire :
    base.running = true ∧ base.clock = .step 249 ∧ base.conversionDue = false ∧ base.power.wakeStart = false ∧
      (∀ n ∈ [98, 99, 100], (heardFor n).conversionDue = false ∧ ((heardFor n).slot .a).silencedNow = false ∧
        ((heardFor n).slot .a).st = .live ∧ ((heardFor n).slot .a).timer = some n ∧
        ((heardFor n).slotRec .a).timeout = 100) ∧
      ∀ n ∈ [0, 1, 2], (held n).conversionDue = false ∧ (held n).holdOf .a .interior = some n ∧
        ((held n).slot .a).silencedNow = false := by
  decide +kernel

/-! ### Witnesses: frames and items -/

/-- A frame with no item from the diagnostic master to the unit address, with its check octets. -/
def frameOctets (dest : Byte) : List Byte :=
  let inner : List Byte := [dest, 18, 0x51, 0]
  inner ++ [(crc inner).extractLsb' 8 8, (crc inner).extractLsb' 0 8]

def rawFrame (dest : Byte) : RawFrame := { dest := dest, source := 18, kind := 0x51, body := [], good := true }

theorem witness_FrameIsJudged :
    let s := portIs fun v => { v with assembly := .assembling }
    s.running = true ∧ (s.port .link2).assembly = .assembling ∧ readFrame (frameOctets 32) = some (rawFrame 32) ∧
      s.cfg.unit.destination 32 = some true ∧ s.slotOf .link2 18 = some .c ∧ (s.port .link2).queue.length < 2 ∧
      readFrame (frameOctets 33) = some (rawFrame 33) ∧ s.cfg.unit.destination 33 = none ∧
      s.slotOf .link1 18 = none ∧ readFrame [32, 18, 0x51, 0, 0, 0] = some { rawFrame 32 with good := false } := by
  decide +kernel

/-- A frame that ends on a port with a built reply, with one frame and with two in the queue. -/
theorem witness_FrameIsJudged_built :
    (∀ n : Fin 2, ∀ rate reset : Bool,
      let s := portIs fun v => { v with
        assembly := .assembling, queue := List.replicate (n.val + 1) ask,
        reply := .built { dest := 18, source := 32, digest := [0, 0, 0, 0], answers := [], showedOverrun := false,
                          rateAfter := rate, resetAfter := reset } }
      s.running = true ∧ (s.port .link2).assembly = .assembling ∧ (s.port .link2).queue.length = n.val + 1 ∧
        ([SlotId.a, .b, .c].find? fun k => (s.slotRec k).port == .link2 && (s.slotRec k).source == 18) = some .c) ∧
      readFrame (frameOctets 32) = some (rawFrame 32) ∧ base.cfg.unit.destination 32 = some true ∧
      base.cfg.unit.destination 33 = none := by
  decide +kernel

/-- A frame that ends on a port which executes an answered frame. -/
theorem witness_FrameIsJudged_executing :
    let s := (item .reset).setPort .link2 { (item .reset).port .link2 with assembly := .assembling }
    s.running = true ∧ (s.port .link2).assembly = .assembling ∧ (s.port .link2).reply = .quiet ∧
      (s.port .link2).queue.head? = some ask ∧ ask.answered = true ∧ (s.port .link2).run = some (runOf .reset) ∧
      (s.port .link2).queue.length < 2 := by decide

theorem witness_FrameIsChecked :
    (56#8).toNat ≤ 56 ∧ (List.replicate 56 (0 : Byte)).length = (56#8).toNat ∧ ask.kind = 0x51#8 ∧
      { ask with kind := 0x52#8 }.kind ≠ 0x51#8 ∧ [(0 : Byte)].length < (2#8).toNat ∧
      [(3 : Byte), 1].length = (2#8).toNat ∧ [(3 : Byte)].length % 2 = 1 ∧ 2 ≤ (2#8).toNat ∧ 6 < (7#8).toNat ∧
      ([(0x0B, 251)] : List (Byte × Byte)).flatMap (fun q => [q.1, q.2]) = [0x0B, 251] := by decide

theorem witness_FrameIsAssembled :
    let y : Reply := { dest := 18, source := 32, digest := [0, 0, 0, 0], answers := [], showedOverrun := false,
                       rateAfter := false, resetAfter := false }
    (∀ assembly ∈ [Assembly.hunt, .assembling],
      ∀ f ∈ [fun (v : PortState) => v, fun v => { v with queue := [ask], reply := .built y },
          fun v => { v with queue := [ask], reply := .sending y },
          fun v => { v with queue := [ask], run := some (runOf .reset) }],
        let s := portIs fun v => { f v with assembly := assembly }
        s.running = true ∧ (s.port .link2).assembly = assembly ∧ (s.port .link2).reply = (f (base.port .link2)).reply ∧
          (s.port .link2).run = (f (base.port .link2)).run) ∧
      (base.port .link2).reply = .quiet ∧ (runOf .reset).lost = false ∧ ask.answered = true ∧
      56 < (57#8).toNat ∧ (56#8).toNat ≤ 56 := by
  decide

/-- R178, R180, R182: line activity over a built reply that new bit rates or a reset are to follow. -/
theorem witness_FrameIsAssembled_built :
    ∀ assembly ∈ [Assembly.hunt, .assembling], ∀ rate reset : Bool,
      let y : Reply := { dest := 18, source := 32, digest := [0, 0, 0, 0], answers := [], showedOverrun := false,
                         rateAfter := rate, resetAfter := reset }
      let s := portIs fun v => { v with assembly := assembly, queue := [ask], reply := .built y, rate := .b9600 }
      s.running = true ∧ (s.port .link2).reply = .built y ∧ (s.port .link2).assembly = assembly ∧
        (s.port .link2).rate ≠ s.cfg.unit.rates.get .link2 ∧ 4 < 5 ∧ 56 < (57#8).toNat := by decide

theorem witness_FrameIsExecuted :
    let s (b : List Byte) := portIs fun v => { v with queue := [{ ask with body := b }] }
    (s []).running = true ∧ ((s []).port .link2).queue = [{ ask with body := [] }] ∧ ((s []).port .link2).run = none ∧
      ((s []).port .link2).reply = .quiet ∧ ask.items? = some [] ∧ { ask with body := [6, 0] }.items? = some [.reset] ∧
      { ask with body := [6] }.items? = none ∧ Executing (item (.clearOther [3])) .link2 ask (runOf (.clearOther [3]))
        (.clearOther [3]) :=
  ⟨rfl, rfl, rfl, rfl, rfl, rfl, rfl, item_executing _⟩

theorem witness_ClaimsWriteColumn :
    Executing (item (.claim [(11, 251)])) .link2 ask (runOf (.claim [(11, 251)])) (.claim [(11, 251)]) ∧
      Executing (item (.claimAll [(16, 1)])) .link2 ask (runOf (.claimAll [(16, 1)])) (.claimAll [(16, 1)]) ∧
      pairsKnown [(11, 251)] = true ∧ pairsKnown [(16, 1)] = false :=
  ⟨item_executing _, item_executing _, by decide, by decide⟩

theorem witness_ClaimValuesReduced :
    Executing (item (.claim [(BitVec.ofNat 8 (Fn.panel.idx.val + 1), 251)])) .link2 ask
        (runOf (.claim [(BitVec.ofNat 8 (Fn.panel.idx.val + 1), 251)]))
        (.claim [(BitVec.ofNat 8 (Fn.panel.idx.val + 1), 251)]) ∧
      251 ≤ (251#8).toNat ∧ (254#8).toNat ≤ 254 ∧ (255#8).toNat = 255 ∧ (250#8).toNat ≤ 250 ∧ (3#8).toNat ≤ 3 ∧
      4 ≤ (4#8).toNat ∧ (254#8).toNat ≠ 255 :=
  ⟨item_executing _, by decide⟩

theorem witness_ReadAnswersRecord :
    Executing (item (.read (some .resetCause) 0)) .link2 ask (runOf (.read (some .resetCause) 0))
        (.read (some .resetCause) 0) ∧
      (item (.read (some .resetCause) 0)).record? .resetCause 0 = some (.resetCause .powerOn 0) ∧
      (item (.read (some .resetCause) 1)).record? .resetCause 1 = none ∧ ask.answered = true :=
  ⟨item_executing _, rfl, rfl, rfl⟩

theorem witness_ReadAnswersRecord_indices :
    (16#8).toNat = (15 : Channel).val + 1 ∧ (15#8).toNat = Fn.aux2.idx.val + 1 ∧ 16 < (17#8).toNat ∧ 15 < (16#8).toNat ∧
      3 < (4#8).toNat ∧ (0#8).toNat = 0 ∧ (31#8).toNat = (31 : Fin 32).val ∧ 31 < (32#8).toNat := by decide

/-- R183: a source with a value and one without. -/
theorem witness_ReadAnswersRecord_octets :
    ∀ value ∈ [none, some 40000],
      let s := base.setSeq { base.seq with values := base.seq.values.set 16 ⟨value, .fresh⟩ }
      (s.value (.channel 15)).value = value := by decide +kernel

theorem witness_ConfigTestsInOrder :
    Executing (item (.config (.wrongLength .fan))) .link2 ask (runOf (.config (.wrongLength .fan)))
        (.config (.wrongLength .fan)) ∧ (ConfigContent.wrongLength .fan).kind = some .fan ∧
      ((item (.config (.wrongLength .fan))).slotRec ask.slot).rights.config = true ∧
      ((item (.config (.wrongLength .fan))).input .ign).filtered = none ∧
      (item (.config (.wrongLength .fan))).storeWrite = none :=
  ⟨item_executing _, rfl, rfl, rfl, rfl⟩

def unitWritten (address : Nat) (cls : Option VClass) : WUnit :=
  { address := address, group1 := 0, group2 := 0, rate1 := some .b9600, rate2 := some .b38400, cls := cls,
    dormantDelay := 6000 }

theorem witness_ConfigUnitApplied :
    Executing (item (.config (.unit (unitWritten 127 (some .c6))))) .link2 ask
        (runOf (.config (.unit (unitWritten 127 (some .c6))))) (.config (.unit (unitWritten 127 (some .c6)))) ∧
      (item (.config (.unit (unitWritten 127 (some .c6))))).configTest ask.slot = none ∧
      (unitWritten 127 (some .c6)).rate1 = some .b9600 ∧ (unitWritten 127 (some .c6)).rate2 = some .b38400 ∧
      (unitWritten 127 (some .c6)).group1 = 0 ∧ base.cfg.unit.cls = .c12 ∧ (unitWritten 127 none).cls = none ∧
      (let w := { unitWritten 200 (some .c12) with group1 := 200 };
        min 126 w.group1 ≠ 0 ∧ min 126 w.group1 = clampTo 1 126 w.address) :=
  ⟨item_executing _, item_configTest _, rfl, rfl, rfl, rfl, rfl, by decide⟩

theorem witness_ConfigInputsAndFlasherApplied :
    let i : WInput := { polarity := some .activeHigh, debounce := 17 }
    let v : WFlasher := { period := 301, tone := 1200, tick := 6, enable := some true }
    Executing (item (.config (.inputs ⟨i, i, i, i⟩))) .link2 ask (runOf (.config (.inputs ⟨i, i, i, i⟩)))
        (.config (.inputs ⟨i, i, i, i⟩)) ∧
      Executing (item (.config (.flasher v))) .link2 ask (runOf (.config (.flasher v))) (.config (.flasher v)) ∧
      (item (.config (.flasher v))).configTest ask.slot = none ∧
      (∀ j ∈ [InputId.ign, .brake, .hazard, .start], (base.input j).sampledNow = false) ∧
      let s := (item (.config (.inputs ⟨i, i, i, i⟩))).setInput .brake { (base.input .brake) with sampledNow := true }
      Executing s .link2 ask (runOf (.config (.inputs ⟨i, i, i, i⟩))) (.config (.inputs ⟨i, i, i, i⟩)) ∧
        s.configTest ask.slot = none ∧ (s.input .brake).sampledNow = true :=
  ⟨item_executing _, item_executing _, item_configTest _, by decide, ⟨rfl, rfl, rfl, rfl, rfl⟩, rfl, rfl⟩

/-- An INPUTS record that comes where the samples have brought IGN to active, and where they have not. -/
theorem witness_ConfigInputsAndFlasherApplied_ign :
    let i : WInput := { polarity := some .activeHigh, debounce := 4 }
    ∀ run ∈ [3, 4],
      let s := (item (.config (.inputs ⟨i, i, i, i⟩))).setInput .ign
        { raw := true, filtered := some false, run := run, sampledNow := false }
      Executing s .link2 ask (runOf (.config (.inputs ⟨i, i, i, i⟩))) (.config (.inputs ⟨i, i, i, i⟩)) ∧
        s.configTest ask.slot = none ∧ (s.settleInputs.input .ign).filtered = some (decide (run = 4)) := by
  intro i run h
  refine ⟨⟨rfl, rfl, rfl, rfl, rfl⟩, rfl, ?_⟩
  revert run; decide +kernel

def slotWritten (slot : Option SlotId) (source : Nat) : WSlot :=
  { slot := slot, port := some .link2, source := source, rights := ⟨true, true, true, true⟩, timeout := 100, mask := 255#9 }

/-- A part that executes a SLOT record, with another frame of the same slot waiting or not, and a slot in LIVE. -/
def slotItem (w : WSlot) (waits : Bool) (timer : Nat) : State :=
  (base.setPort .link2 { base.port .link2 with
    queue := if waits then [ask, ask] else [ask], run := some (runOf (.config (.slot w))) }).setSlot .c
      { base.slot .c with st := .live, timer := some timer }

theorem witness_ConfigSlotApplied :
    (∀ w : WSlot, ∀ waits : Bool, ∀ timer : Nat,
      Executing (slotItem w waits timer) .link2 ask (runOf (.config (.slot w))) (.config (.slot w)) ∧
        (slotItem w waits timer).configTest ask.slot = none) ∧
      (slotWritten none 19).slot = none ∧
      (((slotItem (slotWritten (some .c) 17) false 0).slotRec .b).port = .link2 ∧
        ((slotItem (slotWritten (some .c) 17) false 0).slotRec .b).source = 17) ∧
      ((slotItem (slotWritten (some .c) 19) true 0).port .link2).queue.tail = [ask] ∧
      ((slotItem (slotWritten (some .c) 19) false 0).port .link2).queue.tail = [] ∧
      ((slotItem (slotWritten (some .c) 19) false 0).slotRec .c).source = 18 ∧
      ((slotItem (slotWritten (some .c) 18) false 100).slot .c).timer = some 100 ∧
      (slotWritten (some .c) 18).timeout = 100 :=
  ⟨fun w waits _ => ⟨⟨rfl, by cases waits <;> rfl, rfl, rfl, rfl⟩, rfl⟩, rfl, ⟨rfl, rfl⟩, rfl, rfl, rfl, rfl, rfl⟩

def functionWritten (fn : Nat) (order : List (Option Claimant)) : WFunction :=
  { fn := fn, gate := some .any, policy := some .drop, hold := 12001, rank := some .r1, combine := some .any,
    order := order }

theorem witness_ConfigFunctionApplied :
    let w := functionWritten 1 [some .a, some .b, some .c, some .l]
    Executing (item (.config (.function w))) .link2 ask (runOf (.config (.function w))) (.config (.function w)) ∧
      (item (.config (.function w))).configTest ask.slot = none ∧ w.fn = Fn.side.idx.val + 1 ∧ w.gate = some .any ∧
      w.policy = some .drop ∧ w.rank = some .r1 ∧ w.combine = some .any ∧
      (w.order.length = 4 ∧ ∀ k ∈ [Claimant.a, .b, .c, .l], some k ∈ w.order) ∧
      15 < (functionWritten 16 []).fn ∧ (functionWritten 0 []).fn = 0 ∧
      some Claimant.b ∉ (functionWritten 1 [some .a, some .a, some .c, some .l]).order :=
  ⟨item_executing _, item_configTest _, rfl, rfl, rfl, rfl, rfl, by decide, by decide, rfl, by decide⟩

def channelWritten (channel : Nat) : WChannel :=
  { channel := channel, kind := some .lamp, phase := 250, rated := 1000, inrushFactor := 8, window := 30,
    runLimit := 2000, inrushLimit := 1000, openThreshold := 0, blanking := 10, protect := some .retry, retryLimit := 3,
    coolOff := 200, signalLamp := false }

theorem witness_ConfigChannelApplied :
    let w := channelWritten 16
    (Executing (item (.config (.channel w))) .link2 ask (runOf (.config (.channel w))) (.config (.channel w)) ∧
      (item (.config (.channel w))).configTest ask.slot = none ∧ (item (.config (.channel w))).QueueIsWaiting) ∧
      w.channel = (15 : Channel).val + 1 ∧ w.kind = some .lamp ∧ w.protect = some .retry ∧
      ((item (.config (.channel w))).chan 15).st = .off ∧
      (∀ e ∈ (item (.config (.channel w))).entries, e.chan ≠ 15) ∧
      ((item (.config (.channel w))).chRec 15).kind = .none ∧ 16 < (channelWritten 17).channel := by
  refine ⟨⟨item_executing _, item_configTest _, ?_⟩, ?_⟩
  · unfold State.QueueIsWaiting; decide +kernel
  · decide +kernel

/-- A lamp with an entry, which may not become NONE, and a channel outside OFF. -/
theorem witness_ConfigChannelApplied_refused :
    let w := channelWritten 1
    let s := withEntry (withChan (item (.config (.channel w))) 0 .lamp { Chan.reset with st := .run }) 0 .side 0 .full
    Executing s .link2 ask (runOf (.config (.channel w))) (.config (.channel w)) ∧ s.configTest ask.slot = none ∧
      s.QueueIsWaiting ∧ (∃ e ∈ s.entries, e.chan = 0) ∧ (s.chRec 0).kind = .lamp ∧ (s.chan 0).st ≠ .off := by
  refine ⟨⟨rfl, rfl, rfl, rfl, rfl⟩, rfl, ?_⟩
  unfold State.QueueIsWaiting; decide +kernel

/-- A part that executes a MAP record, its channel 1 a lamp with `n` entries, in some state. -/
def mapItem (w : WMap) (n : Nat) (st : ChState) : State :=
  let e (k : Nat) (f : Fn) (s : State) (i : Fin 32) : State := if k < n then withEntry s i f 0 .full else s
  e 3 .fog (e 2 .stop (e 1 .headMain (e 0 .headDip
    (withChan (item (.config (.map w))) 0 .lamp { Chan.reset with st := st }) 0) 1) 2) 3

theorem witness_ConfigMapApplied :
    let w : WMap := { idx := 31, entry := some { fn := 1, channel := 1, contrib := some .dim, level := 250 } }
    (∀ n ∈ [3, 4], ∀ st ∈ [ChState.off, .run],
      let s := mapItem w n st
      s.running = true ∧ (s.port .link2).queue.head? = some ask ∧ (s.port .link2).run = some (runOf (.config (.map w))) ∧
        s.configTest ask.slot = none ∧ (s.chRec 0).kind = .lamp ∧ (s.chan 0).st = st ∧
        ((List.finRange 32).filter fun j => j ≠ 31 && (s.cfg.map[j]).map MapEntry.chan == some 0).length = n) ∧
      w.idx = (31 : Fin 32).val ∧ (1 : Nat) = Fn.side.idx.val + 1 ∧ (1 : Nat) = (0 : Channel).val + 1 := by
  decide +kernel

/-- R29, R175: a fifth entry on a channel is refused NO_ROOM, and so is the item behind it, unexecuted. -/
theorem test_fifth_entry_ends_frame :
    let w : WMap := { idx := 31, entry := some { fn := 1, channel := 1, contrib := some .dim, level := 100 } }
    let s := mapItem w 4 .off
    let t := s.setPort .link2 { s.port .link2 with
      run := some { runOf (.config (.map w)) with items := [.config (.map w), .reset] } }
    ∃ r, exec (.configMap .link2) t = .next (t.setPort .link2 { t.port .link2 with run := none, reply := .built r }) ∧
      r.answers = [⟨.noRoom, none⟩, ⟨.noRoom, none⟩] :=
  ⟨_, rfl, rfl⟩

theorem witness_ConfigMapApplied_fan :
    let w : WMap := { idx := 31, entry := some { fn := 13, channel := 4, contrib := some .full, level := 0 } }
    let s := withChan (item (.config (.map w))) 3 .motor Chan.reset
    Executing s .link2 ask (runOf (.config (.map w))) (.config (.map w)) ∧ s.configTest ask.slot = none ∧
      (13 : Nat) = Fn.fan.idx.val + 1 ∧ (s.chRec 3).kind = .motor ∧ s.fanChannel = none ∧ (s.chan 3).st = .off ∧
      s.QueueIsWaiting :=
  ⟨⟨rfl, rfl, rfl, rfl, rfl⟩, rfl, rfl, by decide +kernel, by decide +kernel, by decide +kernel,
    by unfold State.QueueIsWaiting; decide +kernel⟩

def gaugeWritten (validHigh : Nat) : WGauge :=
  { gauge := some .g1, enabled := some true, bound := some 1, mode := some .table, target := 10000,
    sender := some .s1, table := [(100, 10000), (4000, 3000)], ringLength := 32, divisor := 4, validLow := 50,
    validHigh := validHigh, faultHold := 400 }

theorem witness_ConfigGaugeApplied :
    ∀ validHigh ∈ [50, 51], ∀ st ∈ [ChState.off, .run],
      let w := gaugeWritten validHigh
      let s := withChan (item (.config (.gauge w))) 0 .gauge { Chan.reset with st := st }
      (Executing s .link2 ask (runOf (.config (.gauge w))) (.config (.gauge w)) ∧ s.configTest ask.slot = none ∧
        s.BoundAreGauges) ∧
        w.bound = (some (0 : Channel)).map (fun c => c.val + 1) ∧ (s.chRec 0).kind = .gauge ∧ (s.chan 0).st = st ∧
        (s.gaugeRec .g2).bound = none ∧ (s.gaugeRec .g3).bound = none ∧
        (w.table.map fun q => (min 20000 q.1, min 12000 q.2)).map Prod.fst = [100, 4000] := by
  intro v _ st h
  refine ⟨⟨⟨rfl, rfl, rfl, rfl, rfl⟩, rfl, noneBound _ fun g _ => by cases g <;> rfl⟩, rfl, rfl, rfl, rfl, rfl, rfl⟩

theorem witness_ConfigSupplyAndFanApplied :
    let w : WSupply := { shed1 := 12000, shed2 := 11500, shed3 := 11000, hysteresis := 300, dwell := 400,
                         crankThreshold := 9000, crankMargin := 500, allowance := 60001 }
    let blown := (blowing.setPort .link2 { base.port .link2 with
      queue := [ask], run := some (runOf (.config (.fan FanRec.default))) })
    Executing (item (.config (.supply w))) .link2 ask (runOf (.config (.supply w))) (.config (.supply w)) ∧
      (item (.config (.supply w))).configTest ask.slot = none ∧ base.cfg.unit.cls = .c12 ∧
      (clampTo 9000 14000 w.shed3 < clampTo 9000 14000 w.shed2 ∧
        clampTo 9000 14000 w.shed2 < clampTo 9000 14000 w.shed1) ∧
      Executing (item (.config (.fan FanRec.default))) .link2 ask (runOf (.config (.fan FanRec.default)))
        (.config (.fan FanRec.default)) ∧
      ¬ clampTo 1 250 FanRec.default.duty1 ≤ clampTo 1 250 89 ∧
      Executing blown .link2 ask (runOf (.config (.fan FanRec.default))) (.config (.fan FanRec.default)) ∧
      blown.fanChannel = some 3 ∧ (blown.chan 3).st ≠ .off :=
  ⟨item_executing _, item_configTest _, rfl, by decide, item_executing _, by decide, ⟨rfl, rfl, rfl, rfl, rfl⟩,
    by decide +kernel, by decide +kernel⟩

theorem witness_StoreWriteEnds :
    (base.setStoreWrite (some (.flasher FlasherRec.default))).storeWrite = some (.flasher FlasherRec.default) ∧
      base.storeWrite = none := ⟨rfl, rfl⟩

theorem witness_ClearsTakeEffect :
    Executing (item (.clearChannels [16])) .link2 ask (runOf (.clearChannels [16])) (.clearChannels [16]) ∧
      Executing (item (.clearEvents 0 1)) .link2 ask (runOf (.clearEvents 0 1)) (.clearEvents 0 1) ∧
      Channel.ofNat? (16#8).toNat = some 15 ∧ Channel.ofNat? (17#8).toNat = none ∧
      ((item (.clearChannels [16])).slotRec ask.slot).rights.clear = true :=
  ⟨item_executing _, item_executing _, by decide, by decide, rfl⟩

/-- R81, R167: a named LATCHED channel with a trip record and BULB_OUT, and a named LATCHED fan channel with the fan
FAULTED, T at 0 and above, in NORMAL and in CRANK; channel 16 is not named. -/
theorem witness_ClearsTakeEffect_latched :
    (let s := withChan (item (.clearChannels [1])) 0 .lamp
      { Chan.reset with st := .latched, trips := 2, bulbOut := true, low := 3, demand := 250, present := true }
     Executing s .link2 ask (runOf (.clearChannels [1])) (.clearChannels [1]) ∧ (s.chan 0).st = .latched ∧
       Channel.ofNat? (1#8).toNat = some 0 ∧ (s.chan 15).st = .off) ∧
    ∀ target ∈ [0, 160], ∀ k ∈ [CrankState.normal, .crank],
      let a := fanIn .faulted 0 { Chan.reset with st := .latched, trips := 2 }
      let b := (a.setFan { a.fan with target := target }).setSup { a.sup with crank := k }
      let s := b.setPort .link2 { b.port .link2 with queue := [ask], run := some (runOf (.clearChannels [4])) }
      Executing s .link2 ask (runOf (.clearChannels [4])) (.clearChannels [4]) ∧ (s.chan 3).st = .latched ∧
        s.fanChannel = some 3 ∧ s.fan.st = .faulted ∧ s.fan.target = target ∧ s.sup.crank = k ∧
        Channel.ofNat? (4#8).toNat = some 3 := by
  refine ⟨⟨⟨rfl, rfl, rfl, rfl, rfl⟩, by decide +kernel⟩, fun t ht k hk => ⟨⟨rfl, rfl, rfl, rfl, rfl⟩, ?_⟩⟩
  revert t k; decide +kernel

/-- R178, R180: a RESET item of a frame whose reply is lost (log 21). -/
theorem witness_ResetItemAnswered_lost :
    let r : Run := { runOf .reset with lost := true }
    let s := base.setPort .link2 { base.port .link2 with queue := [ask], run := some r }
    Executing s .link2 ask r .reset ∧ r.lost = true ∧ (s.slotRec ask.slot).rights.reset = true ∧ s.storeWrite = none ∧
      s.power.resetDue = false := ⟨⟨rfl, rfl, rfl, rfl, rfl⟩, rfl, rfl, rfl, rfl⟩

theorem witness_ResetItemAnswered :
    Executing (item .reset) .link2 ask (runOf .reset) .reset ∧ ((item .reset).slotRec ask.slot).rights.reset = true ∧
      (item .reset).storeWrite = none ∧ (item .reset).power.resetDue = false :=
  ⟨item_executing _, rfl, rfl, rfl⟩

def aReply (reset rate : Bool) : Reply :=
  { dest := 18, source := 32, digest := [0, 0, 0, 0], answers := [], showedOverrun := true, rateAfter := rate,
    resetAfter := reset }

theorem witness_RepliesBeginAndEnd :
    ∀ reset rate : Bool,
      let built := portIs fun v => { v with reply := .built (aReply reset rate) }
      let sending := portIs fun v => { v with reply := .sending (aReply reset rate) }
      built.running = true ∧ (built.port .link2).reply = .built (aReply reset rate) ∧
        (built.port .link2).assembly = .hunt ∧ 20 * 1000000 ≤ 1042 * (built.port .link2).rate.bps ∧
        (sending.port .link2).reply = .sending (aReply reset rate) ∧ (0x20#8) ≠ 0x21#8 ∧
        ¬ 20 * 1000000 ≤ 1041 * (built.port .link2).rate.bps ∧
        ((item .reset).port .link2).run = some (runOf .reset) ∧ ((item .reset).port .link2).reply = .quiet ∧
        ((item .reset).port .link2).queue.head? = some ask := by decide

/-! ### Witnesses: dormancy -/

/-- A part at a drive period start with nothing to do for longer than its dormant delay. -/
def still : State :=
  { base with clock := .started, power := { base.power with quiet := 6000 } }

/-- R132, R136: at DORMANT_ENTRY the bus request goes, its value HELD, and the period count and the averages stand. -/
theorem test_sleep_keeps_period_count :
    let s := still.setSeq { still.seq with
      requests := [⟨.bus, 0, []⟩], periodCount := 77, sense := [5], served := some 3,
      values := still.seq.values.set 0 ⟨some 12000, .fresh⟩ }
    let t := after .dormantEntry s
    t.power.part = .dormant ∧ t.seq.requests = [] ∧ t.seq.periodCount = 77 ∧ t.seq.sense = [5] ∧
      t.seq.served = some 3 ∧ t.value .bus = ⟨some 12000, .held⟩ := by decide +kernel

theorem witness_PartSleepsAndWakes :
    (∀ i : InputId, i ≠ .start → (still.settleSteps.input i).filtered ≠ some true ∧
      (still.settleSteps.input i).raw = false) ∧
      (∀ c : Channel, (still.settleSteps.chan c).st = .off ∧ (still.settleSteps.chan c).demand = 0) ∧
      (∀ p : Port, (still.settleSteps.port p).queue = [] ∧ (still.settleSteps.port p).reply = .quiet) ∧
      still.settleSteps.power.part = .active ∧ still.settleSteps.clock = .started ∧
      still.settleSteps.storeWrite = none ∧
      still.settleSteps.cfg.unit.dormantDelay ≤ still.settleSteps.power.quiet ∧
      { base.power with part := Part.dormant }.part = .dormant ∧
      WakeCause.octetStart .link1 ≠ .rawChange .start ∧ (base.input .start).raw = false ∧
      (base.settleSteps.clock ≠ .started ∧ base.power.part ≠ .dormant ∧ ((inputIs .start none 0).input .start).raw = true) :=
  ⟨fun i _ => by cases i <;> decide +kernel, by decide +kernel, fun p => by cases p <;> decide +kernel,
    by decide +kernel, by decide +kernel, by decide +kernel, by decide +kernel, rfl, by decide, by decide,
    by decide +kernel⟩

end Sys2Proof.Tests
end

section
/-! SUPPORT. The values that wire octets are reduced to (R1, R6), and the moments of a silence (R20). -/

namespace Sys2Proof.Machine
open Sys2Proof

/-! ### Wire values -/

theorem reduceWire_withdraw (f : Fn) {v : Byte} (h : v.toNat = 255) : reduceWire f v = (none, false) := if_pos h

theorem reduceWire_onOff {f : Fn} {v : Byte} (h : v.toNat ≠ 255) (hp : f ≠ .panel) (hf : f ≠ .fan) :
    reduceWire f v = (some (if v.toNat = 0 then 0 else 1), false) := by
  have honoff : Fn.isOnOff f = true := by simp [Fn.isOnOff, hp, hf]
  simp [reduceWire, h, honoff]

theorem reduceWire_panel {v : Byte} (h : v.toNat ≠ 255) :
    reduceWire .panel v = (some (min v.toNat 250), decide (250 < v.toNat)) := by
  simp [reduceWire, h, Fn.isOnOff]

theorem reduceWire_fan {v : Byte} (h : v.toNat ≠ 255) :
    reduceWire .fan v = (some (min v.toNat 3), decide (3 < v.toNat)) := by
  simp [reduceWire, h, Fn.isOnOff]

/-- A wire value is reduced to a value of its function's kind (R1, R6). -/
theorem reduceWire_le_fnTop {f : Fn} {v : Byte} {n : Nat} (h : (reduceWire f v).1 = some n) : n ≤ fnTop f := by
  by_cases hv : v.toNat = 255
  · rw [reduceWire_withdraw f hv] at h
    cases h
  by_cases hp : f = .panel
  · subst hp
    rw [reduceWire_panel hv] at h
    cases h
    exact min_le_right ..
  by_cases hf : f = .fan
  · subst hf
    rw [reduceWire_fan hv] at h
    cases h
    exact min_le_right ..
  · rw [reduceWire_onOff hv hp hf] at h
    cases h
    rw [fnTop, if_neg hp, if_neg hf]
    split <;> omega

/-! ### When a silence comes -/

theorem State.boundary_iff (s : State) :
    s.boundary = true ↔ s.clock = .awaiting ∨ s.clock = .step 249 ∧ s.conversionDue = false := by
  unfold State.boundary
  cases s.clock <;> simp

theorem State.silenceDue_iff (s : State) (m : SlotId) :
    s.silenceDue m = true ↔
      s.running = true ∧ (s.slot m).st = .live ∧ (s.slotRec m).timeout ≤ (s.slot m).timer.getD 0 := by
  simp [State.silenceDue, and_assoc]

theorem State.silenceEarly_iff (s : State) (m : SlotId) :
    s.silenceEarly m = true ↔
      s.running = true ∧ (s.clock = .awaiting ∨ s.clock = .step 249 ∧ s.conversionDue = false) ∧
        s.power.wakeStart = false ∧ (s.slot m).silencedNow = false ∧ (s.slot m).st = .live ∧
        (s.slotRec m).timeout = (s.slot m).timer.getD 0 + 1 := by
  simp [State.silenceEarly, ← State.boundary_iff, and_assoc]

end Sys2Proof.Machine
end

section
/-! SUPPORT. One principle for the invariants that the claim unit, the slots and the events carry: a property that the
drive side of the part does not reach, and that each action of the arbiter and of a slot keeps, is kept by every step. -/

namespace Sys2Proof.Machine
open Sys2Proof

/-- What it takes for a property to be kept by every step: fields that it does not read, and the actions on the others,
each whole, so that a property that an action breaks and mends within itself still qualifies. -/
structure ClaimInvariant (P : State → Prop) : Prop where
  pending : Free_pending P
  power : Free_power P
  clock : Free_clock P
  store : Free_store P
  storeWrite : Free_storeWrite P
  ports : Free_ports P
  chans : Free_chans P
  queue : Free_queue P
  window : Free_window P
  gates : Free_gates P
  flash : Free_flash P
  seq : Free_seq P
  gauges : Free_gauges P
  fan : Free_fan P
  /-- The supervisor moves, but for the shed level. -/
  sup : ∀ (s : State) (v : Supervisor), v.shed = s.sup.shed → P s → P (s.setSup v)
  /-- The shed level moves, and all functions are re-evaluated (R121). -/
  shed : ∀ (s : State) (v : Supervisor), P s → P (((s.setSup v).raise .shed).reevaluateAll Fn.all)
  /-- A record other than a SLOT or FUNCTION record is replaced. -/
  cfg : ∀ (s : State) (v : Working), v.functions = s.cfg.functions → v.slots = s.cfg.slots → P s → P (s.setCfg v)
  newSlot : ∀ (s : State) (x : SlotId × SlotRec), P s → P (s.applySlot x)
  newFunction : ∀ (s : State) (x : Fn × FunctionRec), P s → P (s.applyFunction x)
  raiseTo : ∀ (s : State) (k : EventKind) (m : SlotId), P s → P (s.raiseTo k m)
  clearEvents : ∀ (s : State) (m : SlotId) (x : EventSet), P s →
    P (s.setSlot m { s.slot m with pending := (s.slot m).pending &&& x })
  hear : ∀ (s : State) (m : SlotId), P s → P (s.hear m)
  silence : ∀ (s : State) (m : SlotId) (early : Bool), (s.slot m).st = .live → P s → P (s.fallSilent m early)
  countSlot : ∀ (s : State) (m : SlotId), P s → P (s.countSlot m)
  freshTimer : ∀ (s : State) (m : SlotId), P s → P (s.freshTimer m)
  /-- A master's claim from its link (R6). -/
  claim : ∀ (s : State) (m : SlotId) (f : Fn) (v : Nat), v ≤ fnTop f → P s →
    P (s.writeCell f m.claimant (some { value := v, orphaned := false, hold := none }))
  /-- A master's claim is withdrawn, or removed as its hold expires (R6, R21). -/
  withdraw : ∀ (s : State) (m : SlotId) (f : Fn), P s → P (s.writeCell f m.claimant none)
  /-- An input is sampled or its run restarts: its filtered level stands (R187). -/
  sample : ∀ (s : State) (i : InputId) (v : Input), v.filtered = (s.input i).filtered → P s → P (s.setInput i v)
  ign : ∀ (s : State) (v : Input), P s → P ((s.setInput .ign v).ignitionChanged)
  brake : ∀ (s : State) (v : Input) (l : Bool), v.filtered = some l → P s →
    P ((s.setInput .brake v).localClaim .stop l)
  hazard : ∀ (s : State) (v : Input) (l : Bool), v.filtered = some l → P s →
    P ((s.setInput .hazard v).localClaim .hazard l)
  start : ∀ (s : State) (v : Input), P s → P (s.setInput .start v)
  begin : ∀ (s : State) (k : ResetKind), P (s.begin k)
  brownOut : ∀ s : State, P s.brownOut

namespace ClaimInvariant

variable {P : State → Prop} (h : ClaimInvariant P) {s : State}
include h

/-! ### Control -/

omit h in
theorem whenDue {b : Bool} {f : State → State} (hs : P s) (hf : b = true → P (f s)) : P (s.whenDue b f) := by
  unfold State.whenDue
  split
  · exact hf ‹_›
  · exact hs

omit h in
theorem foldl {α : Type} {f : State → α → State} {l : List α} (hs : P s)
    (hf : ∀ (t : State) (a : α), P t → P (f t a)) : P (l.foldl f s) :=
  List.foldlRecOn l f hs fun t ht a _ => hf t a ht

/-! ### The output stage -/

theorem raise (hs : P s) (k : EventKind) : P (s.raise k) := by
  unfold State.raise
  exact foldl hs fun t m => h.raiseTo t k m

theorem abandon (hs : P s) (x : Source) : P (s.abandon x) := (s.abandon_keep P h.seq x).mpr hs

theorem trip (hs : P s) (c : Channel) (k : TripCause) : P (s.trip c k) := by
  unfold State.trip
  have ht : P ((((s.setChan c (s.trippedChan c k)).negateGate c).leaveWindow c).raise .trip) := by
    refine h.raise ?_ _
    rwa [State.leaveWindow_keep P h.window, State.negateGate_keep P h.gates, State.setChan_keep P h.chans]
  extract_lets t u
  have hu : P u := by
    rw [State.releaseIfDue_keep P h.chans h.fan,
      State.ifFan_keep P _ _ _ fun t => State.fanFault_keep P h.chans h.fan t]
    exact h.abandon ht _
  split
  · rwa [State.admitHeads_keep P h.chans h.queue h.window h.fan]
  · exact hu

theorem stallReport (hs : P s) : P s.stallReport := by
  unfold State.stallReport
  have ht : P (s.setFan { s.fan with report := none }) := (State.setFan_keep P h.fan ..).mpr hs
  dsimp only
  split
  · exact ht
  · split
    · exact h.trip (whenDue ht fun _ => (State.runCountReach_keep P h.chans ..).mpr ht) _ _
    · exact ht

theorem bulbSet (hs : P s) (c : Channel) : P (s.bulbSet c) :=
  h.raise ((State.modChan_keep P h.chans ..).mpr hs) _

theorem bulbClear (hs : P s) (c : Channel) : P (s.bulbClear c) :=
  h.raise ((State.modChan_keep P h.chans ..).mpr hs) _

/-! ### The flash generator -/

theorem enterOn (hs : P s) (early : Bool) : P (s.enterOn early) := by
  unfold State.enterOn
  extract_lets v _ t
  have ht : P t := (State.setFlash_keep P h.flash ..).mpr hs
  rw [State.composeFollowers_keep P h.chans h.queue h.window h.fan, State.startTick_keep P h.flash]
  split
  · exact ht
  · exact h.raise ht _

theorem enterOff (hs : P s) (cy : Cycle) (early : Bool) : P (s.enterOff cy early) :=
  (State.enterOff_keep P h.chans h.queue h.window h.flash h.fan s cy early).mpr hs

/-! ### The gauge unit -/

theorem setGauge (hs : P s) (g : GaugeId) (v : GaugeSlot) : P (s.setGauge g v) :=
  (State.setGauge_keep P h.gauges s g v).mpr hs

theorem gaugeWrite (hs : P s) (g : GaugeId) (d : Nat) : P (s.gaugeWrite g d) :=
  (State.gaugeWrite_keep P h.chans h.gauges h.fan s g d).mpr hs

theorem gaugeRecompute (hs : P s) (g : GaugeId) : P (s.gaugeRecompute g) := by
  unfold State.gaugeRecompute
  split
  · split
    · rename_i vt vf _ _ _
      have ht := h.gaugeWrite (h.setGauge hs g { s.gauge g with vt := some vt, under := gaugeUnder vt vf }) g
        (gaugeDuty vt vf)
      dsimp only
      split
      · exact ht
      · exact h.raise ht _
    · exact hs
  · exact hs

theorem gaugesRecompute (hs : P s) : P s.gaugesRecompute := by
  unfold State.gaugesRecompute
  exact foldl hs fun _ g ht => h.gaugeRecompute ht g

theorem gaugeRest (hs : P s) (g : GaugeId) : P (s.gaugeRest g) := h.raise (h.gaugeWrite (h.setGauge hs g _) g 0) _

theorem gaugeFault (hs : P s) (g : GaugeId) : P (s.gaugeFault g) := by
  unfold State.gaugeFault
  have ht := h.raise (h.setGauge hs g { s.gauge g with
    st := .faultHold, recoveryRun := 0, timer := some (s.gaugeRec g).faultHold }) .gauge
  extract_lets t
  split
  · exact h.gaugeRest ht g
  · exact ht

theorem gaugeRecover (hs : P s) (g : GaugeId) : P (s.gaugeRecover g) :=
  h.raise (h.gaugeRecompute (h.setGauge hs g _) g) _

theorem gaugeFinishReading (hs : P s) (g : GaugeId) : P (s.gaugeFinishReading g) := by
  unfold State.gaugeFinishReading
  split
  · exact h.gaugeFault hs g
  · split
    · exact h.gaugeRecover hs g
    · exact hs

theorem gaugeEnter (hs : P s) (g : GaugeId) (v : Nat) : P (s.gaugeEnter g v) := h.gaugeRecompute (h.setGauge hs g _) g

theorem gaugeReading (hs : P s) (g : GaugeId) (v : Nat) : P (s.gaugeReading g v) := by
  unfold State.gaugeReading
  split
  · exact hs
  · split
    · exact hs
    · exact hs
    · split
      · exact h.gaugeEnter hs g v
      · exact h.setGauge hs g _
    · exact h.setGauge hs g _
    · exact h.setGauge hs g _

theorem gaugeStart (hs : P s) (g : GaugeId) : P (s.gaugeStart g) := by
  unfold State.gaugeStart
  split
  · split
    · exact h.setGauge hs g _
    · exact h.gaugeRecompute (h.setGauge hs g _) g
  · exact hs

theorem gaugeStop (hs : P s) (g : GaugeId) : P (s.gaugeStop g) := by
  unfold State.gaugeStop
  have ht := h.gaugeFinishReading hs g
  extract_lets t _ u
  have hu : P u := h.gaugeWrite (h.setGauge ht g _) g 0
  split
  · exact ht
  · split
    · exact h.raise hu _
    · exact hu

theorem gaugesIgnition (hs : P s) (b : Bool) : P (s.gaugesIgnition b) := by
  refine foldl hs fun t g ht => ?_
  split
  · exact h.gaugeStart ht g
  · exact h.gaugeStop ht g

theorem gaugeRelease (hs : P s) (g : GaugeId) : P (s.gaugeRelease g) := by
  unfold State.gaugeRelease
  split
  · exact h.gaugeRecompute (h.setGauge hs g _) g
  · exact hs

/-! ### The supply supervisor -/

theorem setShed (hs : P s) (n : Nat) : P (s.setShed n) := by
  unfold State.setShed
  dsimp only
  rw [State.fanShed_keep P h.chans h.gates h.seq h.fan]
  exact h.shed s _ hs

theorem finishShed (hs : P s) : P s.finishShed := by
  unfold State.finishShed
  split
  · exact h.setShed hs _
  · split
    · exact h.setShed hs _
    · exact hs

theorem filterSample (hs : P s) (v : Nat) : P (s.filterSample v) := by
  unfold State.filterSample
  extract_lets vf _ t u _
  have ht : P t := h.sup s _ (by rfl) hs
  refine h.sup u _ (by rfl) ?_
  change P (if _ then t else t.gaugesRecompute)
  split
  · exact ht
  · exact h.gaugesRecompute ht

theorem countSample (hs : P s) (v : Nat) : P (s.countSample v) := by
  unfold State.countSample
  split
  · exact h.sup s _ (by rfl) hs
  · extract_lets n _ t
    have ht : P t := h.sup s _ (by rfl) hs
    split
    · exact ht
    · exact h.filterSample ht v

theorem crankEnter (hs : P s) : P s.crankEnter := by
  unfold State.crankEnter
  extract_lets x _ t
  have hx : P x := foldl hs fun _ g ht => h.gaugeFinishReading ht g
  have ht : P t := h.raise (h.sup x _ (by rfl) hx) _
  rw [State.endTick_keep P h.flash, foldl_keep P _ fun t g => State.gaugeHold_keep P h.gauges t g,
    State.fanCrankEntry_keep P h.chans h.fan]
  exact ht

theorem crankLeave (hs : P s) : P s.crankLeave := by
  unfold State.crankLeave
  extract_lets _ t u
  have ht : P t := h.raise (h.sup s _ (by rfl) hs) _
  have hu : P u := foldl ((State.fanCrankExit_keep P h.chans h.fan t).mpr ht) fun _ g ht => h.gaugeRelease ht g
  split
  · exact hu
  · exact h.filterSample hu _

theorem settleCrank (hs : P s) : P s.settleCrank := by
  have hx : P (s.whenDue s.crankExitDue State.crankLeave) := whenDue hs fun _ => h.crankLeave hs
  exact whenDue hx fun _ => h.crankEnter hx

theorem settleSupply (hs : P s) : P s.settleSupply := h.finishShed (h.settleCrank hs)

theorem busSample (hs : P s) (v : Nat) : P (s.busSample v) := by
  unfold State.busSample
  split
  · exact h.brownOut s
  · exact h.settleSupply (h.countSample (h.settleSupply hs) v)

theorem applySupply (hs : P s) (r : SupplyRec) : P (s.applySupply r) :=
  (State.admitHeads_keep P h.chans h.queue h.window h.fan _).mpr (h.sup _ _ rfl (h.cfg s _ rfl rfl hs))

/-! ### The local inputs -/

theorem setLevel (hs : P s) (i : InputId) (l early : Bool) : P (s.setLevel i l early) := by
  unfold State.setLevel
  have ht : P (s.whenDue (i == .start) State.settleSupply) := whenDue hs fun _ => h.settleSupply hs
  extract_lets t
  cases i with
  | ign => exact h.gaugesIgnition (h.ign t _ ht) l
  | brake => exact h.brake t _ l rfl ht
  | hazard => exact h.hazard t _ l rfl ht
  | start => exact h.settleCrank (h.start t _ ht)

theorem settleInput (hs : P s) (i : InputId) : P (s.settleInput i) := by
  unfold State.settleInput
  split
  · exact h.setLevel hs i _ _
  · split
    · exact h.setLevel hs i _ _
    · exact hs

theorem startingDone (hs : P s) : P s.startingDone := (State.startingDone_keep P h.power s).mpr hs

theorem settleInputsOf (hs : P s) (ids : List InputId) : P (s.settleInputsOf ids) := by
  unfold State.settleInputsOf
  exact foldl (whenDue hs fun _ => h.startingDone hs) fun _ i ht => h.settleInput ht i

/-! ### Steps that have fallen due -/

theorem settleSlot (hs : P s) (m : SlotId) : P (s.settleSlot m) := by
  refine foldl (whenDue hs fun hd => ?_) fun t f ht => whenDue ht fun _ => h.withdraw t m f ht
  obtain ⟨-, hlive, -⟩ := (s.silenceDue_iff m).mp hd
  exact h.silence s m false hlive hs

theorem settleFlash (hs : P s) : P s.settleFlash := by
  unfold State.settleFlash
  have ht : P (s.whenDue s.flashStartDue fun t => t.enterOn false) := whenDue hs fun _ => h.enterOn hs false
  extract_lets t u
  have hu : P u := by
    change P (match t.offDue with | some cy => t.enterOff cy false | none => t)
    split
    · exact h.enterOff ht _ _
    · exact ht
  exact whenDue hu fun _ => h.enterOn hu false

theorem settleGauge (hs : P s) (g : GaugeId) : P (s.settleGauge g) :=
  h.gaugeFinishReading (whenDue hs fun _ => h.gaugeRest hs g) g

theorem settleChannel (hs : P s) (c : Channel) : P (s.settleChannel c) := by
  unfold State.settleChannel
  extract_lets t u v w
  have ht : P t := whenDue hs fun _ => (State.inrushExpire_keep P h.chans h.queue h.window h.fan s c).mpr hs
  have hu : P u := whenDue ht fun _ => (State.coolOffExpire_keep P h.chans h.queue h.window h.fan t c).mpr ht
  have hv : P v := whenDue hu fun _ => (State.runCountReach_keep P h.chans u c).mpr hu
  have hw : P w := whenDue hv fun _ => h.bulbSet hv c
  exact whenDue hw fun _ => h.bulbClear hw c

theorem settleStall (hs : P s) : P s.settleStall := whenDue hs fun _ => h.stallReport hs

theorem settleStepsOf (hs : P s) (ids : List InputId) : P (s.settleStepsOf ids) := by
  unfold State.settleStepsOf
  extract_lets a c e
  have ha : P a := foldl (h.settleInputsOf hs ids) fun _ m ht => h.settleSlot ht m
  have hb : P (allGauges.foldl State.settleGauge a.settleFlash) :=
    foldl (h.settleFlash ha) fun _ g ht => h.settleGauge ht g
  have hc : P c := h.settleSupply hb
  have hd : P (allChannels.foldl State.settleChannel c) := foldl hc fun _ x ht => h.settleChannel ht x
  have he : P e := h.settleStall hd
  exact whenDue he fun _ => (State.abandonUnservable_keep P h.seq e).mpr he

theorem settleSteps (hs : P s) : P s.settleSteps := h.settleStepsOf hs allInputs

theorem sleep (hs : P s) : P s.sleep := (State.sleep_keep P h.power h.ports h.gates h.seq s).mpr hs

theorem settle (hs : P s) : P s.settle := by
  unfold State.settle
  split
  · exact h.sleep (h.settleSteps hs)
  · exact h.settleStepsOf hs _

theorem rawEvent (hs : P s) (k : WakeCause) : P (s.rawEvent k) := by
  unfold State.rawEvent
  split
  · exact hs
  · exact h.sample s _ _ rfl hs

theorem freshRun (hs : P s) (i : InputId) : P (s.freshRun i) := h.sample s i _ rfl hs

theorem wakeUp (hs : P s) : P s.wakeUp := by
  unfold State.wakeUp
  extract_lets _ a b c d
  have ha : P a := (State.setPower_keep P h.power ..).mpr hs
  have hb : P b := h.sup _ _ rfl ((State.setClock_keep P h.clock ..).mpr ha)
  have hc : P c := foldl hb fun t i ht => h.freshRun ht i
  have hd : P d := foldl hc h.freshTimer
  exact foldl hd fun t p ht => (State.hunt_keep P h.ports t p 0).mpr ht

theorem sampleInput (hs : P s) (lines : PerInput Bool) (i : InputId) : P (s.sampleInput lines i) := by
  unfold State.sampleInput
  extract_lets x raw
  split
  · exact h.sample s i _ rfl hs
  · refine h.sample s i _ ?_ hs
    unfold Input.sample
    split <;> simp_all [x]

theorem startPeriod (hs : P s) (lines : PerInput Bool) : P (s.startPeriod lines) := by
  unfold State.startPeriod
  extract_lets a b x c
  have ha : P a := by
    change P (State.sampleInputs _ lines)
    unfold State.sampleInputs
    exact foldl ((State.abandonAll_keep P h.seq s).mpr hs) fun _ i ht => h.sampleInput ht lines i
  have hb : P b := by
    refine (State.countFlash_keep P h.flash _).mpr (foldl (foldl ha h.countSlot) fun t g ht => ?_)
    exact (State.countFaultHold_keep P h.gauges t g).mpr ht
  have hc : P c := by
    rwa [State.setClock_keep P h.clock, State.setPower_keep P h.power, State.setSeq_keep P h.seq]
  rwa [State.postRequests_keep P h.seq, State.takeUpAll_keep P h.chans h.queue h.window h.gates h.fan]

/-! ### The sequencer -/

theorem serve (hs : P s) (x : Source) (v : Nat) : P (s.serve x v) := (State.serve_keep P h.seq s x v).mpr hs

theorem consume (hs : P s) (r : Request) (v : Nat) : P (s.consume r v) := by
  unfold State.consume
  split
  · exact h.busSample hs v
  · rwa [State.fanSample_keep P h.fan, State.openLoad_keep P h.chans]
  · exact foldl hs fun _ g ht => h.gaugeReading ht g v

/-! ### Frames and replies -/

theorem setPort (hs : P s) (p : Port) (v : PortState) : P (s.setPort p v) := (State.setPort_keep P h.ports s p v).mpr hs

theorem hunt (hs : P s) (p : Port) (n : Nat) : P (s.hunt p n) := h.setPort hs p _

theorem accept (hs : P s) (p : Port) (f : Frame) : P (s.accept p f) :=
  (State.setPower_keep P h.power ..).mpr (h.hear _ _ (h.setPort hs p _))

theorem judge (hs : P s) (p : Port) (f : RawFrame) : P (s.judge p f) := by
  unfold State.judge
  have ht := h.hunt hs p 0
  extract_lets t
  split
  · split
    · split
      · exact h.accept ht p _
      · exact h.setPort ht p _
    · exact ht
  · exact ht

theorem afterFrame (hs : P s) (rate reset : Bool) : P (s.afterFrame rate reset) := by
  unfold State.afterFrame
  split
  · exact h.begin s _
  · split
    · exact (State.applyRates_keep P h.ports s).mpr hs
    · exact hs

theorem leaveQueue (hs : P s) (p : Port) : P (s.leaveQueue p) := h.setPort hs p _

theorem finishFrame (hs : P s) (p : Port) : P (s.finishFrame p) := by
  unfold State.finishFrame
  split
  · split
    · exact h.setPort hs p _
    · exact h.afterFrame (h.leaveQueue hs p) _ _
  · exact hs

theorem answer (hs : P s) (p : Port) (a : Option Answer) (k : Option Status) : P (s.answer p a k) := by
  unfold State.answer
  split
  · exact hs
  · extract_lets later _ r' t
    have ht : P t := h.setPort hs p _
    split
    · exact h.finishFrame ht p
    · exact ht

theorem answerStatus (hs : P s) (p : Port) (k : Status) : P (s.answerStatus p k) := h.answer hs p _ _

theorem abandonReply (hs : P s) (p : Port) (r : Reply) : P (s.abandonReply p r) :=
  h.afterFrame (h.hunt (h.leaveQueue hs p) p 0) _ _

theorem lineActive (hs : P s) (p : Port) : P (s.lineActive p) := by
  unfold State.lineActive
  split
  · exact h.abandonReply hs p _
  · split
    · exact h.hunt (h.setPort hs p _) p 0
    · exact hs
  · exact hs
  · exact hs

theorem beginFrame (hs : P s) (p : Port) (items : List Item) : P (s.beginFrame p items) := by
  unfold State.beginFrame
  have ht := h.setPort hs p { s.port p with
    run := some { items := items, answers := [], oldAddress := none, rateAfter := false, resetAfter := false,
                  lost := false } }
  extract_lets t
  split
  · exact h.finishFrame ht p
  · exact ht

/-! ### Items -/

theorem claimPair (hs : P s) (m : SlotId) (q : Byte × Byte) : P (s.claimPair m q) := by
  unfold State.claimPair
  split
  · exact hs
  · rename_i f _
    cases hv : (reduceWire f q.2).1 with
    | none => exact h.withdraw s m f hs
    | some v => exact h.claim s m f v (reduceWire_le_fnTop hv) hs

theorem claimPairs (hs : P s) (m : SlotId) (l : List (Byte × Byte)) : P (s.claimPairs m l) := by
  unfold State.claimPairs
  exact foldl hs fun _ q ht => h.claimPair ht m q

theorem claimColumn (hs : P s) (m : SlotId) (l : List (Byte × Byte)) : P (s.claimColumn m l) :=
  h.claimPairs (foldl hs fun t f ht => h.withdraw t m f ht) m _

theorem readItem (hs : P s) (p : Port) (b : Bool) (k : ReadKind) (i : Byte) : P (s.readItem p b k i) := by
  unfold State.readItem
  split
  · split
    · exact h.answerStatus hs p _
    · split
      · exact h.answer hs p _ _
      · exact h.answerStatus hs p _
  · exact h.answer hs p _ _

theorem readOf (hs : P s) (p : Port) (isKind : ReadKind → Bool) : P (s.readOf p isKind) := by
  unfold State.readOf
  split
  · split
    · exact h.readItem hs p _ _ _
    · exact hs
  · exact hs

theorem clearChannelsItem (hs : P s) (p : Port) (m : SlotId) (l : List Byte) : P (s.clearChannelsItem p m l) := by
  unfold State.clearChannelsItem
  split
  · exact h.answerStatus hs p _
  · split
    · exact h.answerStatus (foldl hs fun t b ht => (State.clearChannel_keep P h.chans h.fan t b).mpr ht) p _
    · exact h.answerStatus hs p _

theorem clearEventsItem (hs : P s) (p : Port) (m : SlotId) (low high : Byte) : P (s.clearEventsItem p m low high) := by
  unfold State.clearEventsItem
  split
  · exact h.answerStatus (h.clearEvents s m _ hs) p _
  · exact h.answerStatus hs p _

theorem resetItem (hs : P s) (p : Port) (m : SlotId) : P (s.resetItem p m) := by
  unfold State.resetItem
  split
  · exact h.answerStatus hs p _
  · split
    · exact h.answerStatus hs p _
    · exact h.answer (h.setPort ((State.setPower_keep P h.power ..).mpr hs) p _) p _ _

theorem configLength (hs : P s) (p : Port) (m : SlotId) : P (s.configLength p m) := by
  unfold State.configLength
  split <;> exact h.answerStatus hs p _

theorem rowlessItem (hs : P s) (p : Port) (f : Frame) (i : Item) : P (s.rowlessItem p f i) := by
  unfold State.rowlessItem
  split
  · split
    · exact h.answerStatus hs p _
    · exact h.answer hs p _ _
  · split <;> exact h.answerStatus hs p _
  · exact h.answerStatus hs p _
  · exact hs

theorem configItem {α : Type} {apply : State → α → State} (ha : ∀ r, P (apply s r)) (hs : P s) (p : Port) (m : SlotId)
    (v : Verdict α) (record : α → ConfigRecord) (skip : α → Option Status) :
    P (s.configItem p m v apply record skip) := by
  unfold State.configItem
  split
  · exact h.answerStatus hs p _
  · split
    · exact h.answerStatus hs p _
    · exact h.answer ((State.setStoreWrite_keep P h.storeWrite ..).mpr (ha _)) p _ _

/-! ### Records applied -/

theorem retarget (hs : P s) (cls : VClass) : P (s.retarget cls) := h.cfg s _ rfl rfl hs

theorem changeClass (hs : P s) (cls : VClass) : P (s.changeClass cls) := by
  unfold State.changeClass
  split
  · exact hs
  · exact h.applySupply (h.retarget (h.settleSupply hs) cls) _

theorem applyUnit (hs : P s) (p : Port) (answered : Bool) (r : UnitRec) : P (s.applyUnit p answered r) := by
  unfold State.applyUnit
  extract_lets old t _ u
  have hu : P u := h.cfg t _ rfl rfl (h.changeClass hs _)
  split
  · exact h.setPort hu p _
  · exact (State.applyRates_keep P h.ports u).mpr hu

theorem applyInputs (hs : P s) (r : PerInput InputRec) : P (s.applyInputs r) := by
  unfold State.applyInputs State.restartRuns
  exact foldl (h.cfg _ _ (by rfl) (by rfl) (h.settleInputsOf hs allInputs)) fun t i ht => h.sample t i _ (by rfl) ht

theorem resetHealth (hs : P s) (c : Channel) : P (s.resetHealth c) := by
  unfold State.resetHealth
  have ht : P (s.modChan c fun ch => { ch with trips := 0, bulbOut := false, low := 0, high := 0 }) :=
    (State.modChan_keep P h.chans ..).mpr hs
  extract_lets t
  split
  · exact h.raise ht _
  · exact ht

theorem recompute (hs : P s) (c : Channel) : P (s.recompute c) :=
  (State.recompute_keep P h.chans h.queue h.window h.fan s c).mpr hs

theorem applyChannel (hs : P s) (x : Channel × ChannelRec) : P (s.applyChannel x) := by
  unfold State.applyChannel
  extract_lets c _ t
  have ht : P t := h.cfg s _ rfl rfl hs
  refine h.resetHealth ?_ c
  split
  · exact ht
  · exact h.recompute ht c

theorem applyMap (hs : P s) (x : Fin 32 × Option MapEntry) : P (s.applyMap x) := by
  unfold State.applyMap
  extract_lets before now t
  rw [State.fanChannelChanged_keep P h.chans h.fan, State.recomputeWhere_keep P h.chans h.queue h.window h.fan]
  exact h.cfg s _ rfl rfl hs

theorem applyGauge (hs : P s) (x : GaugeId × GaugeRec) : P (s.applyGauge x) := by
  unfold State.applyGauge
  have ht : P (s.setCfg { s.cfg with gauges := s.cfg.gauges.set x.1 x.2 }) := h.cfg s _ rfl rfl hs
  extract_lets t
  split
  · exact ht
  · split
    · exact ht
    · exact h.recompute ht _

theorem applyFlasher (hs : P s) (r : FlasherRec) : P (s.applyFlasher r) := h.cfg s _ rfl rfl hs

theorem newSupply (hs : P s) (r : SupplyRec) : P (s.newSupply r) := h.applySupply (h.settleSupply hs) r

theorem applyFan (hs : P s) (r : FanRec) : P (s.applyFan r) := by
  unfold State.applyFan
  extract_lets _ t
  have ht : P t := (State.fanRetarget_keep P h.chans h.fan _).mpr (h.cfg s _ rfl rfl hs)
  split
  · exact (State.fanWrite_keep P h.chans t _).mpr ht
  · exact ht

end ClaimInvariant
end Sys2Proof.Machine
end

section
/-! SUPPORT. A property with the principle's actions is kept by every command, and by every step. -/

namespace Sys2Proof.Machine
open Sys2Proof

namespace ClaimInvariant

variable {P : State → Prop} (h : ClaimInvariant P) {s : State}

/-! ### Commands -/

theorem of_ite {p : Prop} [Decidable p] {t u : State} (ht : p → P t) (hu : P u) : P (if p then t else u) := by
  split
  · exact ht ‹_›
  · exact hu

/-- Every next state that an outcome brings has the property. -/
def Reached (P : State → Prop) (o : Host.Outcome State Fault Refusal) : Prop := ∀ t : State, o = .next t → P t

theorem reached_next {t : State} (ht : P t) : Reached P (.next t) := fun _ he => by cases he; exact ht

include h

theorem execFlashStart (hs : P s) : Reached P (execFlashStart s) :=
  reached_next (of_ite (fun _ => h.enterOn hs _) (of_ite (fun _ => h.enterOn hs _) hs))

theorem execOffPhaseEntry (hs : P s) : Reached P (execOffPhaseEntry s) := by
  refine reached_next ?_
  split
  · exact h.enterOff hs _ _
  · split
    · exact h.enterOff hs _ _
    · exact hs

theorem execTickEnd (hs : P s) : Reached P (execTickEnd s) := by
  refine reached_next ?_
  split
  · exact of_ite (fun _ => (State.endTick_keep P h.flash s).mpr hs) hs
  · exact hs

theorem execToneHalfPeriod (hs : P s) : Reached P (execToneHalfPeriod s) := by
  refine reached_next ?_
  split
  · exact of_ite (fun _ => (State.setFlash_keep P h.flash s _).mpr hs) hs
  · exact hs

theorem execConversionDone (hs : P s) (src : Source) (n : Nat) : Reached P (execConversionDone src n s) := by
  refine reached_next ?_
  split
  · exact hs
  · exact of_ite (fun _ => h.consume (h.serve hs src _) _ _) hs

theorem execRequestAbandon (hs : P s) (src : Source) : Reached P (execRequestAbandon src s) := by
  refine reached_next ?_
  split
  · exact hs
  · exact of_ite (fun _ => h.abandon hs src) hs

theorem execFilteredLevelChange (hs : P s) (i : InputId) : Reached P (execFilteredLevelChange i s) := by
  refine reached_next ?_
  split
  · exact h.setLevel hs i _ _
  · split
    · exact h.setLevel hs i _ _
    · exact hs

theorem execSilenceExpiry (hs : P s) (m : SlotId) : Reached P (execSilenceExpiry m s) := by
  refine reached_next (of_ite (fun hd => h.silence s m _ ?_ hs) (of_ite (fun hd => h.silence s m _ ?_ hs) hs))
  · obtain ⟨-, hlive, -⟩ := (s.silenceDue_iff m).mp hd
    exact hlive
  · obtain ⟨-, -, -, -, hlive, -⟩ := (s.silenceEarly_iff m).mp hd
    exact hlive

theorem execFrameReceived (hs : P s) (p : Port) (octets : List Byte) : Reached P (execFrameReceived p octets s) := by
  unfold Machine.execFrameReceived
  split
  · exact fun t ht => nomatch ht
  · exact reached_next (of_ite (fun _ => h.lineActive (h.judge hs p _) p) hs)

theorem execFramingFault (hs : P s) (p : Port) (k : FramingFault) : Reached P (execFramingFault p k s) := by
  refine reached_next (of_ite (fun _ => ?_) hs)
  split
  · exact h.lineActive (h.hunt hs p 0) p
  · exact hs
  · exact of_ite (fun _ => h.lineActive (h.hunt hs p 0) p) hs
  · exact hs

theorem execFrameExecute (hs : P s) (p : Port) : Reached P (execFrameExecute p s) := by
  refine reached_next ?_
  split
  · exact h.rowlessItem hs p _ _
  · split
    · split
      · exact of_ite (fun _ => h.beginFrame hs p _) hs
      · exact hs
    · exact hs

theorem execFrameError (hs : P s) (p : Port) : Reached P (execFrameError p s) := by
  refine reached_next ?_
  split
  · exact of_ite (fun _ => h.finishFrame (h.setPort hs p _) p) hs
  · exact hs

theorem execClaim (hs : P s) (p : Port) : Reached P (execClaim p s) := by
  refine reached_next ?_
  split
  · exact of_ite (fun _ => h.answerStatus (h.claimPairs hs _ _) p _) (h.answerStatus hs p _)
  · exact hs

theorem execClaimAll (hs : P s) (p : Port) : Reached P (execClaimAll p s) := by
  refine reached_next ?_
  split
  · exact of_ite (fun _ => h.answerStatus (h.claimColumn hs _ _) p _) (h.answerStatus hs p _)
  · exact hs

theorem execConfigUnit (hs : P s) (p : Port) : Reached P (execConfigUnit p s) := by
  refine reached_next ?_
  split
  · exact h.configItem (fun r => h.applyUnit hs p _ r) hs p _ _ _ _
  · exact h.configLength hs p _
  · exact hs

theorem execConfigInputs (hs : P s) (p : Port) : Reached P (execConfigInputs p s) := by
  refine reached_next ?_
  split
  · exact of_ite (fun _ => hs) (h.configItem (fun r => h.applyInputs hs r) hs p _ _ _ _)
  · exact h.configLength hs p _
  · exact hs

theorem execConfigSlot (hs : P s) (p : Port) : Reached P (execConfigSlot p s) := by
  refine reached_next ?_
  split
  · exact h.configItem (fun x => h.newSlot s x hs) hs p _ _ _ _
  · exact h.configLength hs p _
  · exact hs

theorem execConfigFunction (hs : P s) (p : Port) : Reached P (execConfigFunction p s) := by
  refine reached_next ?_
  split
  · exact h.configItem (fun x => h.newFunction s x hs) hs p _ _ _ _
  · exact h.configLength hs p _
  · exact hs

theorem execConfigChannel (hs : P s) (p : Port) : Reached P (execConfigChannel p s) := by
  refine reached_next ?_
  split
  · exact h.configItem (fun x => h.applyChannel hs x) hs p _ _ _ _
  · exact h.configLength hs p _
  · exact hs

theorem execConfigMap (hs : P s) (p : Port) : Reached P (execConfigMap p s) := by
  refine reached_next ?_
  split
  · exact h.configItem (fun x => h.applyMap hs x) hs p _ _ _ _
  · exact h.configLength hs p _
  · exact hs

theorem execConfigGauge (hs : P s) (p : Port) : Reached P (execConfigGauge p s) := by
  refine reached_next ?_
  split
  · exact h.configItem (fun x => h.applyGauge hs x) hs p _ _ _ _
  · exact h.configLength hs p _
  · exact hs

theorem execConfigFlasher (hs : P s) (p : Port) : Reached P (execConfigFlasher p s) := by
  refine reached_next ?_
  split
  · exact h.configItem (fun r => h.applyFlasher hs r) hs p _ _ _ _
  · exact h.configLength hs p _
  · exact hs

theorem execConfigSupply (hs : P s) (p : Port) : Reached P (execConfigSupply p s) := by
  refine reached_next ?_
  split
  · exact h.configItem (fun r => h.newSupply hs r) hs p _ _ _ _
  · exact h.configLength hs p _
  · exact hs

theorem execConfigFan (hs : P s) (p : Port) : Reached P (execConfigFan p s) := by
  refine reached_next ?_
  split
  · exact h.configItem (fun r => h.applyFan hs r) hs p _ _ _ _
  · exact h.configLength hs p _
  · exact hs

theorem execStoreWriteDone (hs : P s) : Reached P (execStoreWriteDone s) := by
  refine reached_next ?_
  split
  · exact hs
  · rwa [State.setStoreWrite_keep P h.storeWrite, State.setStore_keep P h.store]

theorem execClearChannels (hs : P s) (p : Port) : Reached P (execClearChannels p s) := by
  refine reached_next ?_
  split
  · exact h.clearChannelsItem hs p _ _
  · exact hs

theorem execClearEvents (hs : P s) (p : Port) : Reached P (execClearEvents p s) := by
  refine reached_next ?_
  split
  · exact h.clearEventsItem hs p _ _ _
  · exact hs

theorem execReset (hs : P s) (p : Port) : Reached P (execReset p s) := by
  refine reached_next ?_
  split
  · exact h.resetItem hs p _
  · exact hs

theorem execReplyStart (hs : P s) (p : Port) (d : Nat) : Reached P (execReplyStart p d s) := by
  refine reached_next ?_
  split
  · exact of_ite (fun _ => h.setPort hs p _) hs
  · exact hs
  · exact hs

theorem execReplySent (hs : P s) (p : Port) : Reached P (execReplySent p s) := by
  refine reached_next ?_
  have ht : P ((s.leaveQueue p).hunt p 0) := h.hunt (h.leaveQueue hs p) p 0
  split
  · exact of_ite (fun _ => h.afterFrame (of_ite (fun _ => h.setPort ht p _) ht) _ _) hs
  · exact hs
  · exact hs

theorem execReplyAbandon (hs : P s) (p : Port) (k : AbandonCause) : Reached P (execReplyAbandon p k s) := by
  refine reached_next (of_ite (fun _ => ?_) hs)
  split
  · exact h.lineActive hs p
  · exact of_ite (fun _ => hs) (h.abandonReply hs p _)
  · exact hs

theorem execSync (hs : P s) (p : Port) (octet : Byte) (idle : Nat) : Reached P (execSync p octet idle s) := by
  refine reached_next (of_ite (fun _ => of_ite (fun _ => h.lineActive hs p) ?_) hs)
  split
  · exact hs
  · exact of_ite (fun _ => h.setPort hs p _) (h.hunt hs p 0)
  · exact of_ite (fun _ => h.setPort hs p _) (h.hunt hs p 0)

/-- The property holds in the next state of every command. -/
theorem exec_reached (hs : P s) (c : Instr) : Reached P (exec c s) := by
  cases c with
  | powerOn => exact reached_next (h.begin s _)
  | brownOutRestart => exact reached_next (of_ite (fun _ => h.begin s _) hs)
  | startingComplete => exact reached_next (of_ite (fun _ => h.startingDone hs) hs)
  | drivePeriodStart lines =>
    exact reached_next (of_ite (fun _ => of_ite (fun _ => h.startPeriod (h.settle hs) lines) hs) (h.settle hs))
  | inrushExpiry c =>
    exact reached_next (of_ite (fun _ => (State.inrushExpire_keep P h.chans h.queue h.window h.fan s c).mpr hs) hs)
  | runCountReached c => exact reached_next (of_ite (fun _ => (State.runCountReach_keep P h.chans s c).mpr hs) hs)
  | overcurrentTrip c current => exact reached_next (of_ite (fun _ => h.trip hs c _) hs)
  | coolOffExpiry c =>
    exact reached_next (of_ite (fun _ => (State.coolOffExpire_keep P h.chans h.queue h.window h.fan s c).mpr hs) hs)
  | bulbOutSet c => exact reached_next (of_ite (fun _ => h.bulbSet hs c) hs)
  | bulbOutClear c => exact reached_next (of_ite (fun _ => h.bulbClear hs c) hs)
  | flashStart => exact h.execFlashStart hs
  | offPhaseEntry => exact h.execOffPhaseEntry hs
  | onPhaseEntry => exact reached_next (of_ite (fun _ => h.enterOn hs _) (of_ite (fun _ => h.enterOn hs _) hs))
  | tickEnd => exact h.execTickEnd hs
  | conversionDone src quantity => exact h.execConversionDone hs src quantity
  | requestAbandon src => exact h.execRequestAbandon hs src
  | crankEntry => exact reached_next (of_ite (fun _ => h.crankEnter hs) hs)
  | crankExit => exact reached_next (of_ite (fun _ => h.crankLeave hs) hs)
  | shedRise => exact reached_next (of_ite (fun _ => h.setShed hs _) hs)
  | shedFall => exact reached_next (of_ite (fun _ => h.setShed hs _) hs)
  | stallReport => exact reached_next (of_ite (fun _ => h.stallReport hs) hs)
  | faultHoldEntry g => exact reached_next (of_ite (fun _ => h.gaugeFault hs g) hs)
  | faultHoldExpiry g => exact reached_next (of_ite (fun _ => h.gaugeRest hs g) hs)
  | gaugeRecovery g => exact reached_next (of_ite (fun _ => h.gaugeRecover hs g) hs)
  | inputSeed i => exact reached_next (of_ite (fun _ => h.setLevel hs i _ _) (of_ite (fun _ => h.setLevel hs i _ _) hs))
  | filteredLevelChange i => exact h.execFilteredLevelChange hs i
  | silenceExpiry m => exact h.execSilenceExpiry hs m
  | holdExpiry m f => exact reached_next (of_ite (fun _ => h.withdraw s m f hs) hs)
  | frameReceived p octets => exact h.execFrameReceived hs p octets
  | frameAbandonIdle p idle => exact reached_next (of_ite (fun _ => h.lineActive (h.hunt hs p idle) p) hs)
  | framingFault p fault => exact h.execFramingFault hs p fault
  | frameExecute p => exact h.execFrameExecute hs p
  | frameError p => exact h.execFrameError hs p
  | claim p => exact h.execClaim hs p
  | claimAll p => exact h.execClaimAll hs p
  | readChannel p => exact reached_next (h.readOf hs p _)
  | readTrip p => exact reached_next (h.readOf hs p _)
  | readFunction p => exact reached_next (h.readOf hs p _)
  | readSlots p => exact reached_next (h.readOf hs p _)
  | readGauge p => exact reached_next (h.readOf hs p _)
  | readSupply p => exact reached_next (h.readOf hs p _)
  | readFlasher p => exact reached_next (h.readOf hs p _)
  | readFan p => exact reached_next (h.readOf hs p _)
  | readInputs p => exact reached_next (h.readOf hs p _)
  | readResetCause p => exact reached_next (h.readOf hs p _)
  | readConfigurationRecord p => exact reached_next (h.readOf hs p _)
  | configUnit p => exact h.execConfigUnit hs p
  | configInputs p => exact h.execConfigInputs hs p
  | configSlot p => exact h.execConfigSlot hs p
  | configFunction p => exact h.execConfigFunction hs p
  | configChannel p => exact h.execConfigChannel hs p
  | configMap p => exact h.execConfigMap hs p
  | configGauge p => exact h.execConfigGauge hs p
  | configFlasher p => exact h.execConfigFlasher hs p
  | configSupply p => exact h.execConfigSupply hs p
  | configFan p => exact h.execConfigFan hs p
  | storeWriteDone => exact h.execStoreWriteDone hs
  | clearChannels p => exact h.execClearChannels hs p
  | clearEvents p => exact h.execClearEvents hs p
  | reset p => exact h.execReset hs p
  | replyStart p delay => exact h.execReplyStart hs p delay
  | replySent p => exact h.execReplySent hs p
  | replyAbandon p cause => exact h.execReplyAbandon hs p cause
  | dormantEntry => exact reached_next (of_ite (fun _ => h.sleep (h.settleSteps hs)) hs)
  | wake cause =>
    exact reached_next (of_ite (fun _ => of_ite (fun _ => h.wakeUp (h.rawEvent hs cause)) (h.rawEvent hs cause)) hs)
  | sync p octet idle => exact h.execSync hs p octet idle
  | driveStep x =>
    refine reached_next (of_ite (fun _ => of_ite (fun _ => ?_) hs) (h.settle hs))
    exact (State.beginStep_keep P h.clock h.gates h.seq _ _ _).mpr (h.settle hs)
  | toneHalfPeriod => exact h.execToneHalfPeriod hs

/-- The property is kept by every step. -/
theorem step {t : State} (ht : step s = .next t) (hs : P s) : P t := by
  unfold Machine.step at ht
  split at ht
  · cases ht
    exact hs
  · rename_i rest _
    exact h.exec_reached ((h.pending s rest).mpr hs) _ t ht

end ClaimInvariant
end Sys2Proof.Machine
end

section
/-! SUPPORT. What the operations of the arbiter and of the slots do to the claim table, the slots and the results. -/

namespace Sys2Proof.Machine
open Sys2Proof

/-! ### Cells -/

/-- A fold of actions on one claimant's cells, one function each, acts once on each function of the list. -/
theorem foldl_cell {op : State → Fn → State} {k : Claimant} {F : Fn → Option Claim → Option Claim} {s : State}
    (hcfg : ∀ (t : State) (f : Fn), (op t f).cfg = t.cfg)
    (hop : ∀ (t : State) (f g : Fn) (j : Claimant), t.cfg = s.cfg →
      (op t f).cell g j = if g = f ∧ j = k then F g (t.cell g j) else t.cell g j)
    (l : List Fn) (hl : l.Nodup) (g : Fn) (j : Claimant) :
    (l.foldl op s).cell g j = if g ∈ l ∧ j = k then F g (s.cell g j) else s.cell g j := by
  suffices ∀ t : State, t.cfg = s.cfg →
      (l.foldl op t).cell g j = if g ∈ l ∧ j = k then F g (t.cell g j) else t.cell g j from this s rfl
  induction l with
  | nil => simp
  | cons f l ih =>
    intro t ht
    obtain ⟨hf, hl⟩ := List.nodup_cons.mp hl
    rw [List.foldl_cons, ih hl _ ((hcfg t f).trans ht), hop t f g j ht]
    by_cases hg : g = f
    · subst hg
      simp [hf]
    · simp [hg]

theorem Fn.all_nodup : Fn.all.Nodup := by decide

/-- The claim of a cell comes under a policy of its slot's silence (R20). -/
theorem State.orphanCell_cell (s : State) (m : SlotId) (f g : Fn) (j : Claimant) :
    (s.orphanCell m f).cell g j =
      if g = f ∧ j = m.claimant then (s.cell g j).bind (orphanedClaim (s.fnRec g).policy (s.fnRec g).hold)
      else s.cell g j := by
  unfold State.orphanCell
  split
  · split <;> simp_all
  · rw [State.writeCell_cell]
    split <;> simp_all

/-- A claim as its slot returns: unmarked, its hold timer cancelled (R19). -/
def Claim.unmarked (c : Claim) : Claim := { c with orphaned := false, hold := none }

theorem State.unmarkCell_cell (s : State) (m : SlotId) (f g : Fn) (j : Claimant) :
    (s.unmarkCell m f).cell g j =
      if g = f ∧ j = m.claimant then (s.cell g j).map Claim.unmarked else s.cell g j := by
  unfold State.unmarkCell
  split
  · split <;> simp_all
  · rw [State.writeCell_cell]
    split <;> simp_all [Claim.unmarked]

theorem State.clearColumn_cell (s : State) (m : SlotId) (g : Fn) (j : Claimant) :
    (s.clearColumn m).cell g j = if j = m.claimant then none else s.cell g j := by
  unfold State.clearColumn
  rw [foldl_cell (k := m.claimant) (F := fun _ _ => none) (fun t f => by simp)
    (fun t f g j _ => State.writeCell_cell ..) Fn.all Fn.all_nodup]
  simp [Fn.mem_all]

/-- A claim with its hold timer one start further (R21). -/
def Claim.counted (c : Claim) : Claim := { c with hold := c.hold.map (· - 1) }

theorem State.countHolds_cell (s : State) (m : SlotId) (g : Fn) (j : Claimant) :
    (s.countHolds m).cell g j =
      if j = m.claimant ∧ (s.slot m).silencedNow = false then (s.cell g j).map Claim.counted else s.cell g j := by
  unfold State.countHolds
  cases (s.slot m).silencedNow
  · rw [if_neg (by decide), foldl_cell (k := m.claimant) (F := fun _ c => c.map Claim.counted) ?_ ?_ Fn.all Fn.all_nodup]
    · simp [Fn.mem_all]
    · intro t f
      split <;> rfl
    · intro t f g j _
      split
      · rename_i hc
        rw [State.cell_setCell]
        by_cases hj : g = f ∧ j = m.claimant
        · obtain ⟨rfl, rfl⟩ := hj
          simp [hc, Claim.counted]
        · rw [if_neg hj, if_neg fun e => hj ⟨e.1.symm, e.2.symm⟩]
      · rename_i hc
        split
        · rename_i hj
          obtain ⟨rfl, rfl⟩ := hj
          cases hv : t.cell g m.claimant with
          | none => rfl
          | some c =>
            obtain ⟨v, o, _ | n⟩ := c
            · rfl
            · exact absurd hv (hc v o n)
        · rfl
  · simp

/-! ### Slots -/

theorem State.orphanCells_slots (s : State) (m : SlotId) (l : List Fn) :
    (l.foldl (fun u f => u.orphanCell m f) s).slots = s.slots :=
  foldl_keep (·.slots) _ (fun t f => by simp) l s

theorem State.orphanCells_cfg (s : State) (m : SlotId) (l : List Fn) :
    (l.foldl (fun u f => u.orphanCell m f) s).cfg = s.cfg :=
  foldl_keep (·.cfg) _ (fun t f => by simp) l s

theorem State.slot_congr {s t : State} (h : t.slots = s.slots) (m : SlotId) : t.slot m = s.slot m := by
  unfold State.slot
  rw [h]

theorem State.slotRec_congr {s t : State} (h : t.cfg.slots = s.cfg.slots) (m : SlotId) : t.slotRec m = s.slotRec m := by
  unfold State.slotRec
  rw [h]

theorem State.raisedTo_congr {s t : State} {n : SlotId} (hs : t.slot n = s.slot n) (hr : t.slotRec n = s.slotRec n)
    (k : EventKind) : t.raisedTo k n = s.raisedTo k n := by
  unfold State.raisedTo
  rw [hs, hr]

theorem State.cell_congr {s t : State} (h : t.claims = s.claims) (f : Fn) (k : Claimant) : t.cell f k = s.cell f k := by
  unfold State.cell
  rw [h]

/-- The slot read after a slot is set, the index read first. -/
theorem State.setSlot_slot (s : State) (m n : SlotId) (v : Slot) :
    (s.setSlot m v).slot n = if n = m then v else s.slot n := by
  simp only [State.slot_setSlot, eq_comm]

/-- What a silence does to the slots (R20). -/
theorem State.fallSilent_slot (s : State) (m n : SlotId) (early : Bool) :
    (s.fallSilent m early).slot n =
      if n = m then { s.slot m with st := .silent, timer := none, silencedNow := early } else s.raisedTo .master n := by
  unfold State.fallSilent
  dsimp only
  rw [State.raiseOthers_slot]
  have hslot := State.slot_congr (State.orphanCells_slots
    (s.setSlot m { s.slot m with st := .silent, timer := none, silencedNow := early }) m Fn.all) n
  split
  · rename_i hn
    subst hn
    simpa using hslot
  · rename_i hn
    refine State.raisedTo_congr ?_ (State.slotRec_congr (by rw [State.orphanCells_cfg]; rfl) n) _
    simpa [Ne.symm hn] using hslot

/-- What a silence does to the claims (R20). -/
theorem State.fallSilent_cell (s : State) (m : SlotId) (early : Bool) (g : Fn) (j : Claimant) :
    (s.fallSilent m early).cell g j =
      if j = m.claimant then (s.cell g j).bind (orphanedClaim (s.fnRec g).policy (s.fnRec g).hold) else s.cell g j := by
  have hc : (s.fallSilent m early).claims = (Fn.all.foldl (fun u f => u.orphanCell m f)
      (s.setSlot m { s.slot m with st := .silent, timer := none, silencedNow := early })).claims := by
    unfold State.fallSilent
    simp
  rw [State.cell_congr hc, foldl_cell (k := m.claimant)
    (F := fun g c => c.bind (orphanedClaim (s.fnRec g).policy (s.fnRec g).hold)) (fun t f => by simp) ?_ Fn.all
    Fn.all_nodup]
  · simp only [Fn.mem_all, true_and]
    rfl
  · intro t f g j ht
    have hr : t.fnRec g = s.fnRec g := by
      unfold State.fnRec
      rw [ht]
      rfl
    rw [State.orphanCell_cell, hr]

/-- A slot that has been forgotten is UNHEARD, and MASTER is raised to the others if it had been heard (R22). -/
theorem State.forgetSlot_slot (s : State) (m n : SlotId) :
    (s.forgetSlot m).slot n =
      if n = m then { s.slot m with st := .unheard, timer := none }
      else if (s.slot m).st = .unheard then s.slot n else s.raisedTo .master n := by
  unfold State.forgetSlot
  dsimp only
  have hslot (k : SlotId) : (s.clearColumn m).slot k = s.slot k := State.slot_congr (by simp) k
  by_cases hu : (s.slot m).st = .unheard
  · rw [if_pos hu, State.setSlot_slot, hslot, hslot, if_pos hu]
  · rw [if_neg hu, State.raiseOthers_slot, State.setSlot_slot, hslot, hslot]
    by_cases hn : n = m
    · simp [hn]
    · rw [if_neg hn, if_neg hn, if_neg hu]
      refine State.raisedTo_congr ?_ (State.slotRec_congr (by simp) n) _
      rw [State.setSlot_slot, hslot, if_neg hn]

theorem State.forgetSlot_cell (s : State) (m : SlotId) (g : Fn) (j : Claimant) :
    (s.forgetSlot m).cell g j = if j = m.claimant then none else s.cell g j := by
  have hc : (s.forgetSlot m).claims = (s.clearColumn m).claims := by
    unfold State.forgetSlot
    dsimp only
    split <;> simp
  rw [State.cell_congr hc, State.clearColumn_cell]

/-- A slot that an accepted frame acts on is LIVE with its timer at 0, and keeps its pending events (R19). -/
theorem State.hear_slot (s : State) (m n : SlotId) :
    (s.hear m).slot n =
      if n = m then { s.slot m with st := .live, timer := some 0 }
      else if (s.slot m).st = .silent then s.raisedTo .master n else s.slot n := by
  have hslots : (Fn.all.foldl (fun u f => u.unmarkCell m f) s).slots = s.slots :=
    foldl_keep (·.slots) _ (fun t f => by simp) _ s
  have hcfg : (Fn.all.foldl (fun u f => u.unmarkCell m f) s).cfg = s.cfg :=
    foldl_keep (·.cfg) _ (fun t f => by simp) _ s
  unfold State.hear
  dsimp only
  cases hst : (s.slot m).st with
  | unheard => simp [eq_comm (a := m)]
  | live => simp [eq_comm (a := m)]
  | silent =>
    simp only [State.raiseOthers_slot]
    rw [State.setSlot_slot, State.slot_congr hslots, State.slot_congr hslots]
    by_cases hn : n = m
    · simp [hn]
    · rw [if_neg hn, if_neg hn, if_pos trivial]
      refine State.raisedTo_congr ?_ (State.slotRec_congr (by rw [State.setSlot_cfg, hcfg]) n) _
      rw [State.setSlot_slot, State.slot_congr hslots, if_neg hn]

/-- A frame unmarks the claims of a SILENT slot (R19). -/
theorem State.hear_cell (s : State) (m : SlotId) (g : Fn) (j : Claimant) :
    (s.hear m).cell g j =
      if j = m.claimant ∧ (s.slot m).st = .silent then (s.cell g j).map Claim.unmarked else s.cell g j := by
  unfold State.hear
  dsimp only
  cases hst : (s.slot m).st with
  | unheard => simp; rfl
  | live => simp; rfl
  | silent =>
    dsimp only
    rw [State.cell_congr (by simp : _ = (Fn.all.foldl (fun u f => u.unmarkCell m f) s).claims),
      foldl_cell (k := m.claimant) (F := fun _ c => c.map Claim.unmarked) (fun t f => by simp)
        (fun t f g j _ => State.unmarkCell_cell ..) Fn.all Fn.all_nodup]
    simp [Fn.mem_all]

theorem State.countSlot_slot (s : State) (m n : SlotId) :
    (s.countSlot m).slot n =
      if n = m then { s.slot m with
        timer := if (s.slot m).st = .live ∧ s.power.wakeStart = false ∧ (s.slot m).silencedNow = false then
            (s.slot m).timer.map (· + 1) else (s.slot m).timer,
        silencedNow := false }
      else s.slot n := by
  unfold State.countSlot
  have hslot (k : SlotId) : (s.countHolds m).slot k = s.slot k := State.slot_congr (by simp) k
  simp only [State.setSlot_slot, hslot, State.countHolds_frame]

theorem State.countSlot_cell (s : State) (m : SlotId) (g : Fn) (j : Claimant) :
    (s.countSlot m).cell g j =
      if j = m.claimant ∧ (s.slot m).silencedNow = false then (s.cell g j).map Claim.counted else s.cell g j :=
  State.countHolds_cell s m g j

theorem State.freshTimer_slot (s : State) (m n : SlotId) :
    (s.freshTimer m).slot n =
      if n = m then { s.slot m with
        timer := if (s.slot m).st = .live then some 0 else (s.slot m).timer, silencedNow := false }
      else s.slot n := by
  unfold State.freshTimer
  rw [State.setSlot_slot]

/-! ### A FUNCTION record applied -/

/-- The record is replaced and the function's orphaned claims come under it; the function is not re-evaluated yet (R4).
-/
def State.repolicy (s : State) (x : Fn × FunctionRec) : State :=
  allClaimants.foldl (fun u k => u.setCell x.1 k ((u.cell x.1 k).bind (repolicied (s.fnRec x.1) x.2)))
    (s.setCfg { s.cfg with functions := s.cfg.functions.set x.1.idx x.2 })

theorem State.applyFunction_eq (s : State) (x : Fn × FunctionRec) :
    s.applyFunction x = (s.repolicy x).reevaluate x.1 := rfl

/-- It reaches the FUNCTION records and the claims alone. -/
theorem State.repolicy_frame (s : State) (x : Fn × FunctionRec) :
    s.repolicy x = { s with
      cfg := { s.cfg with functions := s.cfg.functions.set x.1.idx x.2 }, claims := (s.repolicy x).claims } := rfl

theorem State.repolicy_cell (s : State) (x : Fn × FunctionRec) (g : Fn) (k : Claimant) :
    (s.repolicy x).cell g k =
      if g = x.1 then (s.cell g k).bind (repolicied (s.fnRec g) x.2) else s.cell g k := by
  have hset (h : Fn) (j : Claimant) :
      (s.setCfg { s.cfg with functions := s.cfg.functions.set x.1.idx x.2 }).cell h j = s.cell h j := rfl
  unfold State.repolicy allClaimants
  by_cases hg : g = x.1
  · subst hg
    cases k <;> simp [hset]
  · simp [hset, Ne.symm hg, hg]

theorem State.repolicy_fnRec (s : State) (x : Fn × FunctionRec) (g : Fn) :
    (s.repolicy x).fnRec g = if g = x.1 then x.2 else s.fnRec g := by
  have hi : x.1.idx.val = g.idx.val ↔ g = x.1 := by rw [← Fin.ext_iff, Fn.idx_inj, eq_comm]
  unfold State.fnRec
  rw [State.repolicy_frame]
  simp [Vector.getElem_set, hi]

/-! ### A SLOT record applied -/

/-- The record is replaced and the kinds its mask lacks leave the pending set (R22, R181). -/
def State.setRecord (s : State) (x : SlotId × SlotRec) : State :=
  (s.setCfg { s.cfg with slots := s.cfg.slots.set x.1 x.2 }).setSlot x.1
    { s.slot x.1 with pending := (s.slot x.1).pending &&& x.2.mask }

theorem State.setRecord_slot (s : State) (x : SlotId × SlotRec) (n : SlotId) :
    (s.setRecord x).slot n =
      if n = x.1 then { s.slot x.1 with pending := (s.slot x.1).pending &&& x.2.mask } else s.slot n :=
  State.setSlot_slot ..

theorem State.setRecord_slotRec (s : State) (x : SlotId × SlotRec) (n : SlotId) :
    (s.setRecord x).slotRec n = if n = x.1 then x.2 else s.slotRec n := by
  change (s.cfg.slots.set x.1 x.2).get n = if n = x.1 then x.2 else s.cfg.slots.get n
  simp only [PerSlot_get_set, eq_comm]

/-- The slot, whose timer stands at the new timeout, falls silent (R20). -/
def State.slotFalls (s : State) (x : SlotId × SlotRec) : Prop :=
  (s.slot x.1).st = .live ∧ x.2.timeout ≤ (s.slot x.1).timer.getD 0

theorem State.applySlot_moves {s : State} {x : SlotId × SlotRec} (hm : s.slotMoves x.1 x.2 = true) :
    s.applySlot x = (s.setRecord x).forgetSlot x.1 := by
  unfold State.applySlot
  dsimp only
  rw [if_pos hm]
  rfl

theorem State.applySlot_falls {s : State} {x : SlotId × SlotRec} (hm : s.slotMoves x.1 x.2 = false)
    (hf : s.slotFalls x) : s.applySlot x = (s.setRecord x).fallSilent x.1 false := by
  have hf' : ((s.setRecord x).slot x.1).st = .live ∧ x.2.timeout ≤ ((s.setRecord x).slot x.1).timer.getD 0 := by
    rw [State.setRecord_slot, if_pos rfl]
    exact hf
  unfold State.applySlot
  dsimp only
  rw [if_neg (by simp [hm])]
  exact if_pos hf'

theorem State.applySlot_stays {s : State} {x : SlotId × SlotRec} (hm : s.slotMoves x.1 x.2 = false)
    (hf : ¬ s.slotFalls x) : s.applySlot x = s.setRecord x := by
  have hf' : ¬ (((s.setRecord x).slot x.1).st = .live ∧ x.2.timeout ≤ ((s.setRecord x).slot x.1).timer.getD 0) := by
    rw [State.setRecord_slot, if_pos rfl]
    exact hf
  unfold State.applySlot
  dsimp only
  rw [if_neg (by simp [hm])]
  exact if_neg hf'

end Sys2Proof.Machine
end

section
/-! SUPPORT. What an evaluation reads and gives (R12 to R15), and the invariants of the claim table. -/

namespace Sys2Proof.Machine
open Sys2Proof

/-! ### What an evaluation reads -/

/-- An evaluation reads the values of the function's claims, its record, filtered IGN and the shed level. -/
theorem State.evaluated_of_values {s t : State} {f : Fn}
    (hv : ∀ k : Claimant, (t.cell f k).map Claim.value = (s.cell f k).map Claim.value)
    (hr : t.fnRec f = s.fnRec f) (hi : (t.input .ign).filtered = (s.input .ign).filtered)
    (hs : t.sup.shed = s.sup.shed) : t.evaluated f = s.evaluated f := by
  simp [State.evaluated, State.gatedOff, State.combined, State.presentValues, State.filtered, hv, hr, hi, hs]

/-- A function whose gate is not IGN does not read filtered IGN. -/
theorem State.evaluated_of_open {s t : State} {f : Fn} (hc : t.claims = s.claims) (hr : t.fnRec f = s.fnRec f)
    (hg : (s.fnRec f).gate ≠ .ign) (hs : t.sup.shed = s.sup.shed) : t.evaluated f = s.evaluated f := by
  simp [State.evaluated, State.gatedOff, State.combined, State.presentValues, State.cell_congr hc, hr, hg, hs]

theorem State.resultsEvaluated_of_values {s t : State} (hs : s.ResultsEvaluated)
    (hv : ∀ (f : Fn) (k : Claimant), (t.cell f k).map Claim.value = (s.cell f k).map Claim.value)
    (hr : t.results = s.results) (hf : t.cfg.functions = s.cfg.functions)
    (hi : (t.input .ign).filtered = (s.input .ign).filtered) (hsh : t.sup.shed = s.sup.shed) : t.ResultsEvaluated := by
  intro f
  rw [State.evaluated_of_values (hv f) (by unfold State.fnRec; rw [hf]) hi hsh]
  unfold State.result
  rw [hr]
  exact hs f

/-! ### What an evaluation gives -/

theorem State.mem_presentValues {s : State} {f : Fn} {l : List Claimant} {n : Nat} :
    n ∈ s.presentValues f l ↔ ∃ k ∈ l, ∃ c : Claim, s.cell f k = some c ∧ c.value = n := by
  simp [State.presentValues]

theorem mem_allClaimants (k : Claimant) : k ∈ allClaimants := by cases k <;> decide

/-- The ignition gate or the shed level holds a function off (R14, R15). -/
def State.HeldOff (s : State) (f : Fn) : Prop :=
  (s.fnRec f).gate = .ign ∧ (s.input .ign).filtered ≠ some true ∨
    ((s.fnRec f).rank = .r1 ∧ 1 ≤ s.sup.shed ∨ (s.fnRec f).rank = .r2 ∧ 2 ≤ s.sup.shed ∨
      (s.fnRec f).rank = .r3 ∧ 3 ≤ s.sup.shed)

theorem State.gatedOff_iff (s : State) (f : Fn) :
    s.gatedOff f = true ↔ (s.fnRec f).gate = .ign ∧ (s.input .ign).filtered ≠ some true := by
  simp [State.gatedOff, State.filtered]

theorem ShedRank.suppressedAt_iff (r : ShedRank) (n : Nat) :
    r.suppressedAt n = true ↔ r = .r1 ∧ 1 ≤ n ∨ r = .r2 ∧ 2 ≤ n ∨ r = .r3 ∧ 3 ≤ n := by
  cases r <;> simp [ShedRank.suppressedAt]

theorem State.evaluated_of_heldOff {s : State} {f : Fn} (h : s.HeldOff f) : s.evaluated f = 0 := by
  unfold State.evaluated
  rcases h with hg | hs
  · rw [if_pos ((s.gatedOff_iff f).mpr hg)]
  · rw [if_pos ((ShedRank.suppressedAt_iff _ _).mpr hs), ite_self]

theorem State.evaluated_of_not_heldOff {s : State} {f : Fn} (h : ¬ s.HeldOff f) : s.evaluated f = s.combined f := by
  unfold State.evaluated
  rw [if_neg fun hg => h (.inl ((s.gatedOff_iff f).mp hg)),
    if_neg fun hs => h (.inr ((ShedRank.suppressedAt_iff _ _).mp hs))]

/-- ANY on an on/off function: on exactly where a claim is 1 (R13). -/
theorem State.combined_any {s : State} {f : Fn} (hc : (s.fnRec f).combine = .any) (hp : f ≠ .panel) (hf : f ≠ .fan) :
    s.combined f = if 1 ∈ s.presentValues f allClaimants then 1 else 0 := by
  simp [State.combined, hc, Fn.isOnOff, hp, hf]

/-- ANY on PANEL and FAN: the first nonzero value in rank order (R13). -/
theorem State.combined_anyLevel {s : State} {f : Fn} (hc : (s.fnRec f).combine = .any) (hf : f = .panel ∨ f = .fan) :
    s.combined f = ((s.presentValues f (s.fnRec f).order).find? fun v => v != 0).getD 0 := by
  rcases hf with rfl | rfl <;> simp [State.combined, hc, Fn.isOnOff]

/-- HIGHEST: the largest value (R13). -/
theorem State.combined_highest {s : State} {f : Fn} (hc : (s.fnRec f).combine = .highest) :
    s.combined f = (s.presentValues f allClaimants).max?.getD 0 := by
  simp [State.combined, hc, List.foldl_max]

/-- PRIORITY: the first value in rank order (R13). -/
theorem State.combined_priority {s : State} {f : Fn} (hc : (s.fnRec f).combine = .priority) :
    s.combined f = (s.presentValues f (s.fnRec f).order).head?.getD 0 := by
  simp [State.combined, hc]

/-- The combine step gives 0 or the value of a claim (R13). -/
theorem State.combined_zero_or_claim (s : State) (f : Fn) :
    s.combined f = 0 ∨ ∃ l : List Claimant, s.combined f ∈ s.presentValues f l := by
  cases hc : (s.fnRec f).combine with
  | any =>
    by_cases hf : f = .panel ∨ f = .fan
    · rw [State.combined_anyLevel hc hf]
      cases hv : (s.presentValues f (s.fnRec f).order).find? fun v => v != 0 with
      | none => exact .inl rfl
      | some v => exact .inr ⟨_, List.mem_of_find?_eq_some hv⟩
    · push Not at hf
      rw [State.combined_any hc hf.1 hf.2]
      split
      · exact .inr ⟨_, ‹_›⟩
      · exact .inl rfl
  | highest =>
    rw [State.combined_highest hc]
    cases hv : (s.presentValues f allClaimants).max? with
    | none => exact .inl rfl
    | some v => exact .inr ⟨_, List.max?_mem hv⟩
  | priority =>
    rw [State.combined_priority hc]
    cases hv : (s.presentValues f (s.fnRec f).order).head? with
    | none => exact .inl rfl
    | some v => exact .inr ⟨_, List.mem_of_head? hv⟩

/-- A result is 0 or the value of a claim (R12 to R15). -/
theorem State.evaluated_zero_or_claim (s : State) (f : Fn) :
    s.evaluated f = 0 ∨ ∃ (k : Claimant) (c : Claim), s.cell f k = some c ∧ c.value = s.evaluated f := by
  by_cases ho : s.HeldOff f
  · exact .inl (State.evaluated_of_heldOff ho)
  · rw [State.evaluated_of_not_heldOff ho]
    refine (s.combined_zero_or_claim f).imp_right fun ⟨l, hl⟩ => ?_
    obtain ⟨k, -, c, hc⟩ := State.mem_presentValues.mp hl
    exact ⟨k, c, hc⟩

/-- With no claim a function is off. -/
theorem State.evaluated_of_empty {s : State} {f : Fn} (h : ∀ k : Claimant, s.cell f k = none) : s.evaluated f = 0 :=
  (s.evaluated_zero_or_claim f).resolve_right fun ⟨k, c, hc, _⟩ => by simp [h k] at hc

/-! ### A part with every block reset -/

theorem State.fresh_cell (q : List Instr) (cfg : Working) (st : Store) (w : Power) (ev : EventSet) (f : Fn)
    (k : Claimant) : (State.fresh q cfg st w ev).cell f k = none := by
  cases k <;> simp [State.cell, State.fresh, PerClaimant.get]

theorem State.fresh_result (q : List Instr) (cfg : Working) (st : Store) (w : Power) (ev : EventSet) (f : Fn) :
    (State.fresh q cfg st w ev).result f = 0 := by
  simp [State.result, State.fresh]

/-! ### Properties that no slot reaches -/

/-- A property that no slot and no SLOT record reaches, and that a write of a cell keeps where the new claim has the
value of the old. -/
structure SlotFree (P : State → Prop) : Prop where
  slots : Free_slots P
  records : ∀ (s : State) (v : PerSlot SlotRec), P (s.setCfg { s.cfg with slots := v }) = P s
  write : ∀ (s : State) (f : Fn) (k : Claimant) (v : Option Claim),
    (∀ c : Claim, v = some c → ∃ d : Claim, s.cell f k = some d ∧ c.value = d.value) → P s → P (s.writeCell f k v)

theorem orphanedClaim_value {p : OrphanPolicy} {n : Nat} {c d : Claim} (h : orphanedClaim p n c = some d) :
    d.value = c.value := by
  unfold orphanedClaim at h
  split at h
  · cases h
    rfl
  · cases h
  · split at h
    · cases h
    · cases h
      rfl

namespace SlotFree

variable {P : State → Prop} (h : SlotFree P) {s : State}
include h

theorem setSlot (hs : P s) (m : SlotId) (v : Slot) : P (s.setSlot m v) := (s.setSlot_keep P h.slots m v).mpr hs

theorem raiseOthers (hs : P s) (m : SlotId) : P (s.raiseOthers m) := (s.raiseOthers_keep P h.slots m).mpr hs

theorem orphanCell (hs : P s) (m : SlotId) (f : Fn) : P (s.orphanCell m f) := by
  unfold State.orphanCell
  split
  · exact hs
  · rename_i d hd
    exact h.write s f _ _ (fun c hc => ⟨d, hd, orphanedClaim_value hc⟩) hs

theorem unmarkCell (hs : P s) (m : SlotId) (f : Fn) : P (s.unmarkCell m f) := by
  unfold State.unmarkCell
  split
  · exact hs
  · rename_i d hd
    exact h.write s f _ _ (fun c hc => ⟨d, hd, by cases hc; rfl⟩) hs

theorem fallSilent (hs : P s) (m : SlotId) (early : Bool) : P (s.fallSilent m early) :=
  h.raiseOthers (ClaimInvariant.foldl (h.setSlot hs m _) fun _ f ht => h.orphanCell ht m f) m

theorem hear (hs : P s) (m : SlotId) : P (s.hear m) := by
  unfold State.hear
  dsimp only
  split
  · exact h.setSlot hs m _
  · exact h.setSlot hs m _
  · exact h.raiseOthers (h.setSlot (ClaimInvariant.foldl hs fun _ f ht => h.unmarkCell ht m f) m _) m

theorem clearColumn (hs : P s) (m : SlotId) : P (s.clearColumn m) := by
  unfold State.clearColumn
  exact ClaimInvariant.foldl hs fun t f ht => h.write t f _ _ (fun _ hc => nomatch hc) ht

theorem forgetSlot (hs : P s) (m : SlotId) : P (s.forgetSlot m) := by
  have ht := h.setSlot (h.clearColumn hs m) m { (s.clearColumn m).slot m with st := .unheard, timer := none }
  unfold State.forgetSlot
  dsimp only
  split
  · exact ht
  · exact h.raiseOthers ht m

theorem setRecord (hs : P s) (x : SlotId × SlotRec) : P (s.setRecord x) := h.setSlot ((h.records s _).mpr hs) x.1 _

theorem applySlot (hs : P s) (x : SlotId × SlotRec) : P (s.applySlot x) := by
  have hu := h.setRecord hs x
  cases hm : s.slotMoves x.1 x.2
  · by_cases hf : s.slotFalls x
    · rw [State.applySlot_falls hm hf]
      exact h.fallSilent hu x.1 false
    · rwa [State.applySlot_stays hm hf]
  · rw [State.applySlot_moves hm]
    exact h.forgetSlot hu x.1

end SlotFree

/-! ### Results stay evaluated -/

theorem State.fresh_resultsEvaluated (q : List Instr) (cfg : Working) (st : Store) (w : Power) (ev : EventSet) :
    (State.fresh q cfg st w ev).ResultsEvaluated := fun f => by
  rw [State.fresh_result, State.evaluated_of_empty (State.fresh_cell q cfg st w ev f)]

/-- After a re-evaluation of every function that a change can have reached, every result is evaluated. -/
theorem State.reevaluateAll_resultsEvaluated {s : State} {fs : List Fn}
    (h : ∀ f : Fn, f ∉ fs → s.result f = s.evaluated f) : (s.reevaluateAll fs).ResultsEvaluated := fun f => by
  have he : (s.reevaluateAll fs).evaluated f = s.evaluated f := by
    apply State.evaluated_congr <;> simp
  rw [State.reevaluateAll_result, he]
  split
  · rfl
  · exact h f ‹_›

theorem State.resultsEvaluated_slotFree : SlotFree State.ResultsEvaluated where
  slots _ _ := rfl
  records _ _ := rfl
  write _ f k v _ hs := State.writeCell_evaluated hs f k v

theorem State.applyFunction_resultsEvaluated {s : State} (hs : s.ResultsEvaluated) (x : Fn × FunctionRec) :
    (s.applyFunction x).ResultsEvaluated := by
  have hc := State.repolicy_cell s x
  have hr := State.repolicy_fnRec s x
  intro g
  rw [State.applyFunction_eq, State.reevaluate_result, State.reevaluate_evaluated]
  split
  · rename_i hg
    rw [hg]
  · rename_i hg
    have he : (s.repolicy x).evaluated g = s.evaluated g :=
      State.evaluated_of_values (fun k => by rw [hc, if_neg hg]) (by rw [hr, if_neg hg]) rfl rfl
    exact (hs g).trans he.symm

theorem State.countSlot_resultsEvaluated {s : State} (hs : s.ResultsEvaluated) (m : SlotId) :
    (s.countSlot m).ResultsEvaluated := by
  refine State.resultsEvaluated_of_values hs (fun f k => ?_) (by simp) (by simp) ?_ (by simp)
  · rw [State.countSlot_cell]
    split
    · cases s.cell f k <;> rfl
    · rfl
  · unfold State.input
    simp

theorem State.ignitionChanged_resultsEvaluated {s : State} (hs : s.ResultsEvaluated) (v : Input) :
    ((s.setInput .ign v).ignitionChanged).ResultsEvaluated := by
  refine State.reevaluateAll_resultsEvaluated fun f hf => ?_
  have hg : (s.fnRec f).gate ≠ .ign := fun hg =>
    hf (List.mem_filter.mpr ⟨Fn.mem_all f, (beq_iff_eq ..).mpr hg⟩)
  have he : (s.setInput .ign v).evaluated f = s.evaluated f := State.evaluated_of_open rfl rfl hg rfl
  exact (hs f).trans he.symm

theorem State.resultsEvaluated_invariant : ClaimInvariant State.ResultsEvaluated where
  pending _ _ := rfl
  power _ _ := rfl
  clock _ _ := rfl
  store _ _ := rfl
  storeWrite _ _ := rfl
  ports _ _ := rfl
  chans _ _ := rfl
  queue _ _ := rfl
  window _ _ := rfl
  gates _ _ := rfl
  flash _ _ := rfl
  seq _ _ := rfl
  gauges _ _ := rfl
  fan _ _ := rfl
  sup _ _ hv hs := State.resultsEvaluated_of_values hs (fun _ _ => rfl) rfl rfl rfl hv
  shed _ _ _ := State.reevaluateAll_resultsEvaluated fun f hf => absurd (Fn.mem_all f) hf
  cfg _ _ hv _ hs := State.resultsEvaluated_of_values hs (fun _ _ => rfl) rfl hv rfl rfl
  newSlot _ x hs := State.resultsEvaluated_slotFree.applySlot hs x
  newFunction _ x hs := State.applyFunction_resultsEvaluated hs x
  raiseTo s k m hs := (s.raiseTo_keep _ State.resultsEvaluated_slotFree.slots k m).mpr hs
  clearEvents _ _ _ hs := hs
  hear _ m hs := State.resultsEvaluated_slotFree.hear hs m
  silence _ m early _ hs := State.resultsEvaluated_slotFree.fallSilent hs m early
  countSlot _ m hs := State.countSlot_resultsEvaluated hs m
  freshTimer _ _ hs := hs
  claim _ _ _ _ _ hs := State.writeCell_evaluated hs _ _ _
  withdraw _ _ _ hs := State.writeCell_evaluated hs _ _ _
  sample s i v hv hs := State.resultsEvaluated_of_values hs (fun _ _ => rfl) rfl rfl
    (by rw [State.input_setInput]; split <;> simp_all) rfl
  ign _ v hs := State.ignitionChanged_resultsEvaluated hs v
  brake s v _ _ hs := State.writeCell_evaluated (s := s.setInput .brake v)
    (State.resultsEvaluated_of_values hs (fun _ _ => rfl) rfl rfl rfl rfl) _ _ _
  hazard s v _ _ hs := State.writeCell_evaluated (s := s.setInput .hazard v)
    (State.resultsEvaluated_of_values hs (fun _ _ => rfl) rfl rfl rfl rfl) _ _ _
  start _ _ hs := State.resultsEvaluated_of_values hs (fun _ _ => rfl) rfl rfl rfl rfl
  begin _ _ := State.fresh_resultsEvaluated _ _ _ _ _
  brownOut _ := State.fresh_resultsEvaluated _ _ _ _ _

end Sys2Proof.Machine
end

section
/-! SUPPORT. The three invariants of the claim table: values of their kind (R1, R6), L's claims with their inputs (R10),
and orphan marks and hold timers with their slot (R18 to R21). -/

namespace Sys2Proof.Machine
open Sys2Proof

/-! ### Claims and results stay values of their kind -/

/-- A result is a value of its function's kind where the claims are (R1, R6). -/
theorem State.evaluated_le_fnTop {s : State} {f : Fn}
    (h : ∀ (k : Claimant) (c : Claim), s.cell f k = some c → c.value ≤ fnTop f) : s.evaluated f ≤ fnTop f := by
  rcases s.evaluated_zero_or_claim f with h0 | ⟨k, c, hc, hv⟩
  · omega
  · rw [← hv]
    exact h k c hc

theorem State.reevaluate_valuesOfKind {s : State} (hs : s.ValuesOfKind) (f : Fn) : (s.reevaluate f).ValuesOfKind := by
  refine ⟨fun g k c hc => hs.1 g k c (by rwa [State.reevaluate_cell] at hc), fun g => ?_⟩
  rw [State.reevaluate_result]
  split
  · rename_i hg
    rw [hg]
    exact State.evaluated_le_fnTop (hs.1 f)
  · exact hs.2 g

theorem State.reevaluateAll_valuesOfKind {s : State} (hs : s.ValuesOfKind) (fs : List Fn) :
    (s.reevaluateAll fs).ValuesOfKind :=
  ClaimInvariant.foldl (P := State.ValuesOfKind) hs fun _ f ht => State.reevaluate_valuesOfKind ht f

theorem State.writeCell_valuesOfKind {s : State} (hs : s.ValuesOfKind) (f : Fn) (k : Claimant) {v : Option Claim}
    (hv : ∀ c : Claim, v = some c → c.value ≤ fnTop f) : (s.writeCell f k v).ValuesOfKind := by
  unfold State.writeCell
  split
  · exact hs
  · refine State.reevaluate_valuesOfKind (s := s.setCell f k v) ⟨fun g j c hc => ?_, hs.2⟩ f
    rw [State.cell_setCell] at hc
    split at hc
    · rename_i h
      rw [← h.1]
      exact hv c hc
    · exact hs.1 g j c hc

/-- Each value of the new claims is one of the old. -/
theorem State.valuesOfKind_of_cells {s t : State} (hs : s.ValuesOfKind) (hr : t.results = s.results)
    (hc : ∀ (f : Fn) (k : Claimant) (c : Claim), t.cell f k = some c → ∃ d : Claim, s.cell f k = some d ∧ c.value = d.value) :
    t.ValuesOfKind := by
  refine ⟨fun f k c h => ?_, fun f => ?_⟩
  · obtain ⟨d, hd, hv⟩ := hc f k c h
    rw [hv]
    exact hs.1 f k d hd
  · unfold State.result
    rw [hr]
    exact hs.2 f

theorem State.fresh_valuesOfKind (q : List Instr) (cfg : Working) (st : Store) (w : Power) (ev : EventSet) :
    (State.fresh q cfg st w ev).ValuesOfKind :=
  ⟨fun f k c hc => by simp [State.fresh_cell] at hc, fun f => by simp [State.fresh_result]⟩

theorem State.valuesOfKind_slotFree : SlotFree State.ValuesOfKind where
  slots _ _ := rfl
  records _ _ := rfl
  write s f k v hv hs := State.writeCell_valuesOfKind hs f k fun c hc => by
    obtain ⟨d, hd, he⟩ := hv c hc
    rw [he]
    exact hs.1 f k d hd

theorem repolicied_value {old new : FunctionRec} {c d : Claim} (h : repolicied old new c = some d) :
    d.value = c.value := by
  unfold repolicied at h
  split at h
  · cases h
    rfl
  · split at h
    · split at h
      · cases h
      · cases h
        rfl
    · exact orphanedClaim_value h

theorem State.applyFunction_valuesOfKind {s : State} (hs : s.ValuesOfKind) (x : Fn × FunctionRec) :
    (s.applyFunction x).ValuesOfKind := by
  rw [State.applyFunction_eq]
  refine State.reevaluate_valuesOfKind (s := s.repolicy x) (State.valuesOfKind_of_cells hs rfl fun g k d hd => ?_) x.1
  rw [State.repolicy_cell] at hd
  split at hd
  · obtain ⟨c, hc, hr⟩ := Option.bind_eq_some_iff.mp hd
    exact ⟨c, hc, repolicied_value hr⟩
  · exact ⟨d, hd, rfl⟩

theorem State.countSlot_valuesOfKind {s : State} (hs : s.ValuesOfKind) (m : SlotId) : (s.countSlot m).ValuesOfKind := by
  refine State.valuesOfKind_of_cells hs (by simp) fun g k d hd => ?_
  rw [State.countSlot_cell] at hd
  split at hd
  · obtain ⟨c, hc, rfl⟩ := Option.map_eq_some_iff.mp hd
    exact ⟨c, hc, rfl⟩
  · exact ⟨d, hd, rfl⟩

theorem State.localClaim_valuesOfKind {s : State} (hs : s.ValuesOfKind) {f : Fn} (hf : 1 ≤ fnTop f) (l : Bool) :
    (s.localClaim f l).ValuesOfKind :=
  State.writeCell_valuesOfKind hs f .l fun c hc => by
    cases l
    · cases hc
    · cases hc
      exact hf

theorem State.valuesOfKind_invariant : ClaimInvariant State.ValuesOfKind where
  pending _ _ := rfl
  power _ _ := rfl
  clock _ _ := rfl
  store _ _ := rfl
  storeWrite _ _ := rfl
  ports _ _ := rfl
  chans _ _ := rfl
  queue _ _ := rfl
  window _ _ := rfl
  gates _ _ := rfl
  flash _ _ := rfl
  seq _ _ := rfl
  gauges _ _ := rfl
  fan _ _ := rfl
  sup _ _ _ hs := hs
  shed s v hs := State.reevaluateAll_valuesOfKind
    (((s.setSup v).raise_keep _ State.valuesOfKind_slotFree.slots .shed).mpr hs) Fn.all
  cfg _ _ _ _ hs := hs
  newSlot _ x hs := State.valuesOfKind_slotFree.applySlot hs x
  newFunction _ x hs := State.applyFunction_valuesOfKind hs x
  raiseTo s k m hs := (s.raiseTo_keep _ State.valuesOfKind_slotFree.slots k m).mpr hs
  clearEvents _ _ _ hs := hs
  hear _ m hs := State.valuesOfKind_slotFree.hear hs m
  silence _ m early _ hs := State.valuesOfKind_slotFree.fallSilent hs m early
  countSlot _ m hs := State.countSlot_valuesOfKind hs m
  freshTimer _ _ hs := hs
  claim _ m f v hv hs := State.writeCell_valuesOfKind hs f m.claimant fun c hc => by cases hc; exact hv
  withdraw _ m f hs := State.writeCell_valuesOfKind hs f m.claimant fun c hc => nomatch hc
  sample _ _ _ _ hs := hs
  ign s v hs := State.reevaluateAll_valuesOfKind (s := s.setInput .ign v) hs _
  brake s v l _ hs := State.localClaim_valuesOfKind (s := s.setInput .brake v) hs (by decide) l
  hazard s v l _ hs := State.localClaim_valuesOfKind (s := s.setInput .hazard v) hs (by decide) l
  start _ _ hs := hs
  begin _ _ := State.fresh_valuesOfKind _ _ _ _ _
  brownOut _ := State.fresh_valuesOfKind _ _ _ _ _

/-! ### L's claims follow the inputs -/

/-- The claim of 1 that L holds on STOP or HAZARD (R10). -/
def localHeld (b : Bool) : Option Claim := if b then some { value := 1, orphaned := false, hold := none } else none

theorem State.localClaimsFollowInputs_iff (s : State) :
    s.LocalClaimsFollowInputs ↔ ∀ f : Fn, s.cell f .l = localHeld
      (f == .stop && s.filtered .brake || f == .hazard && s.filtered .hazard) := by
  simp [State.LocalClaimsFollowInputs, localHeld, State.filtered]

theorem State.localClaimsFollowInputs_of_eq {s t : State} (hs : s.LocalClaimsFollowInputs)
    (hc : ∀ f : Fn, t.cell f .l = s.cell f .l) (hb : (t.input .brake).filtered = (s.input .brake).filtered)
    (hh : (t.input .hazard).filtered = (s.input .hazard).filtered) : t.LocalClaimsFollowInputs := by
  intro f
  rw [hc, hs f, hb, hh]

/-- A cell of L is written in step with its input. -/
theorem State.localClaim_follows {s : State} (f : Fn) (l : Bool)
    (hf : localHeld (f == .stop && s.filtered .brake || f == .hazard && s.filtered .hazard) = localHeld l)
    (hs : ∀ g : Fn, g ≠ f → s.cell g .l = localHeld
      (g == .stop && s.filtered .brake || g == .hazard && s.filtered .hazard)) :
    (s.localClaim f l).LocalClaimsFollowInputs := by
  have hi (i : InputId) : (s.localClaim f l).filtered i = s.filtered i := by
    simp [State.filtered, State.input]
  rw [State.localClaimsFollowInputs_iff]
  intro g
  rw [hi, hi]
  unfold State.localClaim
  rw [State.writeCell_cell]
  by_cases hg : g = f
  · subst hg
    rw [hf, if_pos ⟨rfl, rfl⟩]
    rfl
  · rw [if_neg fun e => hg e.1, hs g hg]

theorem State.fresh_localClaims (q : List Instr) (cfg : Working) (st : Store) (w : Power) (ev : EventSet) :
    (State.fresh q cfg st w ev).LocalClaimsFollowInputs := by
  rw [State.localClaimsFollowInputs_iff]
  intro f
  have hi (i : InputId) : (State.fresh q cfg st w ev).filtered i = false := by cases i <;> rfl
  simp [State.fresh_cell, hi, localHeld]

theorem SlotId.claimant_ne_l (m : SlotId) : m.claimant ≠ .l := by cases m <;> decide

theorem State.writeCell_localClaims {s : State} (hs : s.LocalClaimsFollowInputs) (m : SlotId) (f : Fn) (v : Option Claim) :
    (s.writeCell f m.claimant v).LocalClaimsFollowInputs := by
  refine State.localClaimsFollowInputs_of_eq hs (fun g => ?_) ?_ ?_
  · rw [State.writeCell_cell, if_neg fun e => SlotId.claimant_ne_l m e.2.symm]
  · simp [State.input]
  · simp [State.input]

/-- L's cells are no master's: what reaches a master's column alone leaves them. -/
theorem State.localClaims_of_column {s t : State} (hs : s.LocalClaimsFollowInputs) (m : SlotId)
    (hc : ∀ (f : Fn) (j : Claimant), j ≠ m.claimant → t.cell f j = s.cell f j) (hi : t.inputs = s.inputs) :
    t.LocalClaimsFollowInputs := by
  refine State.localClaimsFollowInputs_of_eq hs (fun f => hc f .l (SlotId.claimant_ne_l m).symm) ?_ ?_ <;>
    (unfold State.input; rw [hi])

theorem State.applySlot_cell_other (s : State) (x : SlotId × SlotRec) (g : Fn) (j : Claimant)
    (hj : j ≠ x.1.claimant) : (s.applySlot x).cell g j = s.cell g j := by
  cases hm : s.slotMoves x.1 x.2
  · by_cases hf : s.slotFalls x
    · rw [State.applySlot_falls hm hf, State.fallSilent_cell, if_neg hj]
      rfl
    · rw [State.applySlot_stays hm hf]
      rfl
  · rw [State.applySlot_moves hm, State.forgetSlot_cell, if_neg hj]
    rfl

/-- L's claims are not orphaned, so that no FUNCTION record touches them (R4). -/
theorem State.applyFunction_localClaims {s : State} (hs : s.LocalClaimsFollowInputs) (x : Fn × FunctionRec) :
    (s.applyFunction x).LocalClaimsFollowInputs := by
  refine State.localClaimsFollowInputs_of_eq hs (fun f => ?_) (by simp [State.input]) (by simp [State.input])
  rw [State.applyFunction_eq, State.reevaluate_cell, State.repolicy_cell]
  split
  · rw [(State.localClaimsFollowInputs_iff s).mp hs f]
    unfold localHeld
    split <;> rfl
  · rfl

theorem State.localClaims_invariant : ClaimInvariant State.LocalClaimsFollowInputs where
  pending _ _ := rfl
  power _ _ := rfl
  clock _ _ := rfl
  store _ _ := rfl
  storeWrite _ _ := rfl
  ports _ _ := rfl
  chans _ _ := rfl
  queue _ _ := rfl
  window _ _ := rfl
  gates _ _ := rfl
  flash _ _ := rfl
  seq _ _ := rfl
  gauges _ _ := rfl
  fan _ _ := rfl
  sup _ _ _ hs := hs
  shed s v hs := State.localClaimsFollowInputs_of_eq hs (fun f => State.cell_congr (by simp) f .l)
    (by simp [State.input]) (by simp [State.input])
  cfg _ _ _ _ hs := hs
  newSlot s x hs := State.localClaims_of_column hs x.1 (s.applySlot_cell_other x) (by simp)
  newFunction _ x hs := State.applyFunction_localClaims hs x
  raiseTo s k m hs := (s.raiseTo_keep State.LocalClaimsFollowInputs (fun _ _ => rfl) k m).mpr hs
  clearEvents _ _ _ hs := hs
  hear s m hs := State.localClaims_of_column hs m
    (fun f j hj => by rw [State.hear_cell, if_neg fun e => hj e.1]) (by simp)
  silence s m early _ hs := State.localClaims_of_column hs m
    (fun f j hj => by rw [State.fallSilent_cell, if_neg hj]) (by simp)
  countSlot s m hs := State.localClaims_of_column hs m
    (fun f j hj => by rw [State.countSlot_cell, if_neg fun e => hj e.1]) (by simp)
  freshTimer _ _ hs := hs
  claim _ m f _ _ hs := State.writeCell_localClaims hs m f _
  withdraw _ m f hs := State.writeCell_localClaims hs m f _
  sample s i v hv hs := State.localClaimsFollowInputs_of_eq hs (fun _ => rfl)
    (by rw [State.input_setInput]; split <;> simp_all) (by rw [State.input_setInput]; split <;> simp_all)
  ign s v hs := State.localClaimsFollowInputs_of_eq hs (fun f => State.cell_congr (by simp) f .l)
    (by simp [State.input, PerInput.get, PerInput.set]) (by simp [State.input, PerInput.get, PerInput.set])
  brake s v l hv hs := by
    rw [State.localClaimsFollowInputs_iff] at hs
    refine State.localClaim_follows .stop l ?_ fun g hg => ?_
    · cases l <;> simp [State.filtered, hv, show (Fn.stop == Fn.hazard) = false from rfl]
    · refine (hs g).trans ?_
      simp [State.filtered, beq_false_of_ne hg]
  hazard s v l hv hs := by
    rw [State.localClaimsFollowInputs_iff] at hs
    refine State.localClaim_follows .hazard l ?_ fun g hg => ?_
    · cases l <;> simp [State.filtered, hv, show (Fn.hazard == Fn.stop) = false from rfl]
    · refine (hs g).trans ?_
      simp [State.filtered, beq_false_of_ne hg]
  start _ _ hs := hs
  begin _ _ := State.fresh_localClaims _ _ _ _ _
  brownOut _ := State.fresh_localClaims _ _ _ _ _

/-! ### Silence and orphan marks -/

/-- Only an orphaned claim is held (R20). -/
def Claim.WellMarked (c : Claim) : Prop := c.hold.isSome = true → c.orphaned = true

theorem State.SilenceMarks.timer {s : State} (hs : s.SilenceMarks) (m : SlotId) :
    (s.slot m).timer.isSome = true ↔ (s.slot m).st = .live := hs.1 m

theorem State.SilenceMarks.silent {s : State} (hs : s.SilenceMarks) {m : SlotId} {f : Fn} {c : Claim}
    (hc : s.cell f m.claimant = some c) (ho : c.orphaned = true) : (s.slot m).st = .silent := hs.2.1 m f c hc ho

theorem State.SilenceMarks.wellMarked {s : State} (hs : s.SilenceMarks) {f : Fn} {k : Claimant} {c : Claim}
    (hc : s.cell f k = some c) : c.WellMarked := hs.2.2 f k c hc

/-- An action that leaves the states of the slots, and orphans no claim. -/
theorem State.silenceMarks_of_states {s t : State} (hs : s.SilenceMarks)
    (hst : ∀ m : SlotId, (t.slot m).st = (s.slot m).st)
    (htimer : ∀ m : SlotId, (t.slot m).timer.isSome = true ↔ (t.slot m).st = .live)
    (hc : ∀ (f : Fn) (k : Claimant) (c : Claim), t.cell f k = some c →
      c.WellMarked ∧ (c.orphaned = true → ∃ d : Claim, s.cell f k = some d ∧ d.orphaned = true)) : t.SilenceMarks := by
  refine ⟨htimer, fun m f c h ho => ?_, fun f k c h => (hc f k c h).1⟩
  obtain ⟨d, hd, hdo⟩ := (hc f _ c h).2 ho
  rw [hst]
  exact hs.silent hd hdo

/-- An action on one slot and its column. -/
theorem State.silenceMarks_of_column {s t : State} (hs : s.SilenceMarks) (m : SlotId)
    (hslot : ∀ n : SlotId, n ≠ m → (t.slot n).st = (s.slot n).st ∧ (t.slot n).timer = (s.slot n).timer)
    (hcell : ∀ (f : Fn) (j : Claimant), j ≠ m.claimant → t.cell f j = s.cell f j)
    (htimer : (t.slot m).timer.isSome = true ↔ (t.slot m).st = .live)
    (hcolumn : ∀ (f : Fn) (c : Claim), t.cell f m.claimant = some c →
      c.WellMarked ∧ (c.orphaned = true → (t.slot m).st = .silent)) : t.SilenceMarks := by
  refine ⟨fun n => ?_, fun n f c h ho => ?_, fun f k c h => ?_⟩
  · by_cases hn : n = m
    · rwa [hn]
    · rw [(hslot n hn).1, (hslot n hn).2]
      exact hs.timer n
  · by_cases hn : n = m
    · subst hn
      exact (hcolumn f c h).2 ho
    · rw [hcell f _ fun e => hn ((SlotId.claimant_inj n m).mp e)] at h
      rw [(hslot n hn).1]
      exact hs.silent h ho
  · by_cases hk : k = m.claimant
    · subst hk
      exact (hcolumn f c h).1
    · exact hs.wellMarked (by rwa [← hcell f k hk])

theorem State.silenceMarks_of_eq {s t : State} (hs : s.SilenceMarks) (hc : t.claims = s.claims)
    (hm : ∀ m : SlotId, (t.slot m).st = (s.slot m).st ∧ (t.slot m).timer = (s.slot m).timer) : t.SilenceMarks :=
  State.silenceMarks_of_states hs (fun m => (hm m).1) (fun m => by rw [(hm m).1, (hm m).2]; exact hs.timer m)
    fun f k c h => by
      rw [State.cell_congr hc] at h
      exact ⟨hs.wellMarked h, fun ho => ⟨c, h, ho⟩⟩

/-- A claim that is neither orphaned nor held may be written, and a claim removed. -/
theorem State.writeCell_silenceMarks {s : State} (hs : s.SilenceMarks) (f : Fn) (k : Claimant) {v : Option Claim}
    (hv : ∀ c : Claim, v = some c → c.orphaned = false ∧ c.hold = none) : (s.writeCell f k v).SilenceMarks := by
  have hslot (m : SlotId) : (s.writeCell f k v).slot m = s.slot m := State.slot_congr (by simp) m
  refine State.silenceMarks_of_states hs (fun m => by rw [hslot]) (fun m => by rw [hslot]; exact hs.timer m)
    fun g j c h => ?_
  rw [State.writeCell_cell] at h
  split at h
  · obtain ⟨ho, hh⟩ := hv c h
    exact ⟨fun he => by simp [hh] at he, fun he => by simp [ho] at he⟩
  · exact ⟨hs.wellMarked h, fun ho => ⟨c, h, ho⟩⟩

theorem State.fresh_silenceMarks (q : List Instr) (cfg : Working) (st : Store) (w : Power) (ev : EventSet) :
    (State.fresh q cfg st w ev).SilenceMarks := by
  refine ⟨fun m => ?_, fun m f c h => by simp [State.fresh_cell] at h, fun f k c h => by simp [State.fresh_cell] at h⟩
  cases m <;> simp [State.slot, State.fresh, Slot.reset, PerSlot.get]

theorem orphanedClaim_orphaned {p : OrphanPolicy} {n : Nat} {c d : Claim} (h : orphanedClaim p n c = some d) :
    d.orphaned = true := by
  unfold orphanedClaim at h
  split at h
  · cases h
    rfl
  · cases h
  · split at h
    · cases h
    · cases h
      rfl

/-- A FUNCTION record orphans no claim, and holds only orphaned ones (R4). -/
theorem repolicied_marks {old new : FunctionRec} {c d : Claim} (h : repolicied old new c = some d) :
    (c.WellMarked → d.WellMarked) ∧ (d.orphaned = true → c.orphaned = true) := by
  unfold repolicied at h
  split at h
  · cases h
    exact ⟨id, id⟩
  · rename_i ho
    have hc : c.orphaned = true := by simpa using ho
    refine ⟨fun _ _ => ?_, fun _ => hc⟩
    split at h
    · split at h
      · cases h
      · cases h
        exact hc
    · exact orphanedClaim_orphaned h

theorem State.fallSilent_silenceMarks {s : State} (hs : s.SilenceMarks) (m : SlotId) (early : Bool) :
    (s.fallSilent m early).SilenceMarks := by
  refine State.silenceMarks_of_column hs m (fun n hn => ?_) (fun f j hj => ?_) ?_ fun f c hc => ?_
  · rw [State.fallSilent_slot, if_neg hn]
    exact ⟨rfl, rfl⟩
  · rw [State.fallSilent_cell, if_neg hj]
  · simp [State.fallSilent_slot]
  · rw [State.fallSilent_cell, if_pos rfl] at hc
    obtain ⟨d, -, hd⟩ := Option.bind_eq_some_iff.mp hc
    exact ⟨fun _ => orphanedClaim_orphaned hd, fun _ => by simp [State.fallSilent_slot]⟩

theorem State.forgetSlot_silenceMarks {s : State} (hs : s.SilenceMarks) (m : SlotId) : (s.forgetSlot m).SilenceMarks := by
  refine State.silenceMarks_of_column hs m (fun n hn => ?_) (fun f j hj => ?_) ?_ fun f c hc => ?_
  · rw [State.forgetSlot_slot, if_neg hn]
    split <;> exact ⟨rfl, rfl⟩
  · rw [State.forgetSlot_cell, if_neg hj]
  · simp [State.forgetSlot_slot]
  · simp [State.forgetSlot_cell] at hc

/-- A frame leaves its slot no orphaned claim: a SILENT slot's claims are unmarked, another slot has none. -/
theorem State.hear_silenceMarks {s : State} (hs : s.SilenceMarks) (m : SlotId) : (s.hear m).SilenceMarks := by
  refine State.silenceMarks_of_column hs m (fun n hn => ?_) (fun f j hj => ?_) ?_ fun f c hc => ?_
  · rw [State.hear_slot, if_neg hn]
    split <;> exact ⟨rfl, rfl⟩
  · rw [State.hear_cell, if_neg fun e => hj e.1]
  · simp [State.hear_slot]
  · rw [State.hear_cell] at hc
    split at hc
    · obtain ⟨d, -, rfl⟩ := Option.map_eq_some_iff.mp hc
      exact ⟨fun hh => (by cases hh), fun ho => (by cases ho)⟩
    · rename_i hn
      exact ⟨hs.wellMarked hc, fun ho => absurd ⟨rfl, hs.silent hc ho⟩ hn⟩

theorem State.applySlot_silenceMarks {s : State} (hs : s.SilenceMarks) (x : SlotId × SlotRec) :
    (s.applySlot x).SilenceMarks := by
  have hu : (s.setRecord x).SilenceMarks := State.silenceMarks_of_eq hs rfl fun m => by
    rw [State.setRecord_slot]
    split
    · rename_i h
      rw [h]
      exact ⟨rfl, rfl⟩
    · exact ⟨rfl, rfl⟩
  cases hm : s.slotMoves x.1 x.2
  · by_cases hf : s.slotFalls x
    · rw [State.applySlot_falls hm hf]
      exact State.fallSilent_silenceMarks hu x.1 false
    · rwa [State.applySlot_stays hm hf]
  · rw [State.applySlot_moves hm]
    exact State.forgetSlot_silenceMarks hu x.1

theorem State.applyFunction_silenceMarks {s : State} (hs : s.SilenceMarks) (x : Fn × FunctionRec) :
    (s.applyFunction x).SilenceMarks := by
  have hslot (m : SlotId) : (s.applyFunction x).slot m = s.slot m := State.slot_congr (by simp) m
  refine State.silenceMarks_of_states hs (fun m => by rw [hslot]) (fun m => by rw [hslot]; exact hs.timer m)
    fun f k c hc => ?_
  rw [State.applyFunction_eq, State.reevaluate_cell, State.repolicy_cell] at hc
  split at hc
  · obtain ⟨d, hd, hr⟩ := Option.bind_eq_some_iff.mp hc
    obtain ⟨hwell, hmark⟩ := repolicied_marks hr
    exact ⟨hwell (hs.wellMarked hd), fun ho => ⟨d, hd, hmark ho⟩⟩
  · exact ⟨hs.wellMarked hc, fun ho => ⟨c, hc, ho⟩⟩

theorem State.countSlot_silenceMarks {s : State} (hs : s.SilenceMarks) (m : SlotId) : (s.countSlot m).SilenceMarks := by
  refine State.silenceMarks_of_states hs (fun n => ?_) (fun n => ?_) fun f k c hc => ?_
  · rw [State.countSlot_slot]
    split
    · rename_i h
      rw [h]
    · rfl
  · rw [State.countSlot_slot]
    split
    · have := hs.timer m
      split <;> simpa using this
    · exact hs.timer n
  · rw [State.countSlot_cell] at hc
    split at hc
    · obtain ⟨d, hd, rfl⟩ := Option.map_eq_some_iff.mp hc
      have hw := hs.wellMarked hd
      exact ⟨fun hh => hw (by simpa [Claim.counted] using hh), fun ho => ⟨d, hd, ho⟩⟩
    · exact ⟨hs.wellMarked hc, fun ho => ⟨c, hc, ho⟩⟩

theorem State.freshTimer_silenceMarks {s : State} (hs : s.SilenceMarks) (m : SlotId) :
    (s.freshTimer m).SilenceMarks := by
  refine State.silenceMarks_of_states hs (fun n => ?_) (fun n => ?_)
    fun f k c hc => ⟨hs.wellMarked hc, fun ho => ⟨c, hc, ho⟩⟩
  · rw [State.freshTimer_slot]
    split
    · rename_i h
      rw [h]
    · rfl
  · rw [State.freshTimer_slot]
    split
    · have := hs.timer m
      dsimp only
      split <;> simp_all
    · exact hs.timer n

theorem State.setSlot_pending_silenceMarks {s : State} (hs : s.SilenceMarks) (m : SlotId) (v : EventSet) :
    (s.setSlot m { s.slot m with pending := v }).SilenceMarks :=
  State.silenceMarks_of_eq hs rfl fun n => by
    rw [State.setSlot_slot]
    split
    · rename_i h
      rw [h]
      exact ⟨rfl, rfl⟩
    · exact ⟨rfl, rfl⟩

theorem State.raise_silenceMarks {s : State} (hs : s.SilenceMarks) (k : EventKind) : (s.raise k).SilenceMarks :=
  ClaimInvariant.foldl (P := State.SilenceMarks) hs fun _ m ht => State.setSlot_pending_silenceMarks ht m _

theorem State.localClaim_silenceMarks {s : State} (hs : s.SilenceMarks) (f : Fn) (l : Bool) :
    (s.localClaim f l).SilenceMarks :=
  State.writeCell_silenceMarks hs f .l fun c hc => by
    cases l
    · cases hc
    · cases hc
      exact ⟨rfl, rfl⟩

theorem State.silenceMarks_invariant : ClaimInvariant State.SilenceMarks where
  pending _ _ := rfl
  power _ _ := rfl
  clock _ _ := rfl
  store _ _ := rfl
  storeWrite _ _ := rfl
  ports _ _ := rfl
  chans _ _ := rfl
  queue _ _ := rfl
  window _ _ := rfl
  gates _ _ := rfl
  flash _ _ := rfl
  seq _ _ := rfl
  gauges _ _ := rfl
  fan _ _ := rfl
  sup _ _ _ hs := hs
  shed s v hs := State.silenceMarks_of_eq (State.raise_silenceMarks (s := s.setSup v) hs .shed) (by simp)
    fun m => by
      have hslots : (((s.setSup v).raise .shed).reevaluateAll Fn.all).slots = ((s.setSup v).raise .shed).slots := by simp
      rw [State.slot_congr hslots]
      exact ⟨rfl, rfl⟩
  cfg _ _ _ _ hs := hs
  newSlot _ x hs := State.applySlot_silenceMarks hs x
  newFunction _ x hs := State.applyFunction_silenceMarks hs x
  raiseTo _ _ m hs := State.setSlot_pending_silenceMarks hs m _
  clearEvents _ m _ hs := State.setSlot_pending_silenceMarks hs m _
  hear _ m hs := State.hear_silenceMarks hs m
  silence _ m early _ hs := State.fallSilent_silenceMarks hs m early
  countSlot _ m hs := State.countSlot_silenceMarks hs m
  freshTimer _ m hs := State.freshTimer_silenceMarks hs m
  claim _ m f _ _ hs := State.writeCell_silenceMarks hs f m.claimant fun c hc => by cases hc; exact ⟨rfl, rfl⟩
  withdraw _ m f hs := State.writeCell_silenceMarks hs f m.claimant fun c hc => nomatch hc
  sample _ _ _ _ hs := hs
  ign s v hs := State.silenceMarks_of_eq hs (by simp) fun m => by
    rw [State.slot_congr (by simp : _ = s.slots) m]
    exact ⟨rfl, rfl⟩
  brake s v l _ hs := State.localClaim_silenceMarks (s := s.setInput .brake v) hs .stop l
  hazard s v l _ hs := State.localClaim_silenceMarks (s := s.setInput .hazard v) hs .hazard l
  start _ _ hs := hs
  begin _ _ := State.fresh_silenceMarks _ _ _ _ _
  brownOut _ := State.fresh_silenceMarks _ _ _ _ _

end Sys2Proof.Machine
end

section
/-! SUPPORT. The combine rules in the words of R13, and the two invariants of the claim unit settled. -/

open Sys2Proof Sys2Proof.Machine

/-- Settles O11, by the principle for the arbiter's actions: each of the three is kept by every one of them. -/
theorem claimTableStaysTrue : Obligations.ClaimTableStaysTrue :=
  ⟨fun _ _ h hs => State.valuesOfKind_invariant.step h hs, fun _ _ h hs => State.localClaims_invariant.step h hs,
    fun _ _ h hs => State.silenceMarks_invariant.step h hs⟩

namespace Sys2Proof.Machine

/-! ### The combine rules in the words of R13 -/

/-- A present claim with a value. -/
def State.Claims (s : State) (f : Fn) (k : Claimant) (n : Nat) : Prop := ∃ c : Claim, s.cell f k = some c ∧ c.value = n

theorem State.claims_iff {s : State} {f : Fn} {k : Claimant} {n : Nat} :
    s.Claims f k n ↔ (s.cell f k).map Claim.value = some n := by
  simp [State.Claims]

theorem State.mem_presentValues_all {s : State} {f : Fn} {n : Nat} :
    n ∈ s.presentValues f allClaimants ↔ ∃ k : Claimant, s.Claims f k n := by
  simp [State.mem_presentValues, mem_allClaimants, State.Claims]

theorem State.presentValues_split {s : State} {f : Fn} {k : Claimant} {n : Nat} (ahead behind : List Claimant)
    (hk : s.Claims f k n) :
    s.presentValues f (ahead ++ k :: behind) = s.presentValues f ahead ++ n :: s.presentValues f behind := by
  simp [State.presentValues, State.claims_iff.mp hk]

/-- ANY on PANEL and FAN: the first nonzero value in rank order. -/
theorem State.combined_firstOn {s : State} {f : Fn} (hf : f = .panel ∨ f = .fan) (hc : (s.fnRec f).combine = .any) :
    (∀ (ahead behind : List Claimant) (k : Claimant) (n : Nat), (s.fnRec f).order = ahead ++ k :: behind →
      s.Claims f k n → n ≠ 0 → (∀ j ∈ ahead, ∀ m : Nat, s.Claims f j m → m = 0) → s.combined f = n) ∧
    ((∀ k ∈ (s.fnRec f).order, ∀ n : Nat, s.Claims f k n → n = 0) → s.combined f = 0) := by
  have hzero {l : List Claimant} (hl : ∀ j ∈ l, ∀ m : Nat, s.Claims f j m → m = 0) :
      (s.presentValues f l).find? (fun v => v != 0) = none := by
    refine List.find?_eq_none.mpr fun v hv => ?_
    obtain ⟨k, hk, hv⟩ := State.mem_presentValues.mp hv
    simp [hl k hk v hv]
  rw [State.combined_anyLevel hc hf]
  refine ⟨fun ahead behind k n ho hk hn ha => ?_, fun h => ?_⟩
  · rw [ho, State.presentValues_split ahead behind hk, List.find?_append, hzero ha]
    simp [hn]
  · rw [hzero h]
    rfl

/-- HIGHEST: the largest value. -/
theorem State.combined_largest {s : State} {f : Fn} (hc : (s.fnRec f).combine = .highest) :
    (∀ (k : Claimant) (n : Nat), s.Claims f k n → n ≤ s.combined f) ∧
      (s.combined f = 0 ∨ ∃ k : Claimant, s.Claims f k (s.combined f)) := by
  refine ⟨fun k n hk => ?_, (s.combined_zero_or_claim f).imp_right fun ⟨l, hl⟩ => ?_⟩
  · rw [State.combined_highest hc]
    exact List.le_max?_getD_of_mem (State.mem_presentValues_all.mpr ⟨k, hk⟩)
  · obtain ⟨k, -, hk⟩ := State.mem_presentValues.mp hl
    exact ⟨k, hk⟩

/-- ANY, and HIGHEST with no value above 1, on an on/off function: on exactly where a claim is 1. -/
theorem State.combined_onOff {s : State} {f : Fn} (hp : f ≠ .panel) (hf : f ≠ .fan)
    (hc : (s.fnRec f).combine = .any ∨ (s.fnRec f).combine = .highest ∧ ∀ (k : Claimant) (n : Nat), s.Claims f k n → n ≤ 1) :
    ((∃ k : Claimant, s.Claims f k 1) → s.combined f = 1) ∧ ((∀ k : Claimant, ¬ s.Claims f k 1) → s.combined f = 0) := by
  rcases hc with hc | ⟨hc, hle⟩
  · rw [State.combined_any hc hp hf]
    refine ⟨fun h => if_pos (State.mem_presentValues_all.mpr h), fun h => if_neg fun hm => ?_⟩
    obtain ⟨k, hk⟩ := State.mem_presentValues_all.mp hm
    exact h k hk
  · obtain ⟨hmax, hmem⟩ := State.combined_largest hc
    have hone : s.combined f ≤ 1 := hmem.elim (fun h => by omega) fun ⟨k, hk⟩ => hle k _ hk
    refine ⟨fun ⟨k, hk⟩ => le_antisymm hone (hmax k 1 hk), fun h => ?_⟩
    rcases hmem with h0 | ⟨k, hk⟩
    · exact h0
    · have hne : s.combined f ≠ 1 := fun h1 => h k (h1 ▸ hk)
      omega

/-- PRIORITY: the first value in rank order. -/
theorem State.combined_first {s : State} {f : Fn} (hc : (s.fnRec f).combine = .priority) :
    (∀ (ahead behind : List Claimant) (k : Claimant) (n : Nat), (s.fnRec f).order = ahead ++ k :: behind →
      s.Claims f k n → (∀ j ∈ ahead, s.cell f j = none) → s.combined f = n) ∧
    ((∀ k ∈ (s.fnRec f).order, s.cell f k = none) → s.combined f = 0) := by
  have hnone {l : List Claimant} (hl : ∀ j ∈ l, s.cell f j = none) : s.presentValues f l = [] := by
    refine List.filterMap_eq_nil_iff.mpr fun j hj => ?_
    simp [hl j hj]
  rw [State.combined_priority hc]
  refine ⟨fun ahead behind k n ho hk ha => ?_, fun h => ?_⟩
  · rw [ho, State.presentValues_split ahead behind hk, hnone ha]
    rfl
  · rw [hnone h]
    rfl

/-- A seeding or change of filtered IGN reaches the gauge unit and the results, and no claim (R14). -/
theorem State.setLevel_ign_claims (s : State) (l early : Bool) : (s.setLevel .ign l early).claims = s.claims := by
  simp [State.setLevel, State.whenDue, State.levelHandOn]

theorem exec_ign_claims {c : Instr} {s t : State} (hc : c = .inputSeed .ign ∨ c = .filteredLevelChange .ign)
    (h : exec c s = .next t) : t.claims = s.claims := by
  rcases hc with rfl | rfl <;> cases h
  · split
    · exact s.setLevel_ign_claims _ _
    · split
      · exact s.setLevel_ign_claims _ _
      · rfl
  · split
    · exact s.setLevel_ign_claims _ _
    · split
      · exact s.setLevel_ign_claims _ _
      · rfl

end Sys2Proof.Machine

/-- Settles O10: the results stay evaluated by the principle for the arbiter's actions, and what they are evaluated to is
the combine step's value unless the gate or the shed level holds the function off. -/
theorem resultsStayEvaluated : Obligations.ResultsStayEvaluated := by
  refine ⟨fun s t h hs => State.resultsEvaluated_invariant.step h hs,
    fun c s t hc h => ⟨exec_ign_claims hc h, fun hs => State.resultsEvaluated_invariant.exec_reached hs c t h⟩,
    fun f s => ?_⟩
  intro r claims suppressed off
  have hon (h : ¬ off) : s.evaluated f = s.combined f := State.evaluated_of_not_heldOff h
  refine ⟨State.evaluated_of_heldOff, fun ho hp hf hc => ?_, fun ho hf hc => ?_, fun ho hc => ?_, fun ho hc => ?_⟩ <;>
    rw [hon ho]
  · exact State.combined_onOff hp hf hc
  · exact State.combined_firstOn hf hc
  · exact State.combined_largest hc
  · exact State.combined_first hc
end

section
/-! SUPPORT. The moments of a silence and of a hold expiry, and what each leaves as it was. -/

namespace Sys2Proof.Machine
open Sys2Proof

/-! ### When they come -/

theorem State.hold_iff (s : State) (m : SlotId) (f : Fn) :
    (s.holdDue m f || s.holdEarly m f) = true ↔
      s.running = true ∧ (s.holdOf m f = some 0 ∨
        (s.clock = .awaiting ∨ s.clock = .step 249 ∧ s.conversionDue = false) ∧
          (s.slot m).silencedNow = false ∧ s.holdOf m f = some 1) := by
  simp only [State.holdDue, State.holdEarly, ← State.boundary_iff, Bool.or_eq_true, Bool.and_eq_true, beq_iff_eq,
    Bool.not_eq_true']
  tauto

/-! ### What they leave -/

theorem State.fallSilent_only (s : State) (m : SlotId) (early : Bool) :
    let t := s.fallSilent m early
    t = { s with slots := t.slots, claims := t.claims, results := t.results, chans := t.chans, queue := t.queue,
                 window := t.window, flash := t.flash, fan := t.fan } :=
  let t := s.fallSilent m early
  State.fallSilent_keep (fun x => { x with
    slots := t.slots, claims := t.claims, results := t.results, chans := t.chans, queue := t.queue,
    window := t.window, flash := t.flash, fan := t.fan })
    (fun _ _ => rfl) (fun _ _ => rfl) (fun _ _ => rfl) (fun _ _ => rfl) (fun _ _ => rfl) (fun _ _ => rfl)
    (fun _ _ => rfl) (fun _ _ => rfl) s m early

theorem State.writeCell_only (s : State) (f : Fn) (k : Claimant) (v : Option Claim) :
    let t := s.writeCell f k v
    t = { s with claims := t.claims, results := t.results, chans := t.chans, queue := t.queue, window := t.window,
                 flash := t.flash, fan := t.fan } :=
  let t := s.writeCell f k v
  State.writeCell_keep (fun x => { x with
    claims := t.claims, results := t.results, chans := t.chans, queue := t.queue, window := t.window,
    flash := t.flash, fan := t.fan })
    (fun _ _ => rfl) (fun _ _ => rfl) (fun _ _ => rfl) (fun _ _ => rfl) (fun _ _ => rfl) (fun _ _ => rfl)
    (fun _ _ => rfl) s f k v

/-- A write that changes the cell re-evaluates its function (R9, R12). -/
theorem State.writeCell_result_same {s : State} {f : Fn} {k : Claimant} {v : Option Claim} (h : s.cell f k ≠ v) :
    (s.writeCell f k v).result f = (s.writeCell f k v).evaluated f := by
  unfold State.writeCell
  rw [if_neg h, State.reevaluate_result, if_pos rfl, State.reevaluate_evaluated]

/-- SILENCE_EXPIRY takes the silence that is due, else the one of the coming start, else does nothing. -/
theorem exec_silenceExpiry (m : SlotId) (s : State) :
    (s.silenceDue m = true → exec (.silenceExpiry m) s = .next (s.fallSilent m false)) ∧
    (s.silenceDue m = false → s.silenceEarly m = true →
      exec (.silenceExpiry m) s = .next (s.fallSilent m true)) ∧
    (s.silenceDue m = false → s.silenceEarly m = false → exec (.silenceExpiry m) s = .next s) := by
  refine ⟨fun hd => ?_, fun hd he => ?_, fun hd he => ?_⟩ <;> simp [exec, execSilenceExpiry, *]

end Sys2Proof.Machine

open Sys2Proof Sys2Proof.Machine

/-- Settles O39: what `fallSilent` and the write of an absent cell do, at the moments of R20 and R21. -/
theorem silenceAndHoldExpire : Obligations.SilenceAndHoldExpire := by
  refine ⟨fun m s => ?_, fun m f s => ?_⟩
  · intro count reached reaches
    obtain ⟨hdue, hearly, hidle⟩ := exec_silenceExpiry m s
    have hreached : s.silenceDue m = true ↔ reached := s.silenceDue_iff m
    have hreaches : s.silenceEarly m = true ↔ reaches := s.silenceEarly_iff m
    refine ⟨fun h1 h2 => hidle (by simpa [← hreached] using h1) (by simpa [← hreaches] using h2), fun h => ?_⟩
    obtain ⟨early, hexec, hmark⟩ : ∃ early : Bool, exec (.silenceExpiry m) s = .next (s.fallSilent m early) ∧
        (early = false ↔ reached) := by
      by_cases hr : reached
      · exact ⟨false, hdue (hreached.mpr hr), by simp [hr]⟩
      · have hd : s.silenceDue m = false := by simpa [← hreached] using hr
        exact ⟨true, hearly hd (hreaches.mpr (h.resolve_left hr)), by simp [hr]⟩
    refine ⟨_, hexec, fun hr => ?_, fun hr => ?_, fun n hn => ?_, fun f => ?_, fun f k hk => ?_, fun hs => ?_, ?_⟩
    · rw [State.fallSilent_slot, if_pos rfl, hmark.mpr hr]
    · have : early = true := by simpa using mt hmark.mp hr
      rw [State.fallSilent_slot, if_pos rfl, this]
    · rw [State.fallSilent_slot, if_neg hn]
    · rw [State.fallSilent_cell, if_pos rfl]
      rfl
    · rw [State.fallSilent_cell, if_neg hk]
    · exact State.resultsEvaluated_slotFree.fallSilent hs m early
    · exact s.fallSilent_only m early
  · intro due
    have hdue : (s.holdDue m f || s.holdEarly m f) = true ↔ due := s.hold_iff m f
    refine ⟨fun h => ?_, fun h => ⟨s.writeCell f m.claimant none, ?_, ?_, fun g k hg => ?_, ?_, fun g hg => ?_, ?_⟩⟩
    · simp [exec, execHoldExpiry, mt hdue.mp h]
    · simp [exec, execHoldExpiry, hdue.mpr h]
    · rw [State.writeCell_cell, if_pos ⟨rfl, rfl⟩]
    · rw [State.writeCell_cell, if_neg fun e => hg.elim (· e.1) (· e.2)]
    · refine State.writeCell_result_same fun hc => ?_
      have hnone : s.holdOf m f = none := by simp [State.holdOf, hc]
      obtain ⟨-, h0 | ⟨-, -, h1⟩⟩ := h
      · simp [hnone] at h0
      · simp [hnone] at h1
    · exact State.writeCell_result s f g m.claimant none hg
    · exact s.writeCell_only f m.claimant none
end

section
/-! SUPPORT. What answering the item in execution does: the ports alone change, and as `Answered` says (R173, R175, R179).
-/

namespace Sys2Proof.Machine
open Sys2Proof

/-! ### Ports -/

theorem PerPort_set_set {α : Type} (t : PerPort α) (p : Port) (v w : α) : (t.set p v).set p w = t.set p w := by
  cases p <;> rfl

theorem State.port_congr {s t : State} (h : t.ports = s.ports) (p : Port) : t.port p = s.port p := by
  unfold State.port
  rw [h]

/-- The port read after a port is set, the index read first. -/
theorem State.setPort_port (s : State) (p q : Port) (v : PortState) :
    (s.setPort p v).port q = if q = p then v else s.port q := by
  simp only [State.port_setPort, eq_comm]

/-- New bit rates reach each port whose rate changes (R182). -/
theorem State.applyRates_port (s : State) (q : Port) :
    s.applyRates.port q =
      if (s.port q).rate ≠ s.cfg.unit.rates.get q then
        { s.port q with rate := s.cfg.unit.rates.get q, assembly := .hunt, idle := 0 }
      else s.port q := by
  have hrate (t : State) (p : Port) : (t.applyRate p).port q =
      if q = p ∧ (t.port q).rate ≠ t.cfg.unit.rates.get q then
        { t.port q with rate := t.cfg.unit.rates.get q, assembly := .hunt, idle := 0 }
      else t.port q := by
    unfold State.applyRate
    split
    · rename_i h
      rw [if_neg fun e => e.2 (e.1 ▸ h)]
    · rename_i h
      rw [State.setPort_port]
      by_cases hq : q = p
      · subst hq
        rw [if_pos rfl, if_pos ⟨rfl, h⟩]
      · rw [if_neg hq, if_neg fun e => hq e.1]
  unfold State.applyRates allPorts
  simp only [List.foldl_cons, List.foldl_nil, hrate, State.applyRate_frame]
  cases q <;> simp

theorem State.applyRates_only (s : State) : s.applyRates = { s with ports := s.applyRates.ports } :=
  State.applyRates_keep (fun x => { x with ports := s.applyRates.ports }) (fun _ _ => rfl) s

/-- A digest reads the slot, the power, supply and flash states, filtered IGN, and of the ports the overrun flag alone.
-/
theorem State.setPort_digest {s : State} {p : Port} {v : PortState} (h : v.overrun = (s.port p).overrun) (m : SlotId) :
    (s.setPort p v).digest p m = s.digest p m := by
  have hv : ((s.setPort p v).port p).overrun = (s.port p).overrun := by simpa using h
  unfold State.digest
  rw [hv]
  rfl

/-! ### A frame goes on or is finished -/

/-- The frame in execution on a port goes on with an execution `r`, and is finished where no item is left. -/
def State.proceed (s : State) (p : Port) (r : Run) : State :=
  if r.items.isEmpty then (s.setPort p { s.port p with run := some r }).finishFrame p
  else s.setPort p { s.port p with run := some r }

theorem State.answer_none {s : State} {p : Port} {r : Run} (hr : (s.port p).run = some r) (a : Option Answer) :
    s.answer p a none = s.proceed p { r with items := r.items.tail, answers := r.answers ++ a.toList } := by
  unfold State.answer
  rw [hr]
  rfl

theorem State.answer_some {s : State} {p : Port} {r : Run} (hr : (s.port p).run = some r) (a : Option Answer)
    (st : Status) :
    s.answer p a (some st) = s.proceed p { r with
      items := [], answers := r.answers ++ (a.toList ++ r.items.tail.map fun _ => ⟨st, none⟩) } := by
  unfold State.answer
  rw [hr, ← List.append_assoc]
  rfl

theorem State.finishFrame_built {s : State} {p : Port} {f : Frame} {r : Run} (hq : (s.port p).queue.head? = some f)
    (hr : (s.port p).run = some r) (ha : f.answered = true ∧ r.lost = false) :
    s.finishFrame p = s.setPort p { s.port p with run := none, reply := .built (s.buildReply p f r) } := by
  obtain ⟨rest, hrest⟩ : ∃ rest, (s.port p).queue = f :: rest := List.head?_eq_some_iff.mp hq
  unfold State.finishFrame
  rw [hrest, hr]
  simp [ha]

theorem State.finishFrame_left {s : State} {p : Port} {f : Frame} {r : Run} (hq : (s.port p).queue.head? = some f)
    (hr : (s.port p).run = some r) (ha : ¬ (f.answered = true ∧ r.lost = false)) :
    s.finishFrame p = (s.leaveQueue p).afterFrame r.rateAfter r.resetAfter := by
  obtain ⟨rest, hrest⟩ : ∃ rest, (s.port p).queue = f :: rest := List.head?_eq_some_iff.mp hq
  unfold State.finishFrame
  rw [hrest, hr]
  exact if_neg (by simpa using ha)

/-- What follows a frame with no reset tied to it: new bit rates where the frame brought them, and nothing but the ports
changes. -/
theorem State.afterFrame_noReset (s : State) (rate : Bool) (q : Port) :
    (s.afterFrame rate false).port q =
      (if rate = true ∧ (s.port q).rate ≠ s.cfg.unit.rates.get q then
        { s.port q with rate := s.cfg.unit.rates.get q, assembly := .hunt, idle := 0 } else s.port q) ∧
      s.afterFrame rate false = { s with ports := (s.afterFrame rate false).ports } := by
  unfold State.afterFrame
  cases rate
  · exact ⟨(if_neg (by simp)).symm, rfl⟩
  · refine ⟨?_, s.applyRates_only⟩
    simpa using s.applyRates_port q

theorem State.ports_ext {s t : State} (h : ∀ q : Port, t.port q = s.port q) : t.ports = s.ports := by
  have h1 : t.ports.link1 = s.ports.link1 := h .link1
  have h2 : t.ports.link2 = s.ports.link2 := h .link2
  cases ht : t.ports
  cases hs : s.ports
  simp_all

/-- The reply that is built is the one to the frame, as the state that holds it shows it. -/
theorem State.buildReply_eq {s : State} {p : Port} (f : Frame) {r : Run} {v : PortState} (as : List Answer)
    (hv : v.overrun = (s.port p).overrun) (hr : r.resetAfter = false) :
    s.buildReply p f { r with items := [], answers := as } = replyTo (s.setPort p v) p f r as := by
  unfold State.buildReply replyTo
  rw [State.setPort_digest hv, State.setPort_port, if_pos rfl, hv, hr]
  rfl

/-- The last item of the frame has been answered. -/
theorem Executing.finish {s t : State} {p : Port} {f : Frame} {r : Run} {i : Item} (h : Executing s p f r i)
    (as : List Answer)
    (hp : t.port p = { s.port p with run := some { r with items := [], answers := r.answers ++ as } })
    (hq : ∀ q : Port, q ≠ p → t.port q = s.port q) :
    Answered s (t.finishFrame p) p f r [] as ∧ t.finishFrame p = { t with ports := (t.finishFrame p).ports } := by
  obtain ⟨-, hhead, -, -, hreset⟩ := h
  have hhead' : (t.port p).queue.head? = some f := by rwa [hp]
  have hrun : (t.port p).run = some { r with items := [], answers := r.answers ++ as } := by rw [hp]
  unfold Answered
  rw [if_neg (by simp)]
  by_cases ha : f.answered = true ∧ r.lost = false
  · rw [if_pos ha, State.finishFrame_built hhead' hrun ha]
    generalize hy : t.buildReply p f { r with items := [], answers := r.answers ++ as } = y
    have hreply : replyTo (t.setPort p { t.port p with run := none, reply := .built y }) p f r (r.answers ++ as) = y :=
      (State.buildReply_eq (v := { t.port p with run := none, reply := .built y }) f _ rfl hreset).symm.trans hy
    refine ⟨State.ports_ext fun q => ?_, rfl⟩
    rw [hreply, State.setPort_port, State.setPort_port, hp]
    split
    · rfl
    · exact hq q ‹_›
  · rw [if_neg ha, State.finishFrame_left hhead' hrun ha, hreset]
    have hleft (q : Port) : (t.leaveQueue p).port q = if q = p then
        { s.port p with queue := (s.port p).queue.tail, run := none, reply := .quiet } else s.port q := by
      unfold State.leaveQueue
      rw [State.setPort_port, hp]
      split
      · rfl
      · exact hq q ‹_›
    have honly := (State.afterFrame_noReset (t.leaveQueue p) r.rateAfter p).2
    refine ⟨fun q => ?_, honly⟩
    rw [(State.afterFrame_noReset (t.leaveQueue p) r.rateAfter q).1, hleft, honly]

/-- The item in execution is answered: from a state `u` with the ports of `s`, the frame goes on as `Answered` says, and
nothing but the ports changes. -/
theorem Executing.proceed {s u : State} {p : Port} {f : Frame} {r : Run} {i : Item} (h : Executing s p f r i)
    (hu : u.ports = s.ports) (left : List Item) (as : List Answer) :
    let t := u.proceed p { r with items := left, answers := r.answers ++ as }
    Answered s t p f r left as ∧ t = { u with ports := t.ports } := by
  have hport (q : Port) : u.port q = s.port q := State.port_congr hu q
  unfold State.proceed
  cases left with
  | cons j left =>
    refine ⟨?_, rfl⟩
    unfold Answered
    rw [if_pos (by simp), if_neg (by simp), hport]
    simp [hu]
  | nil =>
    rw [if_pos (by simp)]
    obtain ⟨hans, honly⟩ := h.finish (t := u.setPort p { u.port p with
        run := some { r with items := [], answers := r.answers ++ as } }) as
      (by rw [State.setPort_port, if_pos rfl, hport]) (fun q hq => by rw [State.setPort_port, if_neg hq, hport])
    exact ⟨hans, honly⟩

/-- An answer after which the later items are still to come. -/
theorem Executing.answer {s u : State} {p : Port} {f : Frame} {r : Run} {i : Item} (h : Executing s p f r i)
    (hu : u.ports = s.ports) (a : Option Answer) :
    let t := u.answer p a none
    Answered s t p f r r.items.tail a.toList ∧ t = { u with ports := t.ports } := by
  rw [State.answer_none (by rw [State.port_congr hu]; exact h.run)]
  exact h.proceed hu _ _

/-- An answer after which each later item is answered with a status, unexecuted. -/
theorem Executing.answerSkip {s u : State} {p : Port} {f : Frame} {r : Run} {i : Item} (h : Executing s p f r i)
    (hu : u.ports = s.ports) (a : Option Answer) (st : Status) :
    let t := u.answer p a (some st)
    Answered s t p f r [] (a.toList ++ r.items.tail.map fun _ => ⟨st, none⟩) ∧ t = { u with ports := t.ports } := by
  rw [State.answer_some (by rw [State.port_congr hu]; exact h.run)]
  exact h.proceed hu _ _

/-- An answer of a status alone (R175; log 50). -/
theorem Executing.answerStatus {s u : State} {p : Port} {f : Frame} {r : Run} {i : Item} (h : Executing s p f r i)
    (hu : u.ports = s.ports) (st : Status) :
    let t := u.answerStatus p st
    AnsweredWith s t p f r st ∧ t = { u with ports := t.ports } := by
  unfold State.answerStatus Status.later AnsweredWith
  by_cases hst : st = .noRoom
  · subst hst
    obtain ⟨rest, hi⟩ : ∃ rest, r.items = i :: rest := List.head?_eq_some_iff.mp h.item
    simp only [if_true]
    have := h.answerSkip hu (some ⟨.noRoom, none⟩) .noRoom
    rwa [hi] at this ⊢
  · simp only [if_neg hst]
    exact h.answer hu _

/-- A refusal: the item is answered with a status alone, and nothing but the ports changes. -/
theorem Executing.refused {s : State} {p : Port} {f : Frame} {r : Run} {i : Item} (h : Executing s p f r i)
    (st : Status) : RefusedWith s (s.answerStatus p st) p f r st := by
  obtain ⟨hans, honly⟩ := h.answerStatus rfl st
  exact ⟨honly, hans⟩

end Sys2Proof.Machine
end

section
/-! SUPPORT. What the pairs of a CLAIM or CLAIM_ALL do to the slot's column, and the status they are answered with
(R6 to R9, R16). -/

namespace Sys2Proof.Machine
open Sys2Proof

/-! ### Wire values -/

theorem Fn.ofNat?_idx (f : Fn) : Fn.ofNat? (f.idx.val + 1) = some f := by cases f <;> rfl

/-- The octet that names a function. -/
theorem Fn.ofNat?_octet (f : Fn) : Fn.ofNat? (BitVec.ofNat 8 (f.idx.val + 1)).toNat = some f := by cases f <;> rfl

/-- PANEL above 250 and FAN above 3 are clamped, a withdrawal never. -/
theorem reduceWire_clamped_iff (f : Fn) (v : Byte) :
    (reduceWire f v).2 = true ↔ (f = .panel ∧ 250 < v.toNat ∨ f = .fan ∧ 3 < v.toNat) ∧ v.toNat ≠ 255 := by
  by_cases hv : v.toNat = 255
  · simp [reduceWire_withdraw f hv, hv]
  by_cases hp : f = .panel
  · subst hp
    simp [reduceWire_panel hv, hv]
  by_cases hf : f = .fan
  · subst hf
    simp [reduceWire_fan hv, hv]
  · simp [reduceWire_onOff hv hp hf, hp, hf]

theorem pairsStatus_eq (ps : List (Byte × Byte)) :
    pairsStatus ps = if ∃ q ∈ ps,
      (Fn.ofNat? q.1.toNat = some .panel ∧ 250 < q.2.toNat ∨ Fn.ofNat? q.1.toNat = some .fan ∧ 3 < q.2.toNat) ∧
        q.2.toNat ≠ 255 then .clamped else .ok := by
  have hpair (q : Byte × Byte) : ((Fn.ofNat? q.1.toNat).map fun f => (reduceWire f q.2).2).getD false = true ↔
      (Fn.ofNat? q.1.toNat = some .panel ∧ 250 < q.2.toNat ∨ Fn.ofNat? q.1.toNat = some .fan ∧ 3 < q.2.toNat) ∧
        q.2.toNat ≠ 255 := by
    cases Fn.ofNat? q.1.toNat with
    | none => simp
    | some f => simpa using reduceWire_clamped_iff f q.2
  unfold pairsStatus
  simp only [List.any_eq_true, hpair]

/-! ### The last pair of a function -/

theorem lastValue_append (g : Fn) (ps : List (Byte × Byte)) (q : Byte × Byte) :
    lastValue g (ps ++ [q]) = if Fn.ofNat? q.1.toNat = some g then some q.2 else lastValue g ps := by
  unfold lastValue
  by_cases h : Fn.ofNat? q.1.toNat = some g <;> simp [h]

theorem lastValue_cons (g : Fn) (q : Byte × Byte) (ps : List (Byte × Byte)) :
    lastValue g (q :: ps) = (lastValue g ps).or (if Fn.ofNat? q.1.toNat = some g then some q.2 else none) := by
  unfold lastValue
  rw [List.reverse_cons, List.find?_append, Option.map_or]
  by_cases h : Fn.ofNat? q.1.toNat = some g <;> simp [h]

theorem lastValue_eq_none_iff (g : Fn) (ps : List (Byte × Byte)) :
    lastValue g ps = none ↔ ∀ q ∈ ps, Fn.ofNat? q.1.toNat ≠ some g := by
  simp [lastValue]

/-- The pairs that stand last give each function the value the whole list gives it (R8). -/
theorem lastValue_lastPairs (g : Fn) (ps : List (Byte × Byte)) : lastValue g (lastPairs ps) = lastValue g ps := by
  induction ps with
  | nil => rfl
  | cons q ps ih =>
    unfold lastPairs
    split
    · rename_i h
      obtain ⟨q', hmem, hq'⟩ := List.any_eq_true.mp h
      have hsame : q'.1 = q.1 := eq_of_beq hq'
      rw [ih, lastValue_cons]
      by_cases hg : Fn.ofNat? q.1.toNat = some g
      · cases hl : lastValue g ps with
        | none => exact absurd (hsame ▸ hg) ((lastValue_eq_none_iff g ps).mp hl q' hmem)
        | some v => rfl
      · simp [hg]
    · rw [lastValue_cons, lastValue_cons, ih]

/-! ### The column -/

theorem State.claimPair_cell (s : State) (m : SlotId) (q : Byte × Byte) (g : Fn) (k : Claimant) :
    (s.claimPair m q).cell g k =
      if Fn.ofNat? q.1.toNat = some g ∧ k = m.claimant then wireCell g q.2 else s.cell g k := by
  unfold State.claimPair
  cases hf : Fn.ofNat? q.1.toNat with
  | none => simp
  | some f =>
    simp only [State.writeCell_cell, Option.some.injEq, eq_comm (a := f)]
    by_cases hg : g = f ∧ k = m.claimant
    · rw [if_pos hg, if_pos hg, hg.1]
      rfl
    · rw [if_neg hg, if_neg hg]

/-- Each function a pair names is left as the last of them says (R7). -/
theorem State.claimPairs_cell (s : State) (m : SlotId) (ps : List (Byte × Byte)) (g : Fn) (k : Claimant) :
    (s.claimPairs m ps).cell g k =
      if k = m.claimant then (lastValue g ps).elim (s.cell g k) (wireCell g) else s.cell g k := by
  induction ps using List.reverseRecOn with
  | nil => simp [State.claimPairs, lastValue]
  | append_singleton ps q ih =>
    have hstep : s.claimPairs m (ps ++ [q]) = (s.claimPairs m ps).claimPair m q := by simp [State.claimPairs]
    rw [hstep, State.claimPair_cell, ih, lastValue_append]
    by_cases hk : k = m.claimant <;> by_cases hq : Fn.ofNat? q.1.toNat = some g <;> simp [hk, hq]

/-- The column comes to match the list (R8). -/
theorem State.claimColumn_cell (s : State) (m : SlotId) (ps : List (Byte × Byte)) (g : Fn) (k : Claimant) :
    (s.claimColumn m ps).cell g k =
      if k = m.claimant then (lastValue g ps).bind (wireCell g) else s.cell g k := by
  unfold State.claimColumn
  rw [State.claimPairs_cell, lastValue_lastPairs,
    foldl_cell (k := m.claimant) (F := fun _ _ => none) (fun t f => by simp)
      (fun t f g j _ => State.writeCell_cell ..) _ (Fn.all_nodup.filter _)]
  by_cases hk : k = m.claimant
  · cases hl : lastValue g ps with
    | none =>
      have hun := (lastValue_eq_none_iff g ps).mp hl
      have hmem : g ∈ Fn.all.filter fun f => !ps.any fun p => Fn.ofNat? p.1.toNat == some f := by
        simpa [Fn.mem_all] using hun
      simp [hk, hmem]
    | some v => simp [hk]
  · simp [hk]

/-- The fields a write of the column can change. -/
theorem State.claimPairs_only (s : State) (m : SlotId) (ps : List (Byte × Byte)) :
    let t := s.claimPairs m ps
    t = { s with claims := t.claims, results := t.results, chans := t.chans, queue := t.queue, window := t.window,
                 flash := t.flash, fan := t.fan } :=
  let t := s.claimPairs m ps
  State.claimPairs_keep (fun x => { x with
    claims := t.claims, results := t.results, chans := t.chans, queue := t.queue, window := t.window,
    flash := t.flash, fan := t.fan })
    (fun _ _ => rfl) (fun _ _ => rfl) (fun _ _ => rfl) (fun _ _ => rfl) (fun _ _ => rfl) (fun _ _ => rfl)
    (fun _ _ => rfl) s m ps

theorem State.claimColumn_only (s : State) (m : SlotId) (ps : List (Byte × Byte)) :
    let t := s.claimColumn m ps
    t = { s with claims := t.claims, results := t.results, chans := t.chans, queue := t.queue, window := t.window,
                 flash := t.flash, fan := t.fan } :=
  let t := s.claimColumn m ps
  State.claimColumn_keep (fun x => { x with
    claims := t.claims, results := t.results, chans := t.chans, queue := t.queue, window := t.window,
    flash := t.flash, fan := t.fan })
    (fun _ _ => rfl) (fun _ _ => rfl) (fun _ _ => rfl) (fun _ _ => rfl) (fun _ _ => rfl) (fun _ _ => rfl)
    (fun _ _ => rfl) s m ps

/-! ### The items -/

section
variable {s : State} {p : Port} {f : Frame} {r : Run}

theorem Executing.exec_claim {pairs : List (Byte × Byte)} (h : Executing s p f r (.claim pairs)) :
    exec (.claim p) s = .next (s.claimItem p f.slot pairs) := by
  simp [exec, execClaim, h.itemOn]

theorem Executing.exec_claimAll {pairs : List (Byte × Byte)} (h : Executing s p f r (.claimAll pairs)) :
    exec (.claimAll p) s = .next (s.claimAllItem p f.slot pairs) := by
  simp [exec, execClaimAll, h.itemOn]

/-- An answer with a status other than NO_ROOM leaves the later items to come. -/
theorem answeredWith_iff {t : State} {st : Status} (h : st ≠ .noRoom) :
    AnsweredWith s t p f r st ↔ Answered s t p f r r.items.tail (Status.only st) := by
  unfold AnsweredWith
  rw [if_neg h]

theorem pairsStatus_ne_noRoom (ps : List (Byte × Byte)) : pairsStatus ps ≠ .noRoom := by
  unfold pairsStatus
  split <;> decide

/-- The item whose pairs take the claims from `s` to `u` has taken the state to `t`: refused where a pair names no
function, else answered with the claims of `u`. -/
structure PairsExecuted (s u t : State) (p : Port) (f : Frame) (r : Run) (pairs : List (Byte × Byte)) : Prop where
  refused : pairsKnown pairs = false → RefusedWith s t p f r .badItem
  claims : pairsKnown pairs = true → t.claims = u.claims
  evaluated : s.ResultsEvaluated → t.ResultsEvaluated
  answered : pairsKnown pairs = true → Answered s t p f r r.items.tail (Status.only (pairsStatus pairs))
  only : t = { s with ports := t.ports, claims := t.claims, results := t.results, chans := t.chans, queue := t.queue,
                      window := t.window, flash := t.flash, fan := t.fan }

theorem Executing.pairs {u : State} {i : Item} (h : Executing s p f r i) (pairs : List (Byte × Byte))
    (hres : s.ResultsEvaluated → u.ResultsEvaluated)
    (honly : u = { s with claims := u.claims, results := u.results, chans := u.chans, queue := u.queue,
                          window := u.window, flash := u.flash, fan := u.fan }) :
    PairsExecuted s u
      (if pairsKnown pairs = true then u.answerStatus p (pairsStatus pairs) else s.answerStatus p .badItem)
      p f r pairs := by
  by_cases hk : pairsKnown pairs = true
  · obtain ⟨hans, hkeep⟩ := h.answerStatus (u := u) (by rw [honly]) (pairsStatus pairs)
    rw [if_pos hk]
    refine ⟨fun hn => by simp [hk] at hn, fun _ => ?_, fun hs => ?_, fun _ => ?_, ?_⟩
    · rw [hkeep]
    · rw [hkeep]
      exact hres hs
    · exact (answeredWith_iff (pairsStatus_ne_noRoom pairs)).mp hans
    · rw [hkeep, honly]
  · obtain ⟨hkeep, hans⟩ := h.refused .badItem
    rw [if_neg hk]
    refine ⟨fun _ => ⟨hkeep, hans⟩, fun hn => absurd hn hk, fun hs => ?_, fun hn => absurd hn hk, ?_⟩
    · rw [hkeep]
      exact hs
    · rw [hkeep]

/-- What a CLAIM does (R7). -/
theorem Executing.claimItem {pairs : List (Byte × Byte)} (h : Executing s p f r (.claim pairs)) :
    PairsExecuted s (s.claimPairs f.slot pairs) (s.claimItem p f.slot pairs) p f r pairs :=
  h.pairs pairs (fun hs => State.resultsEvaluated_invariant.claimPairs hs f.slot pairs) (s.claimPairs_only f.slot pairs)

/-- What a CLAIM_ALL does (R8). -/
theorem Executing.claimAllItem {pairs : List (Byte × Byte)} (h : Executing s p f r (.claimAll pairs)) :
    PairsExecuted s (s.claimColumn f.slot pairs) (s.claimAllItem p f.slot pairs) p f r pairs :=
  h.pairs pairs (fun hs => State.resultsEvaluated_invariant.claimColumn hs f.slot pairs) (s.claimColumn_only f.slot pairs)

end

end Sys2Proof.Machine

open Sys2Proof Sys2Proof.Machine

/-- Settles O45: a column's cells by the last pair of each function, and the answer by `PairsExecuted`. -/
theorem claimsWriteColumn : Obligations.ClaimsWriteColumn := by
  refine ⟨fun p f r pairs s h => ⟨_, h.exec_claim, ?_⟩, fun p f r pairs s h => ⟨_, h.exec_claimAll, ?_⟩⟩
  · have hx := h.claimItem
    refine ⟨hx.refused, fun hk => ⟨fun g k => ?_, hx.evaluated, pairsStatus_eq pairs ▸ hx.answered hk⟩, hx.only⟩
    rw [State.cell_congr (hx.claims hk), State.claimPairs_cell]
    cases lastValue g pairs <;> rfl
  · have hx := h.claimAllItem
    refine ⟨hx.refused, fun hk => ⟨fun g k => ?_, hx.evaluated, pairsStatus_eq pairs ▸ hx.answered hk⟩, hx.only⟩
    rw [State.cell_congr (hx.claims hk), State.claimColumn_cell]

/-- Settles O44: `reduceWire` kind by kind, and one pair as a list of pairs. -/
theorem claimValuesReduced : Obligations.ClaimValuesReduced := by
  intro f v
  refine ⟨fun h => reduceWire_withdraw f h, fun h hp hf => reduceWire_onOff h hp hf, fun h => ?_, fun h1 h2 => ?_,
    fun h => ?_, fun h1 h2 => ?_, fun c i p x r s h hc => ?_⟩
  · rw [reduceWire_panel (by omega), min_eq_left h, decide_eq_false (by omega)]
  · rw [reduceWire_panel (by omega), min_eq_right (by omega), decide_eq_true (by omega)]
  · rw [reduceWire_fan (by omega), min_eq_left h, decide_eq_false (by omega)]
  · rw [reduceWire_fan (by omega), min_eq_right (by omega), decide_eq_true (by omega)]
  · have hname := Fn.ofNat?_octet f
    generalize BitVec.ofNat 8 (f.idx.val + 1) = b at hname hc
    have hknown : pairsKnown [(b, v)] = true := by simp [pairsKnown, hname]
    have hlast : lastValue f [(b, v)] = some v := by simp [lastValue, hname]
    have hstatus : pairsStatus [(b, v)] = if (reduceWire f v).2 = true then .clamped else .ok := by
      simp [pairsStatus, hname]
    obtain ⟨rfl, rfl⟩ | ⟨rfl, rfl⟩ := hc
    · have hx := h.claimItem
      refine ⟨_, h.exec_claim, ?_, hstatus ▸ hx.answered hknown⟩
      rw [State.cell_congr (hx.claims hknown), State.claimPairs_cell, if_pos rfl, hlast]
      rfl
    · have hx := h.claimAllItem
      refine ⟨_, h.exec_claimAll, ?_, hstatus ▸ hx.answered hknown⟩
      rw [State.cell_congr (hx.claims hknown), State.claimColumn_cell, if_pos rfl, hlast]
      rfl
end

section
/-! SUPPORT. CONFIG items answered (R175, R185), and the checks and the application of a FUNCTION record (R3, R4). -/

namespace Sys2Proof.Machine
open Sys2Proof

/-! ### CONFIG items -/

section
variable {s : State} {p : Port} {f : Frame} {r : Run} {i : Item} {α : Type}

/-- A record that its own checks refuse. -/
theorem Executing.config_refused (h : Executing s p f r i) (ht : s.configTest f.slot = none) (st : Status)
    (apply : State → α → State) (record : α → ConfigRecord) (skip : α → Option Status) :
    RefusedWith s (s.configItem p f.slot (.refused st) apply record skip) p f r st := by
  unfold State.configItem
  rw [ht]
  exact h.refused st

/-- A record that is accepted is applied, its store write begun, and the item answered; the later items are still to
come. -/
theorem Executing.config_accepted (h : Executing s p f r i) (ht : s.configTest f.slot = none) (x : α) (clamped : Bool)
    {apply : State → α → State} (record : α → ConfigRecord) {skip : α → Option Status} (hskip : skip x = none)
    (hports : (apply s x).ports = s.ports) :
    let t := s.configItem p f.slot (.accepted x clamped) apply record skip
    Answered s t p f r r.items.tail (Status.only (acceptedStatus clamped)) ∧
      t = { apply s x with storeWrite := some (record x), ports := t.ports } := by
  unfold State.configItem
  rw [ht]
  dsimp only
  rw [hskip]
  exact h.answer (u := (apply s x).setStoreWrite (some (record x))) hports _

/-- A record that is accepted and leaves the later items unexecuted. -/
theorem Executing.config_acceptedSkip (h : Executing s p f r i) (ht : s.configTest f.slot = none) (x : α)
    (clamped : Bool) {apply : State → α → State} (record : α → ConfigRecord) {skip : α → Option Status} {st : Status}
    (hskip : skip x = some st) (hports : (apply s x).ports = s.ports) :
    let t := s.configItem p f.slot (.accepted x clamped) apply record skip
    Answered s t p f r [] (⟨acceptedStatus clamped, none⟩ :: r.items.tail.map fun _ => ⟨st, none⟩) ∧
      t = { apply s x with storeWrite := some (record x), ports := t.ports } := by
  unfold State.configItem
  rw [ht]
  dsimp only
  rw [hskip]
  exact h.answerSkip (u := (apply s x).setStoreWrite (some (record x))) hports _ st

theorem Executing.exec_configFunction {w : WFunction} (h : Executing s p f r (.config (.function w))) :
    exec (.configFunction p) s = .next (s.configItem p f.slot (checkFunction w) State.applyFunction
      (fun x => .function x.1 x.2) noSkip) := by
  simp [exec, execConfigFunction, h.itemOn]

end

/-! ### The checks of a FUNCTION record -/

theorem Fn.ofNat?_eq_none {n : Nat} (h : n = 0 ∨ 15 < n) : Fn.ofNat? n = none := by
  unfold Fn.ofNat?
  rcases h with rfl | h
  · rfl
  · rw [if_neg (by omega)]
    exact List.getElem?_eq_none (by simp [Fn.all]; omega)

theorem neverShed_iff (f : Fn) :
    neverShed f = true ↔ f = .side ∨ f = .headDip ∨ f = .stop ∨ f = .turnL ∨ f = .turnR ∨ f = .hazard := by
  simp [neverShed, or_assoc]

theorem map_some_filterMap_id {α : Type} {l : List (Option α)} (h : none ∉ l) : (l.filterMap id).map some = l := by
  induction l with
  | nil => rfl
  | cons o l ih =>
    cases o with
    | none => exact absurd List.mem_cons_self h
    | some a => exact congrArg (some a :: ·) (ih fun hl => h (List.mem_cons_of_mem _ hl))

/-- A wire rank order that names each claimant, in its four places (R3). -/
def OrderNamesEach (order : List (Option Claimant)) : Prop := order.length = 4 ∧ ∀ k : Claimant, some k ∈ order

theorem OrderNamesEach.perm {order : List (Option Claimant)} (h : OrderNamesEach order) :
    (allClaimants.map some).Perm order := by
  obtain ⟨hlen, hmem⟩ := h
  have hnodup : (allClaimants.map some).Nodup := by decide
  have hsub : allClaimants.map some ⊆ order := by
    intro o ho
    obtain ⟨k, -, rfl⟩ := List.mem_map.mp ho
    exact hmem k
  exact (List.subperm_of_subset hnodup hsub).perm_of_length_le (by simp [hlen, allClaimants])

/-- Each place of it holds a claimant. -/
theorem OrderNamesEach.map_some {order : List (Option Claimant)} (h : OrderNamesEach order) :
    (order.filterMap id).map some = order :=
  map_some_filterMap_id fun hn => by simpa using h.perm.mem_iff.mpr hn

theorem rankOrderOk_iff (order : List (Option Claimant)) :
    (order.length = 4 ∧ rankOrderOk (order.filterMap id) = true) ↔ OrderNamesEach order := by
  have hok : rankOrderOk (order.filterMap id) = true ↔
      (order.filterMap id).length = 4 ∧ ∀ k : Claimant, some k ∈ order := by
    simp [rankOrderOk, mem_allClaimants]
  rw [hok]
  refine ⟨fun h => ⟨h.1, h.2.2⟩, fun h => ⟨h.1, ?_, h.2⟩⟩
  rw [← List.length_map some, h.map_some]
  exact h.1

section
variable {w : WFunction} {g : Fn}

theorem checkFunction_noFn (h : w.fn = 0 ∨ 15 < w.fn) : checkFunction w = .refused .badItem := by
  simp [checkFunction, Fn.ofNat?_eq_none h]

theorem checkFunction_badValue (hg : w.fn = g.idx.val + 1)
    (h : w.gate = none ∨ w.policy = none ∨ w.rank = none ∨ w.combine = none ∨ ¬ OrderNamesEach w.order) :
    checkFunction w = .refused .badValue := by
  unfold checkFunction
  rw [hg, Fn.ofNat?_idx]
  dsimp only
  split
  · rename_i gate policy rank combine hgate hpolicy hrank hcombine
    have hbad : ¬ OrderNamesEach w.order := by simpa [hgate, hpolicy, hrank, hcombine] using h
    rw [if_neg (mt (rankOrderOk_iff w.order).mp hbad)]
  · rfl

theorem checkFunction_accepted (hg : w.fn = g.idx.val + 1) {gate : Gate} {policy : OrphanPolicy} {rank : ShedRank}
    {combine : Combine} (hgate : w.gate = some gate) (hpolicy : w.policy = some policy) (hrank : w.rank = some rank)
    (hcombine : w.combine = some combine) (horder : OrderNamesEach w.order) :
    checkFunction w = .accepted
      (g, { gate := gate, policy := policy, hold := min 12000 w.hold, rank := if neverShed g then .never else rank,
            combine := combine, order := w.order.filterMap id })
      (decide (12000 < w.hold ∨ neverShed g = true ∧ rank ≠ .never)) := by
  have hclamped : (min 12000 w.hold != w.hold || (if neverShed g = true then .never else rank) != rank) =
      decide (12000 < w.hold ∨ neverShed g = true ∧ rank ≠ .never) := by
    rw [Bool.eq_iff_iff]
    by_cases hn : neverShed g = true <;> simp [hn, eq_comm (a := rank)]
  unfold checkFunction
  rw [hg, Fn.ofNat?_idx, hgate, hpolicy, hrank, hcombine]
  dsimp only
  rw [if_pos ((rankOrderOk_iff w.order).mpr horder), hclamped]

end

/-! ### A FUNCTION record applied -/

/-- An orphaned claim under the new record, policy by policy (R4). -/
theorem repolicied_eq (old new : FunctionRec) (c : Claim) :
    repolicied old new c =
      if c.orphaned = false then some c
      else match new.policy with
        | .keep => some (if old.policy = .keep then { c with hold := c.hold.map (min new.hold) }
            else { c with orphaned := true, hold := none })
        | .drop => if old.policy = .drop then some { c with hold := c.hold.map (min new.hold) } else none
        | .hold => if new.hold = 0 then none
            else if old.policy = .hold then some { c with hold := c.hold.map (min new.hold) }
            else some { c with orphaned := true, hold := some new.hold } := by
  unfold repolicied orphanedClaim
  by_cases ho : c.orphaned = false
  · rw [if_pos ho, if_pos ho]
  · rw [if_neg ho, if_neg ho]
    cases new.policy with
    | keep => by_cases h : old.policy = .keep <;> simp [h, eq_comm (b := old.policy)]
    | drop => by_cases h : old.policy = .drop <;> simp [h, eq_comm (b := old.policy)]
    | hold =>
      by_cases h : old.policy = .hold <;> by_cases h0 : new.hold = 0 <;> simp [h, h0, eq_comm (b := old.policy)]

section
variable (s : State) (x : Fn × FunctionRec)

theorem State.applyFunction_cell (g : Fn) (k : Claimant) :
    (s.applyFunction x).cell g k =
      if g = x.1 then (s.cell g k).bind (repolicied (s.fnRec g) x.2) else s.cell g k := by
  rw [State.applyFunction_eq, State.reevaluate_cell, State.repolicy_cell]

theorem State.applyFunction_fnRec (g : Fn) : (s.applyFunction x).fnRec g = if g = x.1 then x.2 else s.fnRec g := by
  have hcfg : (s.applyFunction x).cfg = (s.repolicy x).cfg := by
    rw [State.applyFunction_eq]
    simp
  unfold State.fnRec
  rw [hcfg]
  exact s.repolicy_fnRec x g

/-- The function is re-evaluated, and no other. -/
theorem State.applyFunction_result (g : Fn) :
    (s.applyFunction x).result g = if g = x.1 then (s.applyFunction x).evaluated g else s.result g := by
  rw [State.applyFunction_eq, State.reevaluate_result, State.reevaluate_evaluated]
  by_cases hg : g = x.1
  · rw [if_pos hg, if_pos hg, hg]
  · rw [if_neg hg, if_neg hg]
    rfl

theorem State.applyFunction_only :
    let t := s.applyFunction x
    t = { s with cfg := { s.cfg with functions := t.cfg.functions }, claims := t.claims, results := t.results,
                 chans := t.chans, queue := t.queue, window := t.window, flash := t.flash, fan := t.fan } := by
  intro t
  have ht : t = { s.repolicy x with
      results := t.results, chans := t.chans, queue := t.queue, window := t.window, flash := t.flash, fan := t.fan } :=
    State.reevaluate_keep (fun y => { y with
      results := t.results, chans := t.chans, queue := t.queue, window := t.window, flash := t.flash, fan := t.fan })
      (fun _ _ => rfl) (fun _ _ => rfl) (fun _ _ => rfl) (fun _ _ => rfl) (fun _ _ => rfl) (fun _ _ => rfl)
      (s.repolicy x) x.1
  have hcfg : t.cfg.functions = (s.repolicy x).cfg.functions := congrArg (·.cfg.functions) ht
  have hclaims : t.claims = (s.repolicy x).claims := congrArg (·.claims) ht
  rw [hcfg, hclaims]
  exact ht

end

end Sys2Proof.Machine

open Sys2Proof Sys2Proof.Machine

/-- Settles O51: the checks by `checkFunction`, the effects by `applyFunction`, the answer by
`Executing.config_accepted`. -/
theorem configFunctionApplied : Obligations.ConfigFunctionApplied := by
  intro p f r w s h ht
  refine ⟨_, h.exec_configFunction, fun hfn => ?_, fun g hg => ⟨fun hbad => ?_, ?_⟩⟩
  · rw [checkFunction_noFn hfn]
    exact h.config_refused ht ..
  · rw [checkFunction_badValue hg hbad]
    exact h.config_refused ht ..
  · intro gate policy rank combine hgate hpolicy hrank hcombine horder forced x
    have hforced : neverShed g = true ↔ forced := neverShed_iff g
    have hcheck := checkFunction_accepted hg hgate hpolicy hrank hcombine horder
    simp only [hforced] at hcheck
    rw [hcheck]
    obtain ⟨hans, honly⟩ := h.config_accepted ht (g, x) (decide (12000 < w.hold ∨ forced ∧ rank ≠ .never))
      (apply := State.applyFunction) (fun x => .function x.1 x.2) (skip := noSkip) rfl (by simp)
    revert hans honly
    generalize s.configItem p f.slot _ _ _ _ = t
    intro hans honly
    obtain ⟨ports, rfl⟩ : ∃ ports, t = { s.applyFunction (g, x) with storeWrite := some (.function g x), ports := ports } :=
      ⟨_, honly⟩
    refine ⟨?_, OrderNamesEach.map_some horder, fun k hk => ?_, rfl, ?_, fun k hk => ?_, fun k j hk => ?_, fun k => ?_,
      hans, ?_⟩
    · exact (s.applyFunction_fnRec (g, x) g).trans (if_pos rfl)
    · exact (s.applyFunction_fnRec (g, x) k).trans (if_neg hk)
    · exact (s.applyFunction_result (g, x) g).trans (if_pos rfl)
    · exact (s.applyFunction_result (g, x) k).trans (if_neg hk)
    · exact (s.applyFunction_cell (g, x) k j).trans (if_neg hk)
    · refine ((s.applyFunction_cell (g, x) g k).trans (if_pos rfl)).trans ?_
      exact congrArg (s.cell g k).bind (funext fun y => repolicied_eq (s.fnRec g) x y)
    · exact congrArg (fun u : State => { u with storeWrite := some (.function g x), ports := ports })
        (s.applyFunction_only (g, x))
end

section
/-! SUPPORT. The checks and the application of a SLOT record (R20, R22, R181; log 29). -/

namespace Sys2Proof.Machine
open Sys2Proof

/-! ### The checks of a SLOT record -/

theorem SlotId.mem_others (m n : SlotId) : n ∈ m.others ↔ n ≠ m := by cases m <;> cases n <;> decide

theorem SlotRec.clashes_iff (x : SlotRec) (s : State) (m : SlotId) :
    x.clashes (m.others.map s.slotRec) = true ↔
      ∃ n : SlotId, n ≠ m ∧ (s.slotRec n).port = x.port ∧ (s.slotRec n).source = x.source := by
  simp [SlotRec.clashes, SlotId.mem_others]

theorem State.slotMoves_iff (s : State) (m : SlotId) (x : SlotRec) :
    s.slotMoves m x = true ↔ x.port ≠ (s.slotRec m).port ∨ x.source ≠ (s.slotRec m).source := by
  simp [State.slotMoves]

theorem State.frameWaits_iff (s : State) (p : Port) (m : SlotId) :
    s.frameWaits p m = true ↔
      ∃ q : Port, ∃ y ∈ (if q = p then (s.port q).queue.tail else (s.port q).queue), y.slot = m := by
  simp only [State.frameWaits, List.any_eq_true, beq_iff_eq, mem_allPorts, true_and]

/-- The record in force where a SLOT record is accepted: clamped, with the CLAIM right (R22). -/
def WSlot.record (w : WSlot) (port : Port) : SlotRec :=
  { port := port, source := clampTo 1 126 w.source, rights := { w.rights with claim := true },
    timeout := clampTo 20 1000 w.timeout, mask := w.mask }

/-- The record differs from the one that was written. -/
def WSlot.isClamped (w : WSlot) (port : Port) : Prop :=
  (w.record port).source ≠ w.source ∨ (w.record port).timeout ≠ w.timeout ∨ w.rights.claim = false

section
variable {s : State} {p : Port} {w : WSlot} {m : SlotId} {port : Port}

theorem State.checkSlot_noSlot (h : w.slot = none) : s.checkSlot p w = .refused .badItem := by
  simp [State.checkSlot, h]

theorem State.checkSlot_noPort (hm : w.slot ≠ none) (h : w.port = none) : s.checkSlot p w = .refused .badValue := by
  obtain ⟨m, hm⟩ := Option.ne_none_iff_exists'.mp hm
  simp [State.checkSlot, hm, h]

/-- The checks after the slot and the port are known, in their order (log 29). -/
theorem State.checkSlot_eq (hm : w.slot = some m) (hp : w.port = some port) (b : Bool) (hb : b = true ↔ w.isClamped port) :
    s.checkSlot p w =
      if (w.record port).clashes (m.others.map s.slotRec) = true then .refused .badValue
      else if (s.slotMoves m (w.record port) && s.frameWaits p m) = true then .refused .inUse
      else .accepted (m, w.record port) b := by
  have hclamped : ((w.record port).source != w.source || (w.record port).timeout != w.timeout || !w.rights.claim) = b := by
    rw [Bool.eq_iff_iff, hb]
    simp [WSlot.isClamped, or_assoc]
  unfold State.checkSlot
  rw [hm, hp, ← hclamped]
  rfl

end

/-! ### A SLOT record applied -/

theorem State.forgetSlot_only (s : State) (m : SlotId) :
    let t := s.forgetSlot m
    t = { s with slots := t.slots, claims := t.claims, results := t.results, chans := t.chans, queue := t.queue,
                 window := t.window, flash := t.flash, fan := t.fan } :=
  let t := s.forgetSlot m
  State.forgetSlot_keep (fun x => { x with
    slots := t.slots, claims := t.claims, results := t.results, chans := t.chans, queue := t.queue,
    window := t.window, flash := t.flash, fan := t.fan })
    (fun _ _ => rfl) (fun _ _ => rfl) (fun _ _ => rfl) (fun _ _ => rfl) (fun _ _ => rfl) (fun _ _ => rfl)
    (fun _ _ => rfl) (fun _ _ => rfl) s m

/-- The three ways a SLOT record takes effect: the slot moves and is forgotten (R22), falls silent under the new timeout
(R20), or goes on as it was. -/
inductive SlotApplied (s : State) (x : SlotId × SlotRec) (moves falls : Prop) (t : State) : Prop
  | moves (hm : moves) (hf : ¬ falls) (ht : t = (s.setRecord x).forgetSlot x.1)
  | falls (hm : ¬ moves) (hf : falls) (ht : t = (s.setRecord x).fallSilent x.1 false)
  | stays (hm : ¬ moves) (hf : ¬ falls) (ht : t = s.setRecord x)

theorem State.applySlot_applied {s : State} {x : SlotId × SlotRec} {moves falls : Prop}
    (hm : s.slotMoves x.1 x.2 = true ↔ moves) (hf : falls ↔ ¬ moves ∧ s.slotFalls x) :
    SlotApplied s x moves falls (s.applySlot x) := by
  by_cases hmoves : moves
  · exact .moves hmoves (fun h => (hf.mp h).1 hmoves) (State.applySlot_moves (hm.mpr hmoves))
  · have hstays : s.slotMoves x.1 x.2 = false := Bool.eq_false_iff.mpr (mt hm.mp hmoves)
    by_cases hfalls : falls
    · exact .falls hmoves hfalls (State.applySlot_falls hstays (hf.mp hfalls).2)
    · exact .stays hmoves hfalls (State.applySlot_stays hstays fun h => hfalls (hf.mpr ⟨hmoves, h⟩))

namespace SlotApplied

variable {s t : State} {x : SlotId × SlotRec} {moves falls : Prop}

theorem slotRec (h : SlotApplied s x moves falls t) (n : SlotId) : t.slotRec n = if n = x.1 then x.2 else s.slotRec n := by
  rw [← State.setRecord_slotRec]
  cases h with
  | moves _ _ ht => exact State.slotRec_congr (by rw [ht]; simp) n
  | falls _ _ ht => exact State.slotRec_congr (by rw [ht]; simp) n
  | stays _ _ ht => rw [ht]

/-- The slot itself: its pending set under the new mask, and whether it is forgotten or falls silent. -/
theorem slot_self [Decidable moves] [Decidable falls] (h : SlotApplied s x moves falls t) :
    (t.slot x.1).pending = (s.slot x.1).pending &&& x.2.mask ∧
    (t.slot x.1).st = (if moves then .unheard else if falls then .silent else (s.slot x.1).st) ∧
    (t.slot x.1).timer = if moves ∨ falls then none else (s.slot x.1).timer := by
  cases h with
  | moves hm hf ht => simp [ht, hm, State.forgetSlot_slot, State.setRecord_slot]
  | falls hm hf ht => simp [ht, hm, hf, State.fallSilent_slot, State.setRecord_slot]
  | stays hm hf ht => simp [ht, hm, hf, State.setRecord_slot]

/-- The other slots: MASTER is raised where the slot had been heard and moves, and where it falls silent. -/
theorem slot_other [Decidable moves] [Decidable falls] (h : SlotApplied s x moves falls t) {n : SlotId} (hn : n ≠ x.1) :
    t.slot n = if moves ∧ (s.slot x.1).st ≠ .unheard ∨ falls then s.raisedTo .master n else s.slot n := by
  have hslot : (s.setRecord x).slot n = s.slot n := by rw [State.setRecord_slot, if_neg hn]
  have hraised : (s.setRecord x).raisedTo .master n = s.raisedTo .master n :=
    State.raisedTo_congr hslot (by rw [State.setRecord_slotRec, if_neg hn]) _
  cases h with
  | moves hm hf ht =>
    rw [ht, State.forgetSlot_slot, if_neg hn, hslot, hraised, State.setRecord_slot, if_pos rfl]
    by_cases hu : (s.slot x.1).st = .unheard <;> simp [hm, hf, hu]
  | falls hm hf ht => rw [ht, State.fallSilent_slot, if_neg hn, hraised, if_pos (.inr hf)]
  | stays hm hf ht => rw [ht, hslot, if_neg (by simp [hm, hf])]

/-- The claims of the slot's column. -/
theorem cell_self [Decidable moves] [Decidable falls] (h : SlotApplied s x moves falls t) (g : Fn) :
    t.cell g x.1.claimant =
      if moves then none
      else if falls then (s.cell g x.1.claimant).bind (orphanedClaim (s.fnRec g).policy (s.fnRec g).hold)
      else s.cell g x.1.claimant := by
  cases h with
  | moves hm hf ht => rw [ht, State.forgetSlot_cell, if_pos rfl, if_pos hm]
  | falls hm hf ht =>
    rw [ht, State.fallSilent_cell, if_pos rfl, if_neg hm, if_pos hf]
    rfl
  | stays hm hf ht =>
    rw [ht, if_neg hm, if_neg hf]
    rfl

theorem only (h : SlotApplied s x moves falls t) :
    t = { s with cfg := { s.cfg with slots := t.cfg.slots }, slots := t.slots, claims := t.claims,
                 results := t.results, chans := t.chans, queue := t.queue, window := t.window, flash := t.flash,
                 fan := t.fan } := by
  have hrecord : t = { s.setRecord x with
      slots := t.slots, claims := t.claims, results := t.results, chans := t.chans, queue := t.queue,
      window := t.window, flash := t.flash, fan := t.fan } := by
    cases h with
    | moves _ _ ht =>
      rw [ht]
      exact State.forgetSlot_only ..
    | falls _ _ ht =>
      rw [ht]
      exact State.fallSilent_only ..
    | stays _ _ ht => rw [ht]
  have hslots : t.cfg.slots = (s.setRecord x).cfg.slots := congrArg (·.cfg.slots) hrecord
  rw [hslots]
  exact hrecord

/-- Without a move and a silence no result changes. -/
theorem results (h : SlotApplied s x moves falls t) (hm : ¬ moves) (hf : ¬ falls) : t.results = s.results := by
  cases h with
  | moves hm' _ _ => exact absurd hm' hm
  | falls _ hf' _ => exact absurd hf' hf
  | stays _ _ ht =>
    rw [ht]
    rfl

end SlotApplied

/-! ### The item -/

section
variable {s : State} {p : Port} {f : Frame} {r : Run} {w : WSlot}

theorem Executing.exec_configSlot (h : Executing s p f r (.config (.slot w))) :
    exec (.configSlot p) s = .next (s.configItem p f.slot (s.checkSlot p w) State.applySlot
      (fun x => .slot x.1 x.2) (s.slotSkip f.slot)) := by
  simp [exec, execConfigSlot, h.itemOn]

/-- The answer to an accepted SLOT record: one that moves the requesting slot leaves the later items BUSY (R22). -/
theorem Executing.configSlot_accepted {i : Item} (h : Executing s p f r i) (ht : s.configTest f.slot = none)
    (x : SlotId × SlotRec) (clamped : Bool) {moves : Prop} [Decidable moves]
    (hm : s.slotMoves x.1 x.2 = true ↔ moves) :
    let t := s.configItem p f.slot (.accepted x clamped) State.applySlot (fun x => .slot x.1 x.2) (s.slotSkip f.slot)
    (if moves ∧ x.1 = f.slot then
      Answered s t p f r [] (⟨acceptedStatus clamped, none⟩ :: r.items.tail.map fun _ => ⟨.busy, none⟩)
    else Answered s t p f r r.items.tail (Status.only (acceptedStatus clamped))) ∧
      t = { s.applySlot x with storeWrite := some (.slot x.1 x.2), ports := t.ports } := by
  intro t
  by_cases hskip : moves ∧ x.1 = f.slot
  · rw [if_pos hskip]
    exact h.config_acceptedSkip ht x clamped _ (if_pos ⟨hskip.2, hm.mpr hskip.1⟩) (by simp)
  · rw [if_neg hskip]
    exact h.config_accepted ht x clamped _ (if_neg fun e => hskip ⟨hm.mp e.2, e.1⟩) (by simp)

end

end Sys2Proof.Machine

open Sys2Proof Sys2Proof.Machine

/-- Settles O50: the checks by `checkSlot`, the effects by the three ways of `SlotApplied`, the answer by
`Executing.configSlot_accepted`. -/
theorem configSlotApplied : Obligations.ConfigSlotApplied := by
  intro p f r w s h ht
  refine ⟨_, h.exec_configSlot, fun hn => ?_, fun hs hp => ?_, fun m port hs hp => ?_⟩
  · rw [State.checkSlot_noSlot hn]
    exact h.config_refused ht ..
  · rw [State.checkSlot_noPort hs hp]
    exact h.config_refused ht ..
  · intro x clash moves waits status falls
    have hclash : x.clashes (m.others.map s.slotRec) = true ↔ clash := SlotRec.clashes_iff x s m
    have hmoves : s.slotMoves m x = true ↔ moves := s.slotMoves_iff m x
    have hwaits : s.frameWaits p m = true ↔ waits := s.frameWaits_iff p m
    have hwaiting : (s.slotMoves m x && s.frameWaits p m) = true ↔ moves ∧ waits := by
      rw [Bool.and_eq_true, hmoves, hwaits]
    have hcheck : s.checkSlot p w =
        if x.clashes (m.others.map s.slotRec) = true then .refused .badValue
        else if (s.slotMoves m x && s.frameWaits p m) = true then .refused .inUse
        else .accepted (m, x) (decide (x.source ≠ w.source ∨ x.timeout ≠ w.timeout ∨ w.rights.claim = false)) :=
      State.checkSlot_eq hs hp _ decide_eq_true_iff
    rw [hcheck]
    refine ⟨fun hc => ?_, fun hc hm hw => ?_, fun hc hmw => ?_⟩
    · rw [if_pos (hclash.mpr hc)]
      exact h.config_refused ht ..
    · rw [if_neg (mt hclash.mp hc), if_pos (hwaiting.mpr ⟨hm, hw⟩)]
      exact h.config_refused ht ..
    · rw [if_neg (mt hclash.mp hc), if_neg (mt hwaiting.mp hmw)]
      obtain ⟨hans, honly⟩ := h.configSlot_accepted ht (m, x)
        (decide (x.source ≠ w.source ∨ x.timeout ≠ w.timeout ∨ w.rights.claim = false)) hmoves
      have happlied : SlotApplied s (m, x) moves falls (s.applySlot (m, x)) := State.applySlot_applied hmoves Iff.rfl
      have hres := State.resultsEvaluated_slotFree.applySlot (s := s) (x := (m, x))
      have hother := s.applySlot_cell_other (m, x)
      revert hans honly
      generalize s.configItem p f.slot _ _ _ _ = t
      intro hans honly
      obtain ⟨ports, rfl⟩ : ∃ ports, t = { s.applySlot (m, x) with storeWrite := some (.slot m x), ports := ports } :=
        ⟨_, honly⟩
      obtain ⟨hpending, hst, htimer⟩ := happlied.slot_self
      refine ⟨(happlied.slotRec m).trans (if_pos rfl), fun n hn => (happlied.slotRec n).trans (if_neg hn), rfl, hpending,
        hst, htimer, fun n hn => happlied.slot_other hn, fun g => ?_, hother, happlied.results, hres, hans, ?_⟩
      · exact happlied.cell_self g
      · exact congrArg (fun u : State => { u with storeWrite := some (.slot m x), ports := ports }) happlied.only
end

section
/-! SUPPORT. What the map holds (R25, R27), and what the active entries of a channel give it (R26, R32 to R35, R38). -/

namespace Sys2Proof.Machine
open Sys2Proof

/-! ### Entries -/

theorem mem_mapEntries {map : Vector (Option MapEntry) 32} {e : MapEntry} :
    e ∈ map.toList.filterMap id ↔ ∃ i : Fin 32, map[i] = some e := by
  constructor
  · intro h
    have hm : some e ∈ map := by simpa using h
    obtain ⟨i, hi, he⟩ := Vector.mem_iff_getElem.mp hm
    exact ⟨⟨i, hi⟩, he⟩
  · rintro ⟨i, he⟩
    have hm : some e ∈ map := Vector.mem_iff_getElem.mpr ⟨i.val, i.isLt, he⟩
    simpa using hm

theorem State.mem_entries {s : State} {e : MapEntry} : e ∈ s.entries ↔ ∃ i : Fin 32, s.cfg.map[i] = some e :=
  mem_mapEntries

theorem State.mem_entriesOn {s : State} {c : Channel} {e : MapEntry} :
    e ∈ s.entriesOn c ↔ e ∈ s.entries ∧ e.chan = c := by
  simp [State.entriesOn]

/-- The fan channel is the channel of a FAN entry. -/
theorem State.fanChannel_entry {s : State} {c : Channel} (h : s.fanChannel = some c) :
    ∃ e ∈ s.entries, e.fn = .fan ∧ e.chan = c := by
  obtain ⟨e, he, hc⟩ := Option.map_eq_some_iff.mp h
  exact ⟨e, List.mem_of_find?_eq_some he, by simpa using List.find?_some he, hc⟩

theorem State.fanChannel_eq_none {s : State} : s.fanChannel = none ↔ ∀ e ∈ s.entries, e.fn ≠ .fan := by
  simp [State.fanChannel]

theorem State.isFan_iff {s : State} {c : Channel} : s.isFan c = true ↔ s.fanChannel = some c := by simp [State.isFan]

theorem State.isFan_false_iff {s : State} {c : Channel} : s.isFan c = false ↔ s.fanChannel ≠ some c := by
  simp [State.isFan]

theorem State.isFan_congr {s t : State} (h : t.cfg = s.cfg) (c : Channel) : t.isFan c = s.isFan c := by
  simp [State.isFan, State.fanChannel, State.entries, h]

theorem State.fanChannel_congr {s t : State} (h : t.cfg = s.cfg) : t.fanChannel = s.fanChannel := by
  simp [State.fanChannel, State.entries, h]

theorem State.chRec_congr {s t : State} (h : t.cfg = s.cfg) (c : Channel) : t.chRec c = s.chRec c := by
  unfold State.chRec
  rw [h]

/-- A FAN entry is the fan channel's. -/
theorem State.MapChecked.fanChannel {s : State} (h : s.MapChecked) {e : MapEntry} (he : e ∈ s.entries)
    (hf : e.fn = .fan) : s.fanChannel = some e.chan := by
  obtain ⟨x, hx⟩ : ∃ x, s.entries.find? (fun e => e.fn == .fan) = some x :=
    Option.isSome_iff_exists.mp (List.find?_isSome.mpr ⟨e, he, by simp [hf]⟩)
  have hfan : x.fn = .fan := by simpa using List.find?_some hx
  obtain ⟨i, hi⟩ := State.mem_entries.mp he
  obtain ⟨j, hj⟩ := State.mem_entries.mp (List.mem_of_find?_eq_some hx)
  obtain rfl := h.2.2 i j e x hi hj hf (.inl hfan)
  obtain rfl : x = e := Option.some.inj (hj.symm.trans hi)
  simp [State.fanChannel, hx]

theorem State.MapChecked.fan_motor {s : State} (h : s.MapChecked) {c : Channel} (hc : s.fanChannel = some c) :
    (s.chRec c).kind = .motor := by
  obtain ⟨e, he, hf, rfl⟩ := State.fanChannel_entry hc
  exact h.2.1 e he hf

/-! ### Active entries -/

theorem State.resultOn_iff (s : State) (f : Fn) : s.resultOn f = true ↔ s.result f ≠ 0 := by simp [State.resultOn]

theorem State.flashDemand_iff (s : State) :
    s.flashDemand = false ↔ s.result .turnL = 0 ∧ s.result .turnR = 0 ∧ s.result .hazard = 0 := by
  simp [State.flashDemand, State.resultOn, and_assoc]

/-- Which entries are active (R32, R33). -/
theorem State.entryActive_iff (s : State) (e : MapEntry) :
    s.entryActive e = true ↔
      if e.contrib = .flash ∧ e.fn = .turnL then s.result .turnL ≠ 0 ∨ s.result .hazard ≠ 0
      else if e.contrib = .flash ∧ e.fn = .turnR then s.result .turnR ≠ 0 ∨ s.result .hazard ≠ 0
      else s.result e.fn ≠ 0 := by
  obtain ⟨f, c, k⟩ := e
  unfold State.entryActive
  split
  · rename_i hk hf
    obtain ⟨rfl, rfl⟩ : k = .flash ∧ f = .turnL := ⟨hk, hf⟩
    simp [State.leftSide, State.resultOn]
  · rename_i hk hf
    obtain ⟨rfl, rfl⟩ : k = .flash ∧ f = .turnR := ⟨hk, hf⟩
    simp [State.rightSide, State.resultOn]
  · rename_i hl hr
    rw [if_neg fun h => hl h.1 h.2, if_neg fun h => hr h.1 h.2]
    exact s.resultOn_iff f

/-- An active entry of a channel. -/
def State.Gives (s : State) (c : Channel) (e : MapEntry) : Prop := e ∈ s.entriesOn c ∧ s.entryActive e = true

theorem State.follows_iff {s : State} {c : Channel} : s.follows c = true ↔ ∃ e, s.Gives c e ∧ e.contrib = .flash := by
  simp [State.follows, State.Gives, and_assoc, and_comm (a := _ = Contribution.flash)]

theorem State.stopActive_iff {s : State} {c : Channel} : s.stopActive c = true ↔ ∃ e, s.Gives c e ∧ e.fn = .stop := by
  simp [State.stopActive, State.Gives, and_assoc, and_comm (a := _ = Fn.stop)]

theorem State.anyActive_iff {s : State} {c : Channel} : s.anyActive c = true ↔ ∃ e, s.Gives c e := by
  simp [State.anyActive, State.Gives]

theorem State.composed_follows {s : State} {c : Channel} (h : s.follows c = true) :
    s.composed c = (if s.onPhase then 250 else 0, .flash) := by
  rw [State.composed, if_pos h]

theorem State.composed_steady {s : State} {c : Channel} (h : s.follows c = false) :
    s.composed c = (s.steadyDemand c, .steady) := by
  rw [State.composed, if_neg (by simp [h])]

theorem State.onPhase_iff (s : State) : s.onPhase = true ↔ s.flash.state = .onPhase := by
  unfold State.onPhase Flash.state
  cases s.flash.phase <;> simp

/-- The steady demand is 0 or the largest of the duties of the active entries (R35). -/
theorem State.steadyDemand_largest (s : State) (c : Channel) :
    (∀ e, s.Gives c e → s.steadyDuty e ≤ s.steadyDemand c) ∧
      (s.steadyDemand c = 0 ∨ ∃ e, s.Gives c e ∧ s.steadyDuty e = s.steadyDemand c) := by
  have hmax : s.steadyDemand c = (((s.entriesOn c).filter s.entryActive).map s.steadyDuty).max?.getD 0 := by
    rw [State.steadyDemand, ← List.foldl_map (f := s.steadyDuty) (g := max), List.foldl_max]
    simp
  have hmem (e : MapEntry) : e ∈ (s.entriesOn c).filter s.entryActive ↔ s.Gives c e := by simp [State.Gives]
  rw [hmax]
  refine ⟨fun e he => List.le_max?_getD_of_mem (List.mem_map_of_mem ((hmem e).mpr he)), ?_⟩
  cases hv : (((s.entriesOn c).filter s.entryActive).map s.steadyDuty).max? with
  | none => exact .inl rfl
  | some v =>
    obtain ⟨e, he, rfl⟩ := List.mem_map.mp (List.max?_mem hv)
    exact .inr ⟨e, (hmem e).mp he, rfl⟩

end Sys2Proof.Machine
end

section
/-! SUPPORT. What the output stage and the fan unit leave: of the channels' demands and marks they write the fan channel's
alone (R36, R160), and of the fan unit they leave its target (R159). -/

namespace Sys2Proof.Machine
open Sys2Proof

/-- What the composer and the gauge unit write of a channel: demand, source, stop mark and entry presence (R38, R152). -/
def Chan.written (ch : Chan) : Nat × DemandSource × Bool × Bool := (ch.demand, ch.source, ch.stop, ch.present)

/-- The fields that neither the output stage nor the fan unit reaches and that demands are made from. -/
def State.sources (s : State) : Working × Vector Nat 15 × PerInput Input × Flash × Supervisor × PerGauge GaugeSlot :=
  (s.cfg, s.results, s.inputs, s.flash, s.sup, s.gauges)

/-- The steps a fan result asks for, and T (R159). -/
def Fan.aim (x : Fan) : Nat × Nat × Nat := (x.requested, x.capped, x.target)

/-- `t` is `s` after actions of the output stage and of the fan unit that leave T as it was. -/
structure State.OutputMoves (s t : State) : Prop where
  sources : t.sources = s.sources
  aim : t.fan.aim = s.fan.aim
  written : ∀ c : Channel, s.isFan c = false → (t.chan c).written = (s.chan c).written

namespace State.OutputMoves

variable {s t u : State}

theorem cfg (h : s.OutputMoves t) : t.cfg = s.cfg := congrArg Prod.fst h.sources
theorem results (h : s.OutputMoves t) : t.results = s.results := congrArg (·.2.1) h.sources
theorem inputs (h : s.OutputMoves t) : t.inputs = s.inputs := congrArg (·.2.2.1) h.sources
theorem flash (h : s.OutputMoves t) : t.flash = s.flash := congrArg (·.2.2.2.1) h.sources
theorem sup (h : s.OutputMoves t) : t.sup = s.sup := congrArg (·.2.2.2.2.1) h.sources
theorem gauges (h : s.OutputMoves t) : t.gauges = s.gauges := congrArg (·.2.2.2.2.2) h.sources

theorem refl (s : State) : s.OutputMoves s := ⟨rfl, rfl, fun _ _ => rfl⟩

theorem trans (h : s.OutputMoves t) (k : t.OutputMoves u) : s.OutputMoves u :=
  ⟨k.sources.trans h.sources, k.aim.trans h.aim, fun c hc =>
    (k.written c ((State.isFan_congr h.cfg c).trans hc)).trans (h.written c hc)⟩

/-- The last action first. -/
theorem after (k : t.OutputMoves u) (h : s.OutputMoves t) : s.OutputMoves u := h.trans k

/-- An action that reaches neither the channels nor the fan unit. -/
theorem of_eq (h : t.sources = s.sources) (hf : t.fan = s.fan) (hc : t.chans = s.chans) : s.OutputMoves t :=
  ⟨h, congrArg Fan.aim hf, fun c _ => by unfold State.chan; rw [hc]⟩

theorem ite {p : Prop} [Decidable p] (ht : p → s.OutputMoves t) (hu : ¬ p → s.OutputMoves u) :
    s.OutputMoves (if p then t else u) := by
  split
  · exact ht ‹_›
  · exact hu ‹_›

theorem foldl {α : Type} {f : State → α → State} (hf : ∀ (v : State) (a : α), v.OutputMoves (f v a)) (l : List α) :
    s.OutputMoves (l.foldl f s) :=
  List.foldlRecOn l f (refl s) fun v hv a _ => hv.trans (hf v a)

/-- A channel's record moves, its demand and its marks standing. -/
theorem modChan (s : State) (c : Channel) {f : Chan → Chan} (hf : (f (s.chan c)).written = (s.chan c).written) :
    s.OutputMoves (s.modChan c f) :=
  ⟨rfl, rfl, fun d _ => by
    rw [State.chan_modChan]
    split
    · rename_i h
      rw [hf, h]
    · rfl⟩

theorem setChan (s : State) (c : Channel) {v : Chan} (hv : v.written = (s.chan c).written) :
    s.OutputMoves (s.setChan c v) := modChan s c (f := fun _ => v) hv

theorem setFan (s : State) {v : Fan} (hv : v.aim = s.fan.aim) : s.OutputMoves (s.setFan v) := ⟨rfl, hv, fun _ _ => rfl⟩

/-! ### The fan unit -/

theorem fanWrite (s : State) (d : Nat) : s.OutputMoves (s.fanWrite d) := by
  refine ⟨s.fanWrite_keep State.sources (fun _ _ => rfl) d, by simp, fun c hc => ?_⟩
  unfold State.fanWrite
  cases h : s.fanChannel with
  | none => rfl
  | some x =>
    have hx : x ≠ c := fun e => State.isFan_false_iff.mp hc (e ▸ h)
    simp [hx]

theorem setFan_fanWrite (s : State) (v : Fan) (d : Nat) (hv : v.aim = s.fan.aim) :
    s.OutputMoves ((s.setFan v).fanWrite d) := (setFan s hv).trans (fanWrite _ d)

theorem fanStop (s : State) : s.OutputMoves s.fanStop := setFan_fanWrite s _ _ rfl
theorem fanSuspend (s : State) : s.OutputMoves s.fanSuspend := setFan_fanWrite s _ _ rfl
theorem fanStarting (s : State) : s.OutputMoves s.fanStarting := setFan_fanWrite s _ _ rfl
theorem fanKick (s : State) : s.OutputMoves s.fanKick := setFan_fanWrite s _ _ rfl
theorem fanRamp (s : State) (d : Nat) : s.OutputMoves (s.fanRamp d) := setFan_fanWrite s _ _ rfl
theorem fanFault (s : State) : s.OutputMoves s.fanFault := setFan_fanWrite s _ _ rfl

theorem fanStart (s : State) : s.OutputMoves s.fanStart := by
  unfold State.fanStart
  split
  · exact refl s
  · split
    · exact fanStarting s
    · exact fanStarting s
    · exact fanKick s
    · exact fanRamp s _
    · exact fanFault s
    · exact fanFault s

theorem fanStartOrSuspend (s : State) : s.OutputMoves s.fanStartOrSuspend := ite (fun _ => fanSuspend s) fun _ => fanStart s

theorem fanSawInrush (s : State) : s.OutputMoves s.fanSawInrush := ite (fun _ => fanKick s) fun _ => refl s

theorem fanSawRun (s : State) : s.OutputMoves s.fanSawRun := ite (fun _ => fanRamp s _) fun _ => refl s

theorem fanSawRelease (s : State) : s.OutputMoves s.fanSawRelease :=
  ite (fun _ => ite (fun _ => fanStop s) fun _ => ite (fun _ => fanSuspend s) fun _ => fanStarting s) fun _ => refl s

theorem fanCrankEntry (s : State) : s.OutputMoves s.fanCrankEntry := by
  unfold State.fanCrankEntry
  cases s.fan.st with
  | starting | kick | ramp | running => exact fanSuspend s
  | faulted => exact fanWrite s _
  | stopped | suspended => exact refl s

theorem fanCrankExit (s : State) : s.OutputMoves s.fanCrankExit := by
  unfold State.fanCrankExit
  split
  · exact ite (fun _ => refl s) fun _ => fanStart s
  · exact fanWrite s _
  all_goals exact refl s

theorem fanRampStep (s : State) : s.OutputMoves s.fanRampStep := by
  unfold State.fanRampStep
  split
  · exact refl s
  · exact ite (fun _ => ite (fun _ => setFan s rfl) fun _ => setFan_fanWrite s _ _ rfl) fun _ => refl s

theorem ifFan (s : State) (c : Channel) {f : State → State} (hf : s.OutputMoves (f s)) : s.OutputMoves (s.ifFan c f) :=
  ite (fun _ => hf) fun _ => refl s

/-! ### Admission -/

theorem setQueue (s : State) (q : List (Channel × Urgency)) : s.OutputMoves (s.setQueue q) := of_eq rfl rfl rfl
theorem dequeue (s : State) (c : Channel) : s.OutputMoves (s.dequeue c) := of_eq rfl rfl rfl
theorem joinWindow (s : State) (c : Channel) : s.OutputMoves (s.joinWindow c) := of_eq rfl rfl rfl
theorem leaveWindow (s : State) (c : Channel) : s.OutputMoves (s.leaveWindow c) := of_eq rfl rfl rfl
theorem negateGate (s : State) (c : Channel) : s.OutputMoves (s.negateGate c) := of_eq rfl rfl rfl

theorem admitOne (s : State) (c : Channel) : s.OutputMoves (s.admitOne c) := by
  unfold State.admitOne
  refine ite (fun _ => ?_) fun _ => ?_
  · exact (ifFan _ c (fanSawRun _)).after ((modChan _ c rfl).after (dequeue s c))
  · exact (ifFan _ c (fanSawInrush _)).after ((joinWindow _ c).after ((modChan _ c rfl).after (dequeue s c)))

theorem admitLoop : ∀ (n : Nat) (s : State), s.OutputMoves (admitLoop n s)
  | 0, s => refl s
  | n + 1, s => by
    unfold Machine.admitLoop
    split
    · exact refl s
    · exact ite (fun _ => (admitOne s _).trans (admitLoop n _)) fun _ => refl s

theorem admitHeads (s : State) : s.OutputMoves s.admitHeads := admitLoop _ s

theorem admitIfNewHead (s : State) (x : Option (Channel × Urgency)) : s.OutputMoves (s.admitIfNewHead x) :=
  ite (fun _ => refl s) fun _ => admitHeads s

theorem join (s : State) (c : Channel) : s.OutputMoves (s.join c) :=
  (admitIfNewHead _ _).after ((setQueue _ _).after (modChan s c rfl))

theorem promote (s : State) (c : Channel) : s.OutputMoves (s.promote c) :=
  ite (fun _ => (admitIfNewHead _ _).after (setQueue s _)) fun _ => refl s

/-! ### Stopping, tripping and releasing -/

theorem release (s : State) (c : Channel) : s.OutputMoves (s.release c) :=
  (ifFan _ c (fanSawRelease _)).after (modChan s c rfl)

theorem releaseIfDue (s : State) (c : Channel) : s.OutputMoves (s.releaseIfDue c) :=
  ite (fun _ => release s c) fun _ => refl s

theorem raise (s : State) (k : EventKind) : s.OutputMoves (s.raise k) :=
  of_eq (s.raise_keep State.sources (fun _ _ => rfl) k) (by simp) (by simp)

theorem abandon (s : State) (x : Source) : s.OutputMoves (s.abandon x) :=
  of_eq (s.abandon_keep State.sources (fun _ _ => rfl) x) (by simp) (by simp)

theorem trip (s : State) (c : Channel) (k : TripCause) : s.OutputMoves (s.trip c k) := by
  have ht := (leaveWindow _ c).after ((negateGate _ c).after (setChan s c (v := s.trippedChan c k) rfl))
  have hu := (releaseIfDue _ c).after ((ifFan _ c (fanFault _)).after ((abandon _ (.channel c)).after
    ((raise _ .trip).after ht)))
  exact ite (fun _ => (admitHeads _).after hu) fun _ => hu

theorem cut (s : State) (c : Channel) : s.OutputMoves (s.cut c) :=
  (abandon _ _).after ((negateGate _ c).after (modChan s c rfl))

/-! ### Take-up and timers -/

theorem bypass (s : State) (c : Channel) : s.OutputMoves (s.bypass c) := by
  have ht := (modChan (s.dequeue c) c (f := fun ch => { ch with
    st := if s.inrushTime c = 0 then .run else .inrush, applied := 250, prevDuty := 0, prevEdge := false,
    onEdge := false, inrushTimer := if s.inrushTime c = 0 then none else some (s.inrushTime c),
    opening := decide (s.inrushTime c ≠ 0), admCount := some 0,
    runCount := if s.inrushTime c = 0 then some 0 else none }) rfl).after (dequeue s c)
  exact ite (fun _ => ht) fun _ => (joinWindow _ c).after ht

theorem takeOff (s : State) (c : Channel) : s.OutputMoves (s.takeOff c) :=
  (negateGate _ c).after ((leaveWindow _ c).after ((dequeue _ c).after (modChan s c rfl)))

theorem takeUp (s : State) (c : Channel) : s.OutputMoves (s.takeUp c) := by
  unfold State.takeUp
  dsimp only
  split
  · refine ite (fun _ => refl s) fun _ => ?_
    split
    · exact refl s
    · exact setChan s c rfl
    all_goals exact ite (fun _ => bypass s c) fun _ => refl s
  · exact ite (fun _ => takeOff s c) fun _ => ite (fun _ => bypass s c) fun _ => refl s
  · exact ite (fun _ => takeOff s c) fun _ => setChan s c rfl
  · exact ite (fun _ => takeOff s c) fun _ => setChan s c rfl
  · exact setChan s c rfl
  · exact setChan s c rfl

theorem takeUpAll (s : State) : s.OutputMoves s.takeUpAll := by
  have ht : s.OutputMoves (allChannels.foldl State.takeUp s).fanRampStep := (fanRampStep _).after (foldl takeUp _)
  exact (foldl join _).after (ite (fun _ => ht) fun _ => (admitHeads _).after ht)

theorem inrushExpire (s : State) (c : Channel) : s.OutputMoves (s.inrushExpire c) := by
  exact (admitHeads _).after ((ifFan _ c (fanSawRun _)).after ((leaveWindow _ c).after (modChan s c rfl)))

theorem coolOffExpire (s : State) (c : Channel) : s.OutputMoves (s.coolOffExpire c) := by
  have ht : s.OutputMoves ((s.modChan c fun ch => { ch with st := .off, coolOff := none }).ifFan c
      State.fanSawRelease) := (ifFan _ c (fanSawRelease _)).after (modChan s c rfl)
  exact ite (fun _ => (join _ c).after ht) fun _ => ht

end State.OutputMoves
end Sys2Proof.Machine
end

section
/-! SUPPORT. What a recomputation writes (R34 to R38), and what the output stage does on it. -/

namespace Sys2Proof.Machine
open Sys2Proof

/-- What a recomputation writes of a channel: demand, source, stop mark and entry presence (R34 to R38). -/
def State.rewrites (s : State) (c : Channel) : Nat × DemandSource × Bool × Bool :=
  if s.isFan c then ((s.chan c).demand, (s.chan c).source, false, s.anyActive c)
  else
    match (s.chRec c).kind with
    | .none => (0, .steady, false, false)
    | .gauge =>
      if s.gaugeBound c then ((s.chan c).demand, (s.chan c).source, false, false) else (0, .steady, false, false)
    | .lamp | .motor => ((s.composed c).1, (s.composed c).2, s.stopActive c, s.anyActive c)

/-- A channel's demand and marks written, the output stage not having acted on them yet. -/
def State.rewritten (s : State) (c : Channel) : State :=
  (if s.isFan c then s
   else
    match (s.chRec c).kind with
    | .none => s.writeDemand c 0 .steady
    | .gauge => if s.gaugeBound c then s else s.writeDemand c 0 .steady
    | .lamp | .motor => s.writeDemand c (s.composed c).1 (s.composed c).2).modChan c fun ch =>
      { ch with stop := (s.rewrites c).2.2.1, present := (s.rewrites c).2.2.2 }

theorem State.rewrites_composed {s : State} {c : Channel} (h : s.composes c = true) :
    s.rewrites c = ((s.composed c).1, (s.composed c).2, s.stopActive c, s.anyActive c) := by
  simp only [State.composes, Bool.and_eq_true, Bool.or_eq_true, beq_iff_eq, Bool.not_eq_true'] at h
  obtain ⟨hk, hf⟩ := h
  unfold State.rewrites
  rw [if_neg (by simp [hf])]
  rcases hk with hk | hk <;> rw [hk]

/-- It reaches that channel's record alone, and of it the demand, its source, the on-edge mark and the marks. -/
theorem State.rewritten_only (s : State) (c : Channel) :
    ∃ e : Bool, s.rewritten c = s.setChan c { s.chan c with
      demand := (s.rewrites c).1, source := (s.rewrites c).2.1, stop := (s.rewrites c).2.2.1,
      present := (s.rewrites c).2.2.2, onEdge := e } := by
  have hset (u v : Chan) : (s.setChan c u).setChan c v = s.setChan c v := by
    unfold State.setChan
    rw [Vector.set_set]
  have hwrite (d : Nat) (src : DemandSource) (x : Nat × DemandSource × Bool × Bool) (hx : x.1 = d ∧ x.2.1 = src) :
      ∃ e : Bool, (s.writeDemand c d src).modChan c (fun ch => { ch with stop := x.2.2.1, present := x.2.2.2 }) =
        s.setChan c { s.chan c with
          demand := x.1, source := x.2.1, stop := x.2.2.1, present := x.2.2.2, onEdge := e } := by
    obtain ⟨rfl, rfl⟩ := hx
    unfold State.writeDemand State.modChan
    rw [hset, State.chan_setChan, if_pos rfl]
    exact ⟨_, rfl⟩
  have hkeep (x : Nat × DemandSource × Bool × Bool) (hx : x.1 = (s.chan c).demand ∧ x.2.1 = (s.chan c).source) :
      ∃ e : Bool, s.modChan c (fun ch => { ch with stop := x.2.2.1, present := x.2.2.2 }) =
        s.setChan c { s.chan c with
          demand := x.1, source := x.2.1, stop := x.2.2.1, present := x.2.2.2, onEdge := e } :=
    ⟨(s.chan c).onEdge, by rw [hx.1, hx.2]; rfl⟩
  unfold State.rewritten
  by_cases hf : s.isFan c = true
  · rw [if_pos hf]
    exact hkeep _ (by simp [State.rewrites, hf])
  · rw [if_neg hf]
    cases hk : (s.chRec c).kind with
    | none => exact hwrite _ _ _ (by simp [State.rewrites, hf, hk])
    | gauge =>
      dsimp only
      split
      · rename_i hb
        exact hkeep _ (by simp [State.rewrites, hf, hk, hb])
      · rename_i hb
        exact hwrite _ _ _ (by simp [State.rewrites, hf, hk, hb])
    | lamp => exact hwrite _ _ _ (by simp [State.rewrites, hf, hk])
    | motor => exact hwrite _ _ _ (by simp [State.rewrites, hf, hk])

theorem State.recompute_eq (s : State) (c : Channel) :
    s.recompute c =
      let t := if (s.rewrites c).2.2.1 && !(s.chan c).stop then (s.rewritten c).promote c else s.rewritten c
      t.releaseIfDue c := by
  have hstop (d : Nat) (src : DemandSource) : ((s.writeDemand c d src).chan c).stop = (s.chan c).stop := by simp
  unfold State.recompute State.writeMarks State.rewritten State.rewrites
  by_cases hf : s.isFan c = true
  · simp only [if_pos hf]
  · simp only [if_neg hf]
    cases hk : (s.chRec c).kind with
    | none => simp only [hstop]
    | gauge =>
      dsimp only
      split <;> simp only [hstop]
    | lamp => simp only [hstop]
    | motor => simp only [hstop]

/-- What the output stage does on a recomputation (R59, R79). -/
theorem State.rewritten_moves (s : State) (c : Channel) : (s.rewritten c).OutputMoves (s.recompute c) := by
  rw [State.recompute_eq]
  exact (State.OutputMoves.releaseIfDue _ c).after (.ite (fun _ => .promote _ c) fun _ => .refl _)

theorem State.rewritten_sources (s : State) (c : Channel) : (s.rewritten c).sources = s.sources := by
  obtain ⟨e, he⟩ := s.rewritten_only c
  rw [he]
  rfl

theorem State.rewritten_fan (s : State) (c : Channel) : (s.rewritten c).fan = s.fan := by
  obtain ⟨e, he⟩ := s.rewritten_only c
  rw [he]
  rfl

theorem State.rewritten_written (s : State) (c d : Channel) :
    ((s.rewritten c).chan d).written = if d = c then s.rewrites c else (s.chan d).written := by
  obtain ⟨e, he⟩ := s.rewritten_only c
  rw [he, State.chan_setChan]
  by_cases h : d = c
  · rw [if_pos h, if_pos h.symm]
    rfl
  · rw [if_neg h, if_neg (Ne.symm h)]

theorem State.recompute_sources (s : State) (c : Channel) : (s.recompute c).sources = s.sources :=
  (s.rewritten_moves c).sources.trans (s.rewritten_sources c)

theorem State.recompute_aim (s : State) (c : Channel) : (s.recompute c).fan.aim = s.fan.aim :=
  (s.rewritten_moves c).aim.trans (congrArg Fan.aim (s.rewritten_fan c))

/-- A recomputation writes its channel, and no other but the fan channel. -/
theorem State.recompute_written (s : State) (c : Channel) {d : Channel} (hd : s.isFan d = false) :
    ((s.recompute c).chan d).written = if d = c then s.rewrites c else (s.chan d).written := by
  rw [← State.rewritten_written]
  refine (s.rewritten_moves c).written d ?_
  rw [State.isFan_congr (congrArg Prod.fst (s.rewritten_sources c) : (s.rewritten c).cfg = s.cfg)]
  exact hd

/-! ### A channel in OFF, in no place of the queue -/

theorem State.unqueued_of_off {s : State} (hq : s.QueueIsWaiting) {c : Channel} (hoff : (s.chan c).st = .off) :
    c ∉ s.queued := fun h => by
  have := (hq.2.1 c).mp h
  rw [hoff] at this
  cases this

theorem State.promote_unqueued {s : State} {c : Channel} (h : c ∉ s.queued) : s.promote c = s := by
  refine if_neg fun hany => h ?_
  obtain ⟨x, hx, hc⟩ := List.any_eq_true.mp hany
  simp only [Bool.and_eq_true, beq_iff_eq] at hc
  exact List.mem_map.mpr ⟨x, hx, hc.1⟩

theorem State.releaseIfDue_unlatched {s : State} {c : Channel} (h : (s.chan c).st ≠ .latched) : s.releaseIfDue c = s :=
  if_neg fun hc => h hc.1

/-- The output stage has nothing to do for it: the channel is written and nothing else changes. -/
theorem State.recompute_idle {s : State} {c : Channel} (hoff : (s.chan c).st = .off) (hq : c ∉ s.queued) :
    s.recompute c = s.rewritten c := by
  obtain ⟨e, he⟩ := s.rewritten_only c
  have hoff' : ((s.rewritten c).chan c).st ≠ .latched := by simp [he, hoff]
  have hq' : c ∉ (s.rewritten c).queued := by rwa [he]
  rw [State.recompute_eq]
  dsimp only
  rw [State.promote_unqueued hq', ite_self, State.releaseIfDue_unlatched hoff']

end Sys2Proof.Machine
end

section
/-! SUPPORT. The checks and the application of a CHANNEL record (R31, R43 to R45, R82, R84, R87). -/

namespace Sys2Proof.Machine
open Sys2Proof

/-! ### Numbers of channels -/

theorem Channel.ofNat?_eq_none {n : Nat} (h : n = 0 ∨ 16 < n) : Channel.ofNat? n = none := dif_neg (by omega)

theorem Channel.ofNat?_number (c : Channel) : Channel.ofNat? (c.val + 1) = some c := dif_pos (by omega)

theorem State.isOff_iff (s : State) (c : Channel) : s.isOff c = true ↔ (s.chan c).st = .off := by simp [State.isOff]

/-! ### The checks of a CHANNEL record -/

/-- The change of kind breaks R27 for an entry on the channel (check 3 of R44). -/
theorem kindBreaksMap_iff (cfg : Working) (c : Channel) (kind : ChKind) :
    kindBreaksMap cfg c kind = true ↔ ∃ e ∈ cfg.map.toList.filterMap id, e.chan = c ∧
      ((kind = .gauge ∨ kind = .none) ∧ kind ≠ cfg.channels[c].kind ∨ kind = .lamp ∧ e.fn = .fan) := by
  unfold kindBreaksMap
  generalize cfg.map.toList.filterMap id = l
  have hon (k : ChKind) : (k != cfg.channels[c].kind && !(l.filter fun e => e.chan == c).isEmpty) = true ↔
      ∃ e ∈ l, e.chan = c ∧ k ≠ cfg.channels[c].kind := by
    simp only [Bool.and_eq_true, bne_iff_ne, Bool.not_eq_true', List.isEmpty_eq_false_iff_exists_mem, List.mem_filter,
      beq_iff_eq]
    grind
  cases kind with
  | none => simpa using hon .none
  | gauge => simpa using hon .gauge
  | lamp => simp
  | motor => simp

theorem kindLeavesGauge_iff (cfg : Working) (c : Channel) (kind : ChKind) :
    kindLeavesGauge cfg c kind = true ↔
      cfg.channels[c].kind = .gauge ∧ kind ≠ .gauge ∧ ∃ g : GaugeId, (cfg.gauges.get g).bound = some c := by
  have hany : (allGauges.any fun g => (cfg.gauges.get g).bound == some c) = true ↔
      ∃ g : GaugeId, (cfg.gauges.get g).bound = some c := by simp [mem_allGauges]
  simp [kindLeavesGauge, hany, and_assoc]

theorem WChannel.changedBy_iff (w : WChannel) (r : ChannelRec) :
    w.changedBy r = true ↔
      r.phase ≠ w.phase ∨ r.rated ≠ w.rated ∨ r.inrushFactor ≠ w.inrushFactor ∨ r.window ≠ w.window ∨
        r.runLimit ≠ w.runLimit ∨ r.inrushLimit ≠ w.inrushLimit ∨ r.openThreshold ≠ w.openThreshold ∨
        r.blanking ≠ w.blanking ∨ r.retryLimit ≠ w.retryLimit ∨ r.coolOff ≠ w.coolOff := by
  simp [WChannel.changedBy, or_assoc]

section
variable {s : State} {w : WChannel} {c : Channel} {kind : ChKind} {protect : Protect}

theorem State.checkChannel_noChannel (h : w.channel = 0 ∨ 16 < w.channel) : s.checkChannel w = .refused .badItem := by
  simp [State.checkChannel, Channel.ofNat?_eq_none h]

theorem State.checkChannel_unlisted (hc : w.channel = c.val + 1) (h : w.kind = none ∨ w.protect = none) :
    s.checkChannel w = .refused .badValue := by
  unfold State.checkChannel
  rw [hc, Channel.ofNat?_number]
  dsimp only
  split
  · rename_i hk hp
    simp [hk, hp] at h
  · rfl

/-- A record whose fields are listed, by the checks that are left (R44). -/
theorem State.checkChannel_listed (hc : w.channel = c.val + 1) (hk : w.kind = some kind) (hp : w.protect = some protect) :
    s.checkChannel w =
      if kindBreaksMap s.cfg c kind || kindLeavesGauge s.cfg c kind then .refused .badValue
      else if !s.isOff c then .refused .inUse
      else .accepted (c, w.clamped kind protect) (w.changedBy (w.clamped kind protect)) := by
  unfold State.checkChannel
  rw [hc, Channel.ofNat?_number, hk, hp]

/-- What an accepted record has met. -/
theorem State.checkChannel_accepted {x : Channel × ChannelRec} {b : Bool} (h : s.checkChannel w = .accepted x b) :
    kindBreaksMap s.cfg x.1 x.2.kind = false ∧ kindLeavesGauge s.cfg x.1 x.2.kind = false ∧ (s.chan x.1).st = .off := by
  unfold State.checkChannel at h
  split at h
  · cases h
  · split at h
    · rename_i kind protect _ _
      split at h
      · cases h
      · rename_i hbad
        split at h
        · cases h
        · rename_i hoff
          cases h
          simp only [Bool.or_eq_true, not_or, Bool.not_eq_true] at hbad
          simp only [Bool.not_eq_true', Bool.not_eq_false, State.isOff_iff] at hoff
          exact ⟨hbad.1, hbad.2, hoff⟩
    · cases h

end

/-! ### A CHANNEL record applied -/

/-- The record replaced. -/
def State.withChannelRec (s : State) (x : Channel × ChannelRec) : State :=
  s.setCfg { s.cfg with channels := s.cfg.channels.set x.1 x.2 }

theorem State.withChannelRec_chRec (s : State) (x : Channel × ChannelRec) (d : Channel) :
    (s.withChannelRec x).chRec d = if d = x.1 then x.2 else s.chRec d := by
  have hi : x.1.val = d.val ↔ d = x.1 := by rw [← Fin.ext_iff, eq_comm]
  simp [State.withChannelRec, State.chRec, Vector.getElem_set, hi]

theorem State.withChannelRec_fanChannel (s : State) (x : Channel × ChannelRec) :
    (s.withChannelRec x).fanChannel = s.fanChannel := rfl

theorem State.applyChannel_eq (s : State) (x : Channel × ChannelRec) :
    s.applyChannel x = (if x.2.kind = (s.chRec x.1).kind then s.withChannelRec x
      else (s.withChannelRec x).recompute x.1).resetHealth x.1 := rfl

/-- A channel's record with its protection state cleared (R82, R84, R87). -/
def Chan.healed (ch : Chan) : Chan := { ch with trips := 0, bulbOut := false, low := 0, high := 0 }

theorem State.resetHealth_chans (s : State) (c : Channel) : (s.resetHealth c).chans = (s.modChan c Chan.healed).chans := by
  unfold State.resetHealth
  dsimp only
  split
  · rw [State.raise_keep (·.chans) fun _ _ => rfl]
    rfl
  · rfl

theorem State.resetHealth_chan (s : State) (c d : Channel) :
    (s.resetHealth c).chan d = if d = c then (s.chan c).healed else s.chan d := by
  have h : (s.resetHealth c).chan d = (s.modChan c Chan.healed).chan d := by
    unfold State.chan
    rw [State.resetHealth_chans]
  rw [h, State.chan_modChan]
  simp only [eq_comm]

/-- BULB is raised where the flag was set or the low counter had brought it (log 2). -/
theorem State.resetHealth_slot {s : State} (c : Channel) (hr : s.running = true) (m : SlotId) :
    (s.resetHealth c).slot m =
      if (s.chan c).bulbOut = true ∨ (s.chan c).low = 3 then s.raisedTo .bulb m else s.slot m := by
  have hdue : ((s.chan c).bulbOut || s.bulbSetDue c) = true ↔ (s.chan c).bulbOut = true ∨ (s.chan c).low = 3 := by
    cases hb : (s.chan c).bulbOut <;> simp [State.bulbSetDue, hr, hb]
  unfold State.resetHealth
  dsimp only
  by_cases h : (s.chan c).bulbOut = true ∨ (s.chan c).low = 3
  · rw [if_pos (hdue.mpr h), if_pos h, State.raise_slot]
    rfl
  · rw [if_neg (mt hdue.mp h), if_neg h]
    rfl

theorem State.resetHealth_only (s : State) (c : Channel) :
    s.resetHealth c = { s with chans := (s.resetHealth c).chans, slots := (s.resetHealth c).slots } :=
  s.resetHealth_keep (fun y => { y with chans := (s.resetHealth c).chans, slots := (s.resetHealth c).slots })
    (fun _ _ => rfl) (fun _ _ => rfl) c

section
variable {s : State} {x : Channel × ChannelRec} (hoff : (s.chan x.1).st = .off) (hq : x.1 ∉ s.queued)
include hoff hq

/-- On a channel in OFF a record brings new writes of that channel, where its kind changes, and the health reset. -/
theorem State.applyChannel_off :
    s.applyChannel x = (if x.2.kind = (s.chRec x.1).kind then s.withChannelRec x
      else (s.withChannelRec x).rewritten x.1).resetHealth x.1 := by
  rw [State.applyChannel_eq, State.recompute_idle (s := s.withChannelRec x) hoff hq]

omit hoff hq in
/-- The record and the writes of the channel, before the health reset. -/
theorem State.rewrittenRec_only :
    ∃ ch : Chan, (if x.2.kind = (s.chRec x.1).kind then s.withChannelRec x
        else (s.withChannelRec x).rewritten x.1) = (s.withChannelRec x).setChan x.1 ch ∧
      ch = { s.chan x.1 with demand := ch.demand, source := ch.source, onEdge := ch.onEdge, stop := ch.stop,
                             present := ch.present } ∧
      (x.2.kind = (s.chRec x.1).kind → ch = s.chan x.1) ∧
      (x.2.kind ≠ (s.chRec x.1).kind → ch.written = (s.withChannelRec x).rewrites x.1) := by
  by_cases hk : x.2.kind = (s.chRec x.1).kind
  · refine ⟨s.chan x.1, ?_, rfl, fun _ => rfl, fun h => absurd hk h⟩
    have hself : s.chans.set x.1 (s.chan x.1) = s.chans := by simp [State.chan]
    rw [if_pos hk]
    unfold State.setChan
    exact (congrArg (fun v => { s.withChannelRec x with chans := v }) hself).symm
  · obtain ⟨e, he⟩ := (s.withChannelRec x).rewritten_only x.1
    rw [if_neg hk, he]
    exact ⟨_, rfl, rfl, fun h => absurd h hk, fun _ => rfl⟩

end

end Sys2Proof.Machine
end

section
/-! SUPPORT. What a CHANNEL record leaves, and the CHANNEL item settled. -/

namespace Sys2Proof.Machine
open Sys2Proof

section
variable {s : State} {p : Port} {f : Frame} {r : Run}

theorem Executing.exec_configChannel {w : WChannel} (h : Executing s p f r (.config (.channel w))) :
    exec (.configChannel p) s = .next (s.configItem p f.slot (s.checkChannel w) State.applyChannel
      (fun x => .channel x.1 x.2) noSkip) := by
  simp [exec, execConfigChannel, h.itemOn]

theorem State.applyChannel_ports (s : State) (x : Channel × ChannelRec) : (s.applyChannel x).ports = s.ports := by
  simp

end

/-- What an applied CHANNEL record leaves, on a channel in OFF that has no place in the queue. -/
structure ChannelApplied (s t : State) (x : Channel × ChannelRec) : Prop where
  rec_self : t.chRec x.1 = x.2
  others : ∀ d : Channel, d ≠ x.1 → t.chRec d = s.chRec d ∧ t.chan d = s.chan d
  chan_self : t.chan x.1 = { s.chan x.1 with
    trips := 0, bulbOut := false, low := 0, high := 0,
    demand := (t.chan x.1).demand, source := (t.chan x.1).source, onEdge := (t.chan x.1).onEdge,
    stop := (t.chan x.1).stop, present := (t.chan x.1).present }
  same_kind : x.2.kind = (s.chRec x.1).kind → (t.chan x.1).demand = (s.chan x.1).demand ∧
    (t.chan x.1).source = (s.chan x.1).source ∧ (t.chan x.1).onEdge = (s.chan x.1).onEdge ∧
    (t.chan x.1).stop = (s.chan x.1).stop ∧ (t.chan x.1).present = (s.chan x.1).present
  new_kind : x.2.kind ≠ (s.chRec x.1).kind → (t.chan x.1).written = (s.withChannelRec x).rewrites x.1
  slots : s.running = true → ∀ m : SlotId, t.slot m =
    if (s.chan x.1).bulbOut = true ∨ (s.chan x.1).low = 3 then s.raisedTo .bulb m else s.slot m
  only : t = { s with cfg := { s.cfg with channels := t.cfg.channels }, chans := t.chans, slots := t.slots }

theorem State.applyChannel_applied {s : State} {x : Channel × ChannelRec} (hoff : (s.chan x.1).st = .off)
    (hq : x.1 ∉ s.queued) : ChannelApplied s (s.applyChannel x) x := by
  obtain ⟨ch, hu, hch, hsame, hnew⟩ := s.rewrittenRec_only (x := x)
  rw [State.applyChannel_off hoff hq, hu]
  have hcfg : (((s.withChannelRec x).setChan x.1 ch).resetHealth x.1).cfg = (s.withChannelRec x).cfg :=
    ((s.withChannelRec x).setChan x.1 ch).resetHealth_keep (·.cfg) (fun _ _ => rfl) (fun _ _ => rfl) x.1
  have hrec (d : Channel) := (State.chRec_congr hcfg d).trans (s.withChannelRec_chRec x d)
  have hchan (d : Channel) : (((s.withChannelRec x).setChan x.1 ch).resetHealth x.1).chan d =
      if d = x.1 then ch.healed else s.chan d := by
    rw [State.resetHealth_chan]
    split
    · simp
    · rename_i hd
      rw [State.chan_setChan, if_neg (Ne.symm hd)]
      rfl
  have hself := (hchan x.1).trans (if_pos rfl)
  refine ⟨(hrec x.1).trans (if_pos rfl), fun d hd => ⟨(hrec d).trans (if_neg hd), (hchan d).trans (if_neg hd)⟩, ?_,
    fun hk => ?_, fun hk => ?_, fun hr m => ?_, ?_⟩
  · rw [hself, hch]
    rfl
  · rw [hself, hsame hk]
    exact ⟨rfl, rfl, rfl, rfl, rfl⟩
  · rw [hself]
    exact hnew hk
  · rw [State.resetHealth_slot _ (show ((s.withChannelRec x).setChan x.1 ch).running = true from hr), State.chan_setChan,
      if_pos rfl, hch]
    rfl
  · have honly := ((s.withChannelRec x).setChan x.1 ch).resetHealth_only x.1
    have hch' : (((s.withChannelRec x).setChan x.1 ch).resetHealth x.1).cfg.channels =
      s.cfg.channels.set x.1 x.2 := congrArg (·.channels) hcfg
    rw [hch']
    exact honly

/-- The demand a change of kind writes, but on the fan channel (R31, R36). -/
theorem ChannelApplied.demand {s t : State} {x : Channel × ChannelRec} (h : ChannelApplied s t x)
    (hk : x.2.kind ≠ (s.chRec x.1).kind) (hfan : s.fanChannel ≠ some x.1) :
    ((t.chan x.1).demand, (t.chan x.1).source) = (match x.2.kind with
      | .none => (0, .steady)
      | .gauge => if [GaugeId.g1, .g2, .g3].any fun g => (s.gaugeRec g).enabled && (s.gaugeRec g).bound == some x.1 then
            ((s.chan x.1).demand, (s.chan x.1).source) else (0, .steady)
      | .lamp | .motor => t.composed x.1) := by
  have hw := h.new_kind hk
  have hcomposed : (s.withChannelRec x).composed x.1 = t.composed x.1 := by
    rw [h.only]
    rfl
  have hdemand : ((t.chan x.1).demand, (t.chan x.1).source) =
      (((s.withChannelRec x).rewrites x.1).1, ((s.withChannelRec x).rewrites x.1).2.1) := by
    rw [← hw]
    rfl
  have hnotFan : (s.withChannelRec x).isFan x.1 = false := State.isFan_false_iff.mpr hfan
  have hkind : ((s.withChannelRec x).chRec x.1).kind = x.2.kind := by rw [State.withChannelRec_chRec, if_pos rfl]
  rw [hdemand]
  unfold State.rewrites
  rw [if_neg (by simp [hnotFan]), hkind, ← hcomposed]
  cases x.2.kind with
  | none => rfl
  | gauge =>
    dsimp only
    split
    · rename_i hb
      exact (if_pos hb).symm
    · rename_i hb
      exact (if_neg hb).symm
  | lamp => rfl
  | motor => rfl

end Sys2Proof.Machine

open Sys2Proof Sys2Proof.Machine

/-- Settles O52: the checks by `checkChannel`, the effects by `ChannelApplied`, the answer by
`Executing.config_accepted`. -/
theorem configChannelApplied : Obligations.ConfigChannelApplied := by
  intro p f r w s h ht hqueue
  refine ⟨_, h.exec_configChannel, fun hc => ?_, fun c hc => ⟨fun hlist => ?_, ?_⟩⟩
  · rw [State.checkChannel_noChannel hc]
    exact h.config_refused ht ..
  · rw [State.checkChannel_unlisted hc hlist]
    exact h.config_refused ht ..
  · intro kind protect hk hp old bad run x clamped
    have hbad : (kindBreaksMap s.cfg c kind || kindLeavesGauge s.cfg c kind) = true ↔ bad := by
      rw [Bool.or_eq_true, kindBreaksMap_iff, kindLeavesGauge_iff]
      rfl
    have hclamped : w.changedBy x = decide clamped := by
      rw [Bool.eq_iff_iff, WChannel.changedBy_iff, decide_eq_true_iff]
    rw [State.checkChannel_listed hc hk hp, show w.clamped kind protect = x from rfl, hclamped]
    refine ⟨fun hb => ?_, fun hb hoff => ?_, fun hb hoff => ?_⟩
    · rw [if_pos (hbad.mpr hb)]
      exact h.config_refused ht ..
    · rw [if_neg (mt hbad.mp hb), if_pos (by simpa [State.isOff] using hoff)]
      exact h.config_refused ht ..
    · rw [if_neg (mt hbad.mp hb), if_neg (by simp [State.isOff, hoff])]
      obtain ⟨hans, honly⟩ := h.config_accepted ht (c, x) (decide clamped) (apply := State.applyChannel)
        (fun x => .channel x.1 x.2) (skip := noSkip) rfl (s.applyChannel_ports (c, x))
      have happlied := State.applyChannel_applied (x := (c, x)) hoff (State.unqueued_of_off hqueue hoff)
      revert hans honly
      generalize s.configItem p f.slot _ _ _ _ = t
      intro hans honly
      obtain ⟨ports, rfl⟩ : ∃ ports, t = { s.applyChannel (c, x) with
        storeWrite := some (.channel c x), ports := ports } := ⟨_, honly⟩
      exact ⟨happlied.rec_self, happlied.others, rfl, happlied.chan_self, happlied.same_kind, happlied.demand,
        happlied.slots h.runs, hans, congrArg (fun u : State =>
          { u with storeWrite := some (.channel c x), ports := ports }) happlied.only⟩
end

section
/-! SUPPORT. The checks of a MAP record (R29), in the words of the entries at the other indices. -/

namespace Sys2Proof.Machine
open Sys2Proof

/-! ### The entries at the other indices -/

theorem Working.mem_otherEntries {cfg : Working} {i : Fin 32} {o : MapEntry} :
    o ∈ cfg.otherEntries i ↔ ∃ j : Fin 32, j ≠ i ∧ cfg.map[j] = some o := by
  unfold Working.otherEntries
  rw [mem_mapEntries]
  refine exists_congr fun j => ?_
  by_cases h : j = i
  · simp [h]
  · have hv : i.val ≠ j.val := fun e => h (Fin.ext e.symm)
    simp [h, hv]

/-- The entries of a map that meet a test, counted by their indices. -/
theorem length_mapEntries_filter (map : Vector (Option MapEntry) 32) (q : MapEntry → Bool) :
    ((map.toList.filterMap id).filter q).length = ((List.finRange 32).filter fun j => map[j].any q).length := by
  have hlist : map.toList = (List.finRange 32).map fun j => map[j] := by
    refine List.ext_getElem (by simp) fun n h₁ h₂ => by simp
  rw [hlist, List.filterMap_map]
  induction List.finRange 32 with
  | nil => rfl
  | cons j l ih =>
    rw [List.filter_cons, List.filterMap_cons]
    dsimp only [Function.comp_apply, id]
    cases map[j] with
    | none => exact ih
    | some e => by_cases hq : q e = true <;> simp_all

theorem Working.length_otherEntries_filter (cfg : Working) (i : Fin 32) (c : Channel) :
    ((cfg.otherEntries i).filter fun o => o.chan == c).length =
      ((List.finRange 32).filter fun j => j ≠ i && (cfg.map[j]).map MapEntry.chan == some c).length := by
  unfold Working.otherEntries
  rw [length_mapEntries_filter]
  refine congrArg List.length (List.filter_congr fun j _ => ?_)
  by_cases h : j = i
  · simp [h]
  · have hv : i.val ≠ j.val := fun e => h (Fin.ext e.symm)
    cases hj : cfg.map[j] with
    | none => simp_all
    | some e => simp_all

theorem contribBad_iff (g : Fn) (c : Channel) (k : ContribKind) (level : Nat) :
    MapEntry.contribBad { fn := g, chan := c, contrib := (contributionOf k level).1 } = true ↔
      k = .level ∧ g ≠ .panel ∨ k = .flash ∧ g ≠ .turnL ∧ g ≠ .turnR ∧ g ≠ .hazard ∨ k = .dim ∧ g = .fan := by
  cases k <;> simp [MapEntry.contribBad, contributionOf, and_assoc]

/-- The FAN entry and its channel do not stand apart, or the function has an entry on the channel already (R27; checks 6
and 7 of R29). -/
theorem MapEntry.clashes_iff (e : MapEntry) (kind : ChKind) (others : List MapEntry) :
    (e.fanBad kind others = true ∨ (others.any fun o => o.fn == e.fn && o.chan == e.chan) = true) ↔
      e.fn = .fan ∧ kind ≠ .motor ∨
        ∃ o ∈ others, o.fn = .fan ∧ e.fn = .fan ∨ o.chan = e.chan ∧ (e.fn = .fan ∨ o.fn = .fan ∨ o.fn = e.fn) := by
  simp only [MapEntry.fanBad, Bool.or_eq_true, Bool.and_eq_true, beq_iff_eq, bne_iff_ne, List.any_eq_true]
  grind

/-- A BAD_VALUE check of R29 fails on an entry. -/
def MapEntry.Bad (cfg : Working) (i : Fin 32) (e : MapEntry) : Prop :=
  e.contribBad = true ∨ (cfg.channels[e.chan].kind = .gauge ∨ cfg.channels[e.chan].kind = .none) ∨
    e.fn = .fan ∧ cfg.channels[e.chan].kind ≠ .motor ∨
      ∃ o ∈ cfg.otherEntries i,
        o.fn = .fan ∧ e.fn = .fan ∨ o.chan = e.chan ∧ (e.fn = .fan ∨ o.fn = .fan ∨ o.fn = e.fn)

/-- Checks 4 to 8 of R29, by their answers. -/
theorem mapRefusal_eq (cfg : Working) (i : Fin 32) (e : MapEntry) [Decidable (MapEntry.Bad cfg i e)] :
    mapRefusal cfg i e = if MapEntry.Bad cfg i e then some .badValue
      else if 4 ≤ ((cfg.otherEntries i).filter fun o => o.chan == e.chan).length then some .noRoom else none := by
  have hclash := MapEntry.clashes_iff e cfg.channels[e.chan].kind (cfg.otherEntries i)
  unfold mapRefusal
  dsimp only
  by_cases h1 : e.contribBad = true
  · rw [if_pos h1, if_pos (.inl h1)]
  rw [if_neg h1]
  by_cases h2 : cfg.channels[e.chan].kind = .gauge ∨ cfg.channels[e.chan].kind = .none
  · rw [if_pos h2, if_pos (.inr (.inl h2))]
  rw [if_neg h2]
  have hbad : MapEntry.Bad cfg i e ↔ e.fanBad cfg.channels[e.chan].kind (cfg.otherEntries i) = true ∨
      ((cfg.otherEntries i).any fun o => o.fn == e.fn && o.chan == e.chan) = true := by
    rw [hclash, MapEntry.Bad]
    simp only [h1, h2, Bool.false_eq_true, false_or]
  by_cases h3 : e.fanBad cfg.channels[e.chan].kind (cfg.otherEntries i) = true
  · rw [if_pos h3, if_pos (hbad.mpr (.inl h3))]
  rw [if_neg h3]
  by_cases h4 : ((cfg.otherEntries i).any fun o => o.fn == e.fn && o.chan == e.chan) = true
  · rw [if_pos h4, if_pos (hbad.mpr (.inr h4))]
  rw [if_neg h4, if_neg (mt hbad.mp (not_or.mpr ⟨h3, h4⟩))]

/-! ### The checks of a MAP record -/

theorem mapIndex?_val (i : Fin 32) : mapIndex? i.val = some i := dif_pos i.isLt

theorem State.entryBusy_iff {s : State} {i : Fin 32} :
    s.entryBusy i = true ↔ ∃ d : Channel, (s.cfg.map[i]).map MapEntry.chan = some d ∧ (s.chan d).st ≠ .off := by
  unfold State.entryBusy
  cases s.cfg.map[i] with
  | none => simp
  | some e => simp [State.isOff]

section
variable {s : State} {w : WMap} {i : Fin 32}

theorem State.checkMap_noIndex (h : 31 < w.idx) : s.checkMap w = .refused .badItem := by
  simp [State.checkMap, show mapIndex? w.idx = none from dif_neg (by omega)]

theorem State.checkMap_empty (hi : w.idx = i.val) (he : w.entry = none) :
    s.checkMap w = if s.entryBusy i then .refused .inUse else .accepted (i, none) false := by
  unfold State.checkMap
  rw [hi, mapIndex?_val, he]

section
variable {e : WEntry} {g : Fn} {c : Channel}

theorem State.checkMap_noTarget (hi : w.idx = i.val) (he : w.entry = some e)
    (h : e.fn = 0 ∨ 15 < e.fn ∨ e.channel = 0 ∨ 16 < e.channel) : s.checkMap w = .refused .badItem := by
  unfold State.checkMap
  rw [hi, mapIndex?_val, he]
  dsimp only
  split
  · rename_i f c hf hc
    rcases h with h | h | h | h
    · simp [Fn.ofNat?_eq_none (.inl h)] at hf
    · simp [Fn.ofNat?_eq_none (.inr h)] at hf
    · simp [Channel.ofNat?_eq_none (.inl h)] at hc
    · simp [Channel.ofNat?_eq_none (.inr h)] at hc
  · rfl

theorem State.checkMap_unlisted (hi : w.idx = i.val) (he : w.entry = some e) (hg : e.fn = g.idx.val + 1)
    (hc : e.channel = c.val + 1) (hk : e.contrib = none) : s.checkMap w = .refused .badValue := by
  unfold State.checkMap
  rw [hi, mapIndex?_val, he]
  dsimp only
  rw [hg, hc, Fn.ofNat?_idx, Channel.ofNat?_number, hk]

/-- A record whose entry has a function, a channel and a contribution, by the checks that are left (R29). -/
theorem State.checkMap_refused (hi : w.idx = i.val) (he : w.entry = some e) (hg : e.fn = g.idx.val + 1)
    (hc : e.channel = c.val + 1) {k : ContribKind} (hk : e.contrib = some k) {st : Status}
    (h : mapRefusal s.cfg i { fn := g, chan := c, contrib := (contributionOf k e.level).1 } = some st) :
    s.checkMap w = .refused st := by
  simp [State.checkMap, hi, he, hg, hc, hk, mapIndex?_val, Fn.ofNat?_idx, Channel.ofNat?_number, h]

theorem State.checkMap_fits (hi : w.idx = i.val) (he : w.entry = some e) (hg : e.fn = g.idx.val + 1)
    (hc : e.channel = c.val + 1) {k : ContribKind} (hk : e.contrib = some k)
    (h : mapRefusal s.cfg i { fn := g, chan := c, contrib := (contributionOf k e.level).1 } = none) :
    s.checkMap w =
      if !s.isOff c || s.entryBusy i then .refused .inUse
      else .accepted (i, some { fn := g, chan := c, contrib := (contributionOf k e.level).1 })
        (contributionOf k e.level).2 := by
  simp only [State.checkMap, hi, he, hg, hc, hk, mapIndex?_val, Fn.ofNat?_idx, Channel.ofNat?_number, h]

end

/-- What an accepted record has met: an entry the checks of R29 let through, and both its channels in OFF. -/
theorem State.checkMap_accepted {x : Fin 32 × Option MapEntry} {b : Bool} (h : s.checkMap w = .accepted x b) :
    (∀ e : MapEntry, x.2 = some e → mapRefusal s.cfg x.1 e = none ∧ (s.chan e.chan).st = .off) ∧
      ∀ d : Channel, (s.cfg.map[x.1]).map MapEntry.chan = some d → (s.chan d).st = .off := by
  have hfree (i : Fin 32) (hb : ¬ s.entryBusy i = true) (d : Channel) (hd : (s.cfg.map[i]).map MapEntry.chan = some d) :
      (s.chan d).st = .off := by
    by_contra hst
    exact hb (State.entryBusy_iff.mpr ⟨d, hd, hst⟩)
  unfold State.checkMap at h
  split at h
  · cases h
  · rename_i i _
    split at h
    · split at h
      · cases h
      · rename_i hb
        cases h
        exact ⟨fun e he => (nomatch he), hfree i hb⟩
    · split at h
      · split at h
        · cases h
        · dsimp only at h
          split at h
          · cases h
          · rename_i hr
            split at h
            · cases h
            · rename_i hb
              cases h
              simp only [Bool.or_eq_true, Bool.not_eq_true', not_or, Bool.not_eq_false, State.isOff_iff] at hb
              exact ⟨fun e he => (Option.some.inj he) ▸ ⟨hr, hb.1⟩, hfree i (by simp [hb.2])⟩
      · cases h

end

end Sys2Proof.Machine
end

section
/-! SUPPORT. A MAP record applied (R30, R36, R37, R160, R161). -/

namespace Sys2Proof.Machine
open Sys2Proof

/-! ### Recomputations, one after another -/

theorem State.composes_congr {s t : State} (h : t.cfg = s.cfg) (c : Channel) : t.composes c = s.composes c := by
  unfold State.composes
  rw [State.chRec_congr h, State.isFan_congr h]

theorem State.composes_notFan {s : State} {c : Channel} (h : s.composes c = true) : s.isFan c = false := by
  simpa [State.composes] using (Bool.and_eq_true_iff.mp h).2

/-- What a composition reads: the channel's entries, which of them are active and at what results, and the flash phase
where the channel follows it (R32 to R35, R38). -/
theorem State.composition_congr {s t : State} {c : Channel} (hon : t.entriesOn c = s.entriesOn c)
    (hentry : ∀ e ∈ s.entriesOn c, t.entryActive e = s.entryActive e ∧ t.result e.fn = s.result e.fn)
    (hphase : s.follows c = true → t.onPhase = s.onPhase) :
    t.composed c = s.composed c ∧ t.stopActive c = s.stopActive c ∧ t.anyActive c = s.anyActive c := by
  have hany (p : MapEntry → Bool) : (t.entriesOn c).any (fun e => p e && t.entryActive e) =
      (s.entriesOn c).any fun e => p e && s.entryActive e := by
    rw [hon, Bool.eq_iff_iff, List.any_eq_true, List.any_eq_true]
    exact exists_congr fun e => and_congr_right fun he => by rw [(hentry e he).1]
  have hfollows : t.follows c = s.follows c := hany _
  have hsteady : t.steadyDemand c = s.steadyDemand c := by
    unfold State.steadyDemand
    rw [hon, List.filter_congr fun e he => (hentry e he).1]
    refine List.foldl_ext _ _ _ fun m e he => ?_
    unfold State.steadyDuty
    rw [(hentry e (List.mem_of_mem_filter he)).2]
  refine ⟨?_, hany _, hany fun _ => true⟩
  unfold State.composed
  rw [hfollows, hsteady]
  by_cases hf : s.follows c = true
  · rw [if_pos hf, if_pos hf, hphase hf]
  · rw [if_neg hf, if_neg hf]

theorem State.entryActive_congr {s t : State} {e : MapEntry} (hr : t.result e.fn = s.result e.fn)
    (hl : e.contrib = .flash → e.fn = .turnL → t.leftSide = s.leftSide)
    (hrs : e.contrib = .flash → e.fn = .turnR → t.rightSide = s.rightSide) : t.entryActive e = s.entryActive e := by
  unfold State.entryActive
  split
  · exact hl ‹_› ‹_›
  · exact hrs ‹_› ‹_›
  · unfold State.resultOn
    rw [hr]

/-- What is written of a composed channel follows from the working copy, the results and the flash phase. -/
theorem State.rewrites_congr {s t : State} (h : t.sources = s.sources) {c : Channel} (hc : s.composes c = true) :
    t.rewrites c = s.rewrites c := by
  have hcfg : t.cfg = s.cfg := congrArg Prod.fst h
  have hres (f : Fn) : t.result f = s.result f := by
    unfold State.result
    rw [show t.results = s.results from congrArg (·.2.1) h]
  have hphase : t.onPhase = s.onPhase := by
    unfold State.onPhase
    rw [show t.flash = s.flash from congrArg (·.2.2.2.1) h]
  have hside : t.leftSide = s.leftSide ∧ t.rightSide = s.rightSide := by
    simp [State.leftSide, State.rightSide, State.resultOn, hres]
  obtain ⟨hd, hstop, hany⟩ := State.composition_congr (c := c) (s := s) (t := t)
    (by unfold State.entriesOn State.entries; rw [hcfg])
    (fun e _ => ⟨State.entryActive_congr (hres _) (fun _ _ => hside.1) fun _ _ => hside.2, hres _⟩) fun _ => hphase
  rw [State.rewrites_composed hc, State.rewrites_composed ((State.composes_congr hcfg c).trans hc), hd, hstop, hany]

theorem State.recomputes_sources (s : State) (l : List Channel) : (l.foldl State.recompute s).sources = s.sources :=
  foldl_keep State.sources _ State.recompute_sources l s

/-- Recomputations write each composed channel of the list, and no other. -/
theorem State.recomputes_written {c : Channel} (l : List Channel) (s : State) (hc : s.composes c = true) :
    ((l.foldl State.recompute s).chan c).written = if c ∈ l then s.rewrites c else (s.chan c).written := by
  induction l generalizing s with
  | nil => rfl
  | cons d l ih =>
    have hsrc := s.recompute_sources d
    rw [List.foldl_cons, ih _ ((State.composes_congr (congrArg Prod.fst hsrc) c).trans hc), State.rewrites_congr hsrc hc,
      State.recompute_written s d (State.composes_notFan hc)]
    by_cases hd : c = d <;> simp [hd]

theorem State.recomputeWhere_sources (s : State) (q : Channel → Bool) : (s.recomputeWhere q).sources = s.sources :=
  s.recomputes_sources _

theorem State.recomputeWhere_written {s : State} {c : Channel} (q : Channel → Bool) (hc : s.composes c = true) :
    ((s.recomputeWhere q).chan c).written = if q c = true then s.rewrites c else (s.chan c).written := by
  unfold State.recomputeWhere
  rw [State.recomputes_written _ s hc]
  simp [mem_allChannels]

theorem State.recomputeWhere_aim (s : State) (q : Channel → Bool) : (s.recomputeWhere q).fan.aim = s.fan.aim :=
  foldl_keep (·.fan.aim) _ State.recompute_aim _ s

/-! ### A part with no fan channel -/

theorem State.ifFan_notFan {s : State} {c : Channel} (h : s.isFan c = false) (f : State → State) : s.ifFan c f = s := by
  simp [State.ifFan, h]

theorem State.ifFan_fan {s : State} {c : Channel} (h : s.isFan c = true) (f : State → State) : s.ifFan c f = f s := by
  simp [State.ifFan, h]

/-- Another channel's admission leaves the fan unit alone. -/
theorem State.admitOne_notFan {s : State} {c : Channel} (h : s.isFan c = false) :
    (s.admitOne c).fan = s.fan := by
  have hfan (t : State) (ht : t.cfg = s.cfg) (f : State → State) : t.ifFan c f = t :=
    State.ifFan_notFan ((State.isFan_congr ht c).trans h) f
  unfold State.admitOne
  dsimp only
  split
  · rw [hfan _ (by rfl)]
    rfl
  · rw [hfan _ (by rfl)]
    rfl

theorem admitLoop_noFan : ∀ (n : Nat) (s : State), s.fanChannel = none → (admitLoop n s).fan = s.fan
  | 0, _, _ => rfl
  | n + 1, s, h => by
    unfold admitLoop
    split
    · rfl
    · rename_i c _ _ _
      have hc : s.isFan c = false := by simp [State.isFan, h]
      split
      · rw [admitLoop_noFan n _ ((State.fanChannel_congr (State.OutputMoves.admitOne s c).cfg).trans h),
          State.admitOne_notFan hc]
      · rfl

theorem State.recompute_noFan {s : State} (h : s.fanChannel = none) (c : Channel) : (s.recompute c).fan = s.fan := by
  have hadmit (t : State) (ht : t.cfg = s.cfg) (x : Option (Channel × Urgency)) : (t.admitIfNewHead x).fan = t.fan := by
    unfold State.admitIfNewHead
    split
    · rfl
    · exact admitLoop_noFan _ t ((State.fanChannel_congr ht).trans h)
  have hpromote (t : State) (ht : t.cfg = s.cfg) : (t.promote c).fan = t.fan := by
    unfold State.promote
    split
    · refine (hadmit _ ?_ _).trans rfl
      exact ht
    · rfl
  have hrelease (t : State) (ht : t.cfg = s.cfg) : (t.releaseIfDue c).fan = t.fan := by
    have hc : (t.modChan c fun ch => { ch with st := .off, trips := 0 }).isFan c = false := by
      refine (State.isFan_congr (s := s) ht c).trans ?_
      simp [State.isFan, h]
    unfold State.releaseIfDue State.release
    split
    · rw [State.ifFan_notFan hc]
      rfl
    · rfl
  have hcfg : (s.rewritten c).cfg = s.cfg := congrArg Prod.fst (s.rewritten_sources c)
  rw [State.recompute_eq]
  dsimp only
  split
  · rw [hrelease _ ((State.OutputMoves.promote _ c).cfg.trans hcfg), hpromote _ hcfg, State.rewritten_fan]
  · rw [hrelease _ hcfg, State.rewritten_fan]

theorem State.recomputeWhere_noFan {s : State} (h : s.fanChannel = none) (q : Channel → Bool) :
    (s.recomputeWhere q).fan = s.fan := by
  have hstep : (s.recomputeWhere q).cfg = s.cfg ∧ (s.recomputeWhere q).fan = s.fan := by
    refine List.foldlRecOn (motive := fun t => t.cfg = s.cfg ∧ t.fan = s.fan) _ State.recompute ⟨rfl, rfl⟩
      fun t ht c _ => ⟨(congrArg Prod.fst (t.recompute_sources c)).trans ht.1, ?_⟩
    exact (State.recompute_noFan ((State.fanChannel_congr ht.1).trans h) c).trans ht.2
  exact hstep.2

/-! ### Channels in OFF -/

/-- `t` is `s` but for the channels' demands and marks. -/
structure State.StandsAs (s t : State) : Prop where
  sources : t.sources = s.sources
  fan : t.fan = s.fan
  queue : t.queue = s.queue
  st : ∀ c : Channel, (t.chan c).st = (s.chan c).st

theorem State.rewritten_stands (s : State) (c : Channel) : s.StandsAs (s.rewritten c) := by
  obtain ⟨e, he⟩ := s.rewritten_only c
  rw [he]
  refine ⟨rfl, rfl, rfl, fun d => ?_⟩
  rw [State.chan_setChan]
  split
  · rename_i h
    rw [h]
  · rfl

/-- Recomputations of channels in OFF write demands and marks, and the output stage has nothing to do on them. -/
theorem State.recomputeWhere_stands {s : State} {q : Channel → Bool}
    (h : ∀ c : Channel, q c = true → (s.chan c).st = .off ∧ c ∉ s.queued) : s.StandsAs (s.recomputeWhere q) := by
  refine List.foldlRecOn (motive := s.StandsAs) _ State.recompute ⟨rfl, rfl, rfl, fun _ => rfl⟩ fun t ht c hc => ?_
  obtain ⟨hoff, hq⟩ := h c (List.mem_filter.mp hc).2
  have hq' : c ∉ t.queued := by
    unfold State.queued
    rwa [ht.queue]
  rw [State.recompute_idle ((ht.st c).trans hoff) hq']
  obtain ⟨hsrc, hfan, hqueue, hst⟩ := t.rewritten_stands c
  exact ⟨hsrc.trans ht.sources, hfan.trans ht.fan, hqueue.trans ht.queue, fun d => (hst d).trans (ht.st d)⟩

/-! ### The fan unit takes a change of the fan channel -/

theorem State.OutputMoves.fanChannelChanged (s : State) (old : Option Channel) :
    s.OutputMoves (s.fanChannelChanged old) := by
  unfold State.fanChannelChanged
  have ht : s.OutputMoves (if old.isSome then s.setFan { s.fan with st := .stopped, ramp := 0, stallRun := 0 } else s) :=
    ite (fun _ => setFan s rfl) fun _ => refl s
  dsimp only
  exact ite (fun _ => refl s) fun _ => ite (fun _ => ht) fun _ =>
    ite (fun _ => (fanStop _).after ht) fun _ => (fanStartOrSuspend _).after ht

/-- A channel that is no longer the fan channel leaves the fan STOPPED, with no write (R161). -/
theorem State.fanChannelChanged_left {s : State} {old : Option Channel} (hnow : s.fanChannel = none) (hold : old ≠ none) :
    s.fanChannelChanged old = s.setFan { s.fan with st := .stopped, ramp := 0, stallRun := 0 } := by
  unfold State.fanChannelChanged
  dsimp only
  rw [if_neg (by rw [hnow]; exact hold.symm), if_pos (Option.isSome_iff_ne_none.mpr hold)]
  exact if_pos hnow

/-- A channel in OFF that has become the fan channel (R36, R160; log 46). -/
theorem State.fanChannelChanged_taken {s : State} {old : Option Channel} {c : Channel} (hnow : s.fanChannel = some c)
    (hold : old ≠ some c) (hoff : (s.chan c).st = .off) :
    let t := s.fanChannelChanged old
    let idle := s.fan.target = 0 ∨ s.sup.crank = .crank
    t.fan.st = (if s.fan.target = 0 then .stopped else if s.sup.crank = .crank then .suspended else .starting) ∧
      (t.chan c).demand = (if idle then 0 else s.cfg.fan.kickDuty) ∧ (t.chan c).source = .steady ∧
      (t.chan c).st = .off := by
  have hwrite (u : State) (hu : u.chans = s.chans ∧ u.cfg = s.cfg) (d : Nat) : (u.fanWrite d).fan = u.fan ∧
      ((u.fanWrite d).chan c).demand = d ∧ ((u.fanWrite d).chan c).source = .steady ∧
      ((u.fanWrite d).chan c).st = .off := by
    have hst : (u.chan c).st = .off := by
      unfold State.chan
      rw [hu.1]
      exact hoff
    unfold State.fanWrite
    rw [State.fanChannel_congr hu.2, hnow]
    simp [hst]
  unfold State.fanChannelChanged
  dsimp only
  rw [if_neg (by rw [hnow]; exact hold.symm)]
  generalize ht : (if old.isSome then s.setFan { s.fan with st := .stopped, ramp := 0, stallRun := 0 } else s) = t
  obtain ⟨hchans, hcfg, htarget, hcrank⟩ :
      t.chans = s.chans ∧ t.cfg = s.cfg ∧ t.fan.target = s.fan.target ∧ t.sup = s.sup := by
    rw [← ht]
    split <;> exact ⟨rfl, rfl, rfl, rfl⟩
  have hchannel : t.fanChannel = some c := (State.fanChannel_congr hcfg).trans hnow
  have hst : (t.chan c).st = .off := by
    unfold State.chan
    rw [hchans]
    exact hoff
  rw [if_neg (by simp [hchannel]), ← htarget, ← hcrank]
  by_cases h0 : t.fan.target = 0
  · simp only [h0, if_true, true_or]
    obtain ⟨hf, hd, hsrc, hst⟩ := hwrite (t.setFan { t.fan with st := .stopped, ramp := 0, stallRun := 0 })
      ⟨hchans, hcfg⟩ 0
    exact ⟨congrArg Fan.st hf, hd, hsrc, hst⟩
  · simp only [h0, if_false, false_or]
    unfold State.fanStartOrSuspend State.cranking
    by_cases hk : t.sup.crank = .crank
    · simp only [hk, beq_self_eq_true, if_true]
      obtain ⟨hf, hd, hsrc, hst⟩ := hwrite (t.setFan { t.fan with st := .suspended, ramp := 0, stallRun := 0 })
        ⟨hchans, hcfg⟩ 0
      exact ⟨congrArg Fan.st hf, hd, hsrc, hst⟩
    · simp only [hk, if_false, beq_iff_eq]
      unfold State.fanStart
      rw [hchannel]
      dsimp only
      rw [hst]
      obtain ⟨hf, hd, hsrc, hst⟩ := hwrite (t.setFan { t.fan with st := .starting, stallRun := 0 })
        ⟨hchans, hcfg⟩ t.cfg.fan.kickDuty
      exact ⟨congrArg Fan.st hf, hd.trans (by rw [hcfg]), hsrc, hst⟩

end Sys2Proof.Machine
end

section
/-! SUPPORT. The MAP item executed (R25 to R30, R36, R37, R160, R161). -/

namespace Sys2Proof.Machine
open Sys2Proof

/-- The map with an entry replaced. -/
def State.withEntry (s : State) (x : Fin 32 × Option MapEntry) : State :=
  s.setCfg { s.cfg with map := s.cfg.map.set x.1 x.2 }

/-- The channels a MAP record reaches: the one the new entry targets and the one the old entry targeted (R30). -/
def State.mapTouches (s : State) (x : Fin 32 × Option MapEntry) (c : Channel) : Bool :=
  x.2.map MapEntry.chan == some c || (s.cfg.map[x.1]).map MapEntry.chan == some c

theorem State.applyMap_eq (s : State) (x : Fin 32 × Option MapEntry) :
    s.applyMap x = ((s.withEntry x).recomputeWhere (s.mapTouches x)).fanChannelChanged s.fanChannel := rfl

/-- The checks 4 to 7 of R29 on a record's entry, in their own words. -/
theorem MapEntry.bad_iff (cfg : Working) (i : Fin 32) (g : Fn) (c : Channel) (k : ContribKind) (level : Nat) :
    MapEntry.Bad cfg i { fn := g, chan := c, contrib := (contributionOf k level).1 } ↔
      k = .level ∧ g ≠ .panel ∨ k = .flash ∧ g ≠ .turnL ∧ g ≠ .turnR ∧ g ≠ .hazard ∨ g = .fan ∧ k ≠ .full ∨
        cfg.channels[c].kind = .gauge ∨ cfg.channels[c].kind = .none ∨ g = .fan ∧ cfg.channels[c].kind ≠ .motor ∨
        ∃ j : Fin 32, j ≠ i ∧ ∃ o ∈ cfg.map[j],
          o.fn = .fan ∧ g = .fan ∨ o.chan = c ∧ (g = .fan ∨ o.fn = .fan ∨ o.fn = g) := by
  have hothers (q : MapEntry → Prop) : (∃ o ∈ cfg.otherEntries i, q o) ↔ ∃ j : Fin 32, j ≠ i ∧ ∃ o ∈ cfg.map[j], q o := by
    simp only [Working.mem_otherEntries, Option.mem_def]
    grind
  rw [MapEntry.Bad, contribBad_iff, hothers]
  cases k <;> by_cases hg : g = .fan <;> simp [hg, or_assoc]

/-- What an applied MAP record leaves. -/
structure MapApplied (s t : State) (x : Fin 32 × Option MapEntry) : Prop where
  cfg : t.cfg = (s.withEntry x).cfg
  composed : ∀ c : Channel, (x.2.map MapEntry.chan = some c ∨ (s.cfg.map[x.1]).map MapEntry.chan = some c) →
    t.composes c = true → ((t.chan c).demand, (t.chan c).source) = t.composed c
  fan_left : t.fanChannel = none → s.fanChannel ≠ none →
    t.fan = { s.fan with st := .stopped, ramp := 0, stallRun := 0 }
  fan_taken : (∀ c : Channel, s.mapTouches x c = true → (s.chan c).st = .off) → ∀ c : Channel, s.QueueIsWaiting →
    t.fanChannel = some c → s.fanChannel ≠ some c → (s.chan c).st = .off →
    t.fan.st = (if s.fan.target = 0 then .stopped else if s.sup.crank = .crank then .suspended else .starting) ∧
    (t.chan c).demand = (if s.fan.target = 0 ∨ s.sup.crank = .crank then 0 else s.cfg.fan.kickDuty) ∧
    (t.chan c).source = .steady
  only : t = { s with cfg := t.cfg, chans := t.chans, queue := t.queue, window := t.window, fan := t.fan }

theorem State.applyMap_applied (s : State) (x : Fin 32 × Option MapEntry) : MapApplied s (s.applyMap x) x := by
  rw [State.applyMap_eq]
  generalize hu : (s.withEntry x).recomputeWhere (s.mapTouches x) = u
  have hsrc : u.sources = (s.withEntry x).sources := hu ▸ State.recomputeWhere_sources ..
  have hcfg : u.cfg = (s.withEntry x).cfg := congrArg Prod.fst hsrc
  have hmoves := State.OutputMoves.fanChannelChanged u s.fanChannel
  refine ⟨hmoves.cfg.trans hcfg, fun c hc hcomp => ?_, fun hnow hold => ?_, fun htouch c hq hnow hold hoff => ?_, ?_⟩
  · have hcomp' : (s.withEntry x).composes c = true := by
      rwa [State.composes_congr (hmoves.cfg.trans hcfg)] at hcomp
    have hq : s.mapTouches x c = true := by simpa [State.mapTouches] using hc
    have hw : ((u.fanChannelChanged s.fanChannel).chan c).written = (s.withEntry x).rewrites c := by
      rw [hmoves.written c (State.composes_notFan ((State.composes_congr hcfg c).trans hcomp')), ← hu,
        State.recomputeWhere_written _ hcomp', if_pos hq]
    rw [← State.rewrites_congr (hmoves.sources.trans hsrc) hcomp', State.rewrites_composed hcomp] at hw
    exact congrArg (fun y : Nat × DemandSource × Bool × Bool => (y.1, y.2.1)) hw
  · have hnow' : u.fanChannel = none := (State.fanChannel_congr hmoves.cfg).symm.trans hnow
    rw [State.fanChannelChanged_left hnow' hold, ← hu,
      State.recomputeWhere_noFan ((State.fanChannel_congr hcfg).symm.trans hnow')]
    rfl
  · have hstands : (s.withEntry x).StandsAs u := by
      rw [← hu]
      exact State.recomputeWhere_stands fun d hd => ⟨htouch d hd, State.unqueued_of_off hq (htouch d hd)⟩
    have hfan : u.fan = s.fan := hstands.fan
    have hsup : u.sup = s.sup := congrArg (·.2.2.2.2.1) hsrc
    have htaken := State.fanChannelChanged_taken ((State.fanChannel_congr hmoves.cfg).symm.trans hnow) hold
      ((hstands.st c).trans hoff)
    rw [hfan, hsup, hcfg] at htaken
    exact ⟨htaken.1, htaken.2.1, htaken.2.2.1⟩
  · have hrest := State.applyMap_keep (fun y => { y with
        cfg := (s.applyMap x).cfg, chans := (s.applyMap x).chans, queue := (s.applyMap x).queue,
        window := (s.applyMap x).window, fan := (s.applyMap x).fan })
      (fun _ _ => rfl) (fun _ _ => rfl) (fun _ _ => rfl) (fun _ _ => rfl) (fun _ _ => rfl) s x
    rw [State.applyMap_eq, hu] at hrest
    exact hrest

section
variable {s : State} {p : Port} {f : Frame} {r : Run} {w : WMap}

theorem Executing.exec_configMap (h : Executing s p f r (.config (.map w))) :
    exec (.configMap p) s = .next (s.configItem p f.slot (s.checkMap w) State.applyMap
      (fun x => .map x.1 x.2) noSkip) := by
  simp [exec, execConfigMap, h.itemOn]

/-- What an accepted MAP record leaves, as the item's answer and its effects. -/
structure MapTaken (s t : State) (p : Port) (f : Frame) (r : Run) (i : Fin 32) (x : Option MapEntry) (clamped : Bool) :
    Prop where
  cfg : t.cfg = { s.cfg with map := s.cfg.map.set i x }
  storeWrite : t.storeWrite = some (.map i x)
  composed : ∀ c : Channel, (x.map MapEntry.chan = some c ∨ (s.cfg.map[i]).map MapEntry.chan = some c) →
    t.composes c = true → ((t.chan c).demand, (t.chan c).source) = t.composed c
  fan_left : t.fanChannel = none → s.fanChannel ≠ none →
    t.fan = { s.fan with st := .stopped, ramp := 0, stallRun := 0 }
  fan_taken : ∀ c : Channel, s.QueueIsWaiting → t.fanChannel = some c → s.fanChannel ≠ some c → (s.chan c).st = .off →
    t.fan.st = (if s.fan.target = 0 then .stopped else if s.sup.crank = .crank then .suspended else .starting) ∧
    (t.chan c).demand = (if s.fan.target = 0 ∨ s.sup.crank = .crank then 0 else s.cfg.fan.kickDuty) ∧
    (t.chan c).source = .steady
  answered : Answered s t p f r r.items.tail (Status.only (acceptedStatus clamped))
  only : t = { s with cfg := t.cfg, storeWrite := t.storeWrite, ports := t.ports, chans := t.chans, queue := t.queue,
                      window := t.window, fan := t.fan }

theorem Executing.map_taken (h : Executing s p f r (.config (.map w))) (ht : s.configTest f.slot = none) {i : Fin 32}
    {x : Option MapEntry} {clamped : Bool} (hcheck : s.checkMap w = .accepted (i, x) clamped) :
    MapTaken s (s.configItem p f.slot (s.checkMap w) State.applyMap (fun x => .map x.1 x.2) noSkip) p f r i x clamped := by
  obtain ⟨hnow, hbefore⟩ := State.checkMap_accepted hcheck
  rw [hcheck]
  obtain ⟨hans, honly⟩ := h.config_accepted ht (i, x) clamped (apply := State.applyMap) (fun x => .map x.1 x.2)
    (skip := noSkip) rfl (by simp)
  have happlied := s.applyMap_applied (i, x)
  have htouch (c : Channel) (hc : s.mapTouches (i, x) c = true) : (s.chan c).st = .off := by
    simp only [State.mapTouches, Bool.or_eq_true, beq_iff_eq] at hc
    rcases hc with hc | hc
    · obtain ⟨e, he, rfl⟩ := Option.map_eq_some_iff.mp hc
      exact (hnow e he).2
    · exact hbefore c hc
  revert hans honly
  generalize s.configItem p f.slot _ _ _ _ = t
  intro hans honly
  obtain ⟨ports, rfl⟩ : ∃ ports, t = { s.applyMap (i, x) with storeWrite := some (.map i x), ports := ports } :=
    ⟨_, honly⟩
  exact ⟨happlied.cfg, rfl, happlied.composed, happlied.fan_left, happlied.fan_taken htouch, hans,
    congrArg (fun u : State => { u with storeWrite := some (.map i x), ports := ports }) happlied.only⟩

end

end Sys2Proof.Machine

open Sys2Proof Sys2Proof.Machine

/-- Settles O53: the checks by `checkMap` and `mapRefusal`, the effects by `MapTaken`. -/
theorem configMapApplied : Obligations.ConfigMapApplied := by
  intro p f r w s h ht
  refine ⟨_, h.exec_configMap, fun hi => ?_, fun i hi => ?_⟩
  · rw [State.checkMap_noIndex hi]
    exact h.config_refused ht ..
  intro before busy taken
  have hbusy : s.entryBusy i = true ↔ busy := State.entryBusy_iff
  have htaken {x : Option MapEntry} {b : Bool} (hc : s.checkMap w = .accepted (i, x) b) : taken x b := by
    obtain ⟨h1, h2, h3, h4, h5, h6, h7⟩ := h.map_taken ht hc
    exact ⟨h1, h2, h3, h4, h5, h6, h7⟩
  have hrefused {st : Status} (hc : s.checkMap w = .refused st) : RefusedWith s
      (s.configItem p f.slot (s.checkMap w) State.applyMap (fun x => .map x.1 x.2) noSkip) p f r st := by
    rw [hc]
    exact h.config_refused ht ..
  refine ⟨fun he hb => hrefused ?_, fun he hb => htaken ?_, fun e he => ⟨fun hno => hrefused ?_, ?_⟩⟩
  · rw [State.checkMap_empty hi he, if_pos (hbusy.mpr hb)]
  · rw [State.checkMap_empty hi he, if_neg (mt hbusy.mp hb)]
  · exact State.checkMap_noTarget hi he hno
  intro g c hg hc
  refine ⟨fun hk => hrefused (State.checkMap_unlisted hi he hg hc hk), ?_⟩
  intro k hk kind bad full inUse
  classical
  have hbad : MapEntry.Bad s.cfg i { fn := g, chan := c, contrib := (contributionOf k e.level).1 } ↔ bad :=
    MapEntry.bad_iff s.cfg i g c k e.level
  have hfull : 4 ≤ ((s.cfg.otherEntries i).filter fun o => o.chan == c).length ↔ full := by
    rw [Working.length_otherEntries_filter]
  have hrefusal := mapRefusal_eq s.cfg i { fn := g, chan := c, contrib := (contributionOf k e.level).1 }
  refine ⟨fun hb => hrefused ?_, fun hb hf => hrefused ?_, fun hb hf hu => hrefused ?_, fun hb hf hu => htaken ?_⟩
  · exact State.checkMap_refused hi he hg hc hk (hrefusal.trans (if_pos (hbad.mpr hb)))
  · exact State.checkMap_refused hi he hg hc hk
      ((hrefusal.trans (if_neg (mt hbad.mp hb))).trans (if_pos (hfull.mpr hf)))
  all_goals
    rw [State.checkMap_fits hi he hg hc hk
      ((hrefusal.trans (if_neg (mt hbad.mp hb))).trans (if_neg (mt hfull.mp hf)))]
    have huse : (!s.isOff c || s.entryBusy i) = true ↔ inUse := by
      rw [Bool.or_eq_true, hbusy]
      simp [inUse, State.isOff]
  · rw [if_pos (huse.mpr hu)]
  · rw [if_neg (mt huse.mp hu)]
    have hclamp : (contributionOf k e.level).2 = decide (k = .dim ∧ clampTo 1 249 e.level ≠ e.level) := by
      rw [Bool.eq_iff_iff]
      cases k <;> simp [contributionOf]
    rw [hclamp]
    cases k <;> rfl
end

section
/-! SUPPORT. One principle for the invariants that the composer, the flash generator, the gauge unit and the fan unit carry:
a property that each of their actions keeps, at the moments at which the part takes it, is kept by every step. -/

namespace Sys2Proof.Machine
open Sys2Proof

/-- What it takes for a property to be kept by every step: fields that it does not read, and the actions on the others,
each whole and under the condition under which it is taken, so that a property that an action breaks and mends within
itself still qualifies. -/
structure DriveInvariant (P : State → Prop) : Prop where
  pending : Free_pending P
  power : Free_power P
  clock : Free_clock P
  store : Free_store P
  storeWrite : Free_storeWrite P
  ports : Free_ports P
  slots : Free_slots P
  claims : Free_claims P
  window : Free_window P
  gates : Free_gates P
  seq : Free_seq P
  /-- A channel's record moves, but for its state, its demand and its marks. -/
  chan : ∀ (s : State) (c : Channel) (f : Chan → Chan), (f (s.chan c)).st = (s.chan c).st →
    (f (s.chan c)).written = (s.chan c).written → P s → P (s.modChan c f)
  admission : ∀ s : State, P s → P s.admitHeads
  inrushExpire : ∀ (s : State) (c : Channel), (s.chan c).st = .inrush → P s → P (s.inrushExpire c)
  coolOffExpire : ∀ (s : State) (c : Channel), (s.chan c).st = .cooling → P s → P (s.coolOffExpire c)
  trip : ∀ (s : State) (c : Channel) (k : TripCause), (s.chan c).st.drives = true → P s → P (s.trip c k)
  release : ∀ (s : State) (c : Channel), (s.chan c).st = .latched → P s → P (s.release c)
  takeUp : ∀ s : State, P s → P s.takeUpAll
  /-- The fan's stall run and its report move (R166). -/
  fanCount : ∀ (s : State) (v : Fan), v = { s.fan with stallRun := v.stallRun, report := v.report } → P s →
    P (s.setFan v)
  reevaluate : ∀ (s : State) (f : Fn), P s → P (s.reevaluate f)
  enterOn : ∀ (s : State) (early : Bool), s.flashActive = true → P s → P (s.enterOn early)
  enterOff : ∀ (s : State) (cy : Cycle) (early : Bool), s.onPhase = true → P s → P (s.enterOff cy early)
  /-- The generator moves within its phase. -/
  flash : ∀ (s : State) (v : Flash), v.phase = s.flash.phase → P s → P (s.setFlash v)
  countFlash : ∀ s : State, P s → P s.countFlash
  /-- The supervisor moves, but for the crank state, the shed level and Vf. -/
  sup : ∀ (s : State) (v : Supervisor), v.crank = s.sup.crank → v.shed = s.sup.shed → v.vf = s.sup.vf → P s →
    P (s.setSup v)
  /-- Vf changes, and the gauge unit takes the change (R114, R151). -/
  filter : ∀ (s : State) (n : Nat), P s → P ((s.setSup { s.sup with vf := some n }).gaugesRecompute)
  woken : ∀ s : State, P s → P (s.setSup s.sup.woken)
  shed : ∀ (s : State) (n : Nat), s.cranking = false → P s → P (s.setShed n)
  crankIn : ∀ s : State, s.cranking = false → P s →
    P (((s.setSup { s.sup with crank := .crank, crankIn := 0, crankOut := 0, inHand := none }).raise .crank).fanCrankEntry)
  crankOut : ∀ s : State, s.cranking = true → P s →
    P (((s.setSup { s.sup with crank := .normal, crankIn := 0, crankOut := 0, inHand := none }).raise .crank).fanCrankExit)
  gaugeRest : ∀ (s : State) (g : GaugeId), (s.gauge g).st ≠ .off → P s → P (s.gaugeRest g)
  gaugeFault : ∀ (s : State) (g : GaugeId), (s.gauge g).st ≠ .off → P s → P (s.gaugeFault g)
  gaugeRecover : ∀ (s : State) (g : GaugeId), (s.gauge g).st ≠ .off → P s → P (s.gaugeRecover g)
  gaugeEnter : ∀ (s : State) (g : GaugeId) (v : Nat), (s.gauge g).st ≠ .off → P s → P (s.gaugeEnter g v)
  /-- A slot's fault run or recovery run moves (R144). -/
  gaugeCount : ∀ (s : State) (g : GaugeId) (v : GaugeSlot), (s.gauge g).st ≠ .off →
    v = { s.gauge g with faultRun := v.faultRun, recoveryRun := v.recoveryRun } → P s → P (s.setGauge g v)
  countFaultHold : ∀ (s : State) (g : GaugeId), P s → P (s.countFaultHold g)
  gaugeHold : ∀ (s : State) (g : GaugeId), P s → P (s.gaugeHold g)
  gaugeRelease : ∀ (s : State) (g : GaugeId), P s → P (s.gaugeRelease g)
  /-- An input moves, filtered IGN standing. -/
  input : ∀ (s : State) (i : InputId) (v : Input), (i = .ign → v.filtered = (s.input .ign).filtered) → P s →
    P (s.setInput i v)
  ign : ∀ (s : State) (v : Input) (l : Bool), v.filtered = some l → P s →
    P ((s.setInput .ign v).ignitionChanged.gaugesIgnition l)
  /-- A record that none of these units reads is replaced. -/
  cfg : ∀ (s : State) (v : Working), v.channels = s.cfg.channels → v.map = s.cfg.map → v.gauges = s.cfg.gauges →
    v.fan = s.cfg.fan → P s → P (s.setCfg v)
  retarget : ∀ (s : State) (cls : VClass), s.filtered .ign = false → P s → P (s.retarget cls)
  newChannel : ∀ (s : State) (w : WChannel) (x : Channel × ChannelRec) (b : Bool), s.checkChannel w = .accepted x b →
    P s → P (s.applyChannel x)
  newMap : ∀ (s : State) (w : WMap) (x : Fin 32 × Option MapEntry) (b : Bool), s.checkMap w = .accepted x b →
    P s → P (s.applyMap x)
  newGauge : ∀ (s : State) (w : WGauge) (x : GaugeId × GaugeRec) (b : Bool), s.filtered .ign = false →
    s.checkGauge w = .accepted x b → P s → P (s.applyGauge x)
  newFan : ∀ (s : State) (w r : FanRec) (b : Bool), s.checkFan w = .accepted r b → P s → P (s.applyFan r)
  begin : ∀ (s : State) (k : ResetKind), P (s.begin k)
  brownOut : ∀ s : State, P s → P s.brownOut

namespace DriveInvariant

variable {P : State → Prop} (h : DriveInvariant P) {s : State}
include h

/-! ### The output stage -/

theorem raise (hs : P s) (k : EventKind) : P (s.raise k) := (s.raise_keep P h.slots k).mpr hs

theorem raiseOthers (hs : P s) (m : SlotId) : P (s.raiseOthers m) := (s.raiseOthers_keep P h.slots m).mpr hs

theorem abandon (hs : P s) (x : Source) : P (s.abandon x) := (s.abandon_keep P h.seq x).mpr hs

theorem runCountReach (hs : P s) (c : Channel) : P (s.runCountReach c) := h.chan s c _ rfl rfl hs

theorem stallReport (hs : P s) : P s.stallReport := by
  unfold State.stallReport
  have ht : P (s.setFan { s.fan with report := none }) := h.fanCount s _ rfl hs
  generalize hv : s.setFan { s.fan with report := none } = t at ht ⊢
  have hchan (c : Channel) : t.chan c = s.chan c := hv ▸ rfl
  dsimp only
  cases s.fan.report with
  | none => exact ht
  | some c =>
    refine ClaimInvariant.of_ite (fun hc => ?_) ht
    have hrun : ((t.whenDue (s.runCountDue c) fun u => u.runCountReach c).chan c).st = .run := by
      unfold State.whenDue State.runCountReach
      split <;> simp [hchan, hc.2]
    exact h.trip _ c _ (by rw [hrun]; rfl) (ClaimInvariant.whenDue ht fun _ => h.runCountReach ht c)

theorem bulbSet (hs : P s) (c : Channel) : P (s.bulbSet c) := h.raise (h.chan s c _ rfl rfl hs) _

theorem bulbClear (hs : P s) (c : Channel) : P (s.bulbClear c) := h.raise (h.chan s c _ rfl rfl hs) _

theorem openLoad (hs : P s) (c : Channel) (n : Nat) : P (s.openLoad c n) := by
  refine ClaimInvariant.of_ite (fun _ => h.chan s c _ ?_ ?_ hs) hs
  · unfold Chan.sampled
    split <;> rfl
  · unfold Chan.sampled
    split <;> rfl

theorem fanSample (hs : P s) (c : Channel) (n : Nat) : P (s.fanSample c n) := by
  refine ClaimInvariant.of_ite (fun _ => h.fanCount s _ ?_ hs) hs
  unfold Fan.countStall
  split
  · rfl
  · split <;> rfl

/-! ### Claims -/

theorem reevaluateAll (hs : P s) (l : List Fn) : P (s.reevaluateAll l) :=
  ClaimInvariant.foldl hs fun t f ht => h.reevaluate t f ht

theorem writeCell (hs : P s) (f : Fn) (k : Claimant) (v : Option Claim) : P (s.writeCell f k v) :=
  ClaimInvariant.of_ite (fun _ => hs) (h.reevaluate _ f ((State.setCell_keep P h.claims ..).mpr hs))

theorem setSlot (hs : P s) (m : SlotId) (v : Slot) : P (s.setSlot m v) := (s.setSlot_keep P h.slots m v).mpr hs

theorem orphanCell (hs : P s) (m : SlotId) (f : Fn) : P (s.orphanCell m f) := by
  unfold State.orphanCell
  split
  · exact hs
  · exact h.writeCell hs f _ _

theorem unmarkCell (hs : P s) (m : SlotId) (f : Fn) : P (s.unmarkCell m f) := by
  unfold State.unmarkCell
  split
  · exact hs
  · exact h.writeCell hs f _ _

theorem fallSilent (hs : P s) (m : SlotId) (early : Bool) : P (s.fallSilent m early) :=
  h.raiseOthers (ClaimInvariant.foldl (h.setSlot hs m _) fun _ f ht => h.orphanCell ht m f) m

theorem hear (hs : P s) (m : SlotId) : P (s.hear m) := by
  unfold State.hear
  dsimp only
  split
  · exact h.setSlot hs m _
  · exact h.setSlot hs m _
  · exact h.raiseOthers (h.setSlot (ClaimInvariant.foldl hs fun _ f ht => h.unmarkCell ht m f) m _) m

theorem clearColumn (hs : P s) (m : SlotId) : P (s.clearColumn m) := by
  unfold State.clearColumn
  exact ClaimInvariant.foldl hs fun _ f ht => h.writeCell ht f _ _

theorem forgetSlot (hs : P s) (m : SlotId) : P (s.forgetSlot m) := by
  have ht := h.setSlot (h.clearColumn hs m) m { (s.clearColumn m).slot m with st := .unheard, timer := none }
  exact ClaimInvariant.of_ite (fun _ => ht) (h.raiseOthers ht m)

theorem claimPairs (hs : P s) (m : SlotId) (l : List (Byte × Byte)) : P (s.claimPairs m l) := by
  unfold State.claimPairs
  refine ClaimInvariant.foldl hs fun t q ht => ?_
  unfold State.claimPair
  split
  · exact ht
  · exact h.writeCell ht _ _ _

theorem claimColumn (hs : P s) (m : SlotId) (l : List (Byte × Byte)) : P (s.claimColumn m l) :=
  h.claimPairs (ClaimInvariant.foldl hs fun _ f ht => h.writeCell ht f _ _) m _

theorem countSlot (hs : P s) (m : SlotId) : P (s.countSlot m) :=
  h.setSlot ((s.countHolds_keep P h.claims m).mpr hs) m _

/-! ### The gauge unit -/

omit h in
theorem faultEntryDue_on {g : GaugeId} (hd : s.faultEntryDue g = true) : (s.gauge g).st ≠ .off := by
  simp only [State.faultEntryDue, Bool.and_eq_true, beq_iff_eq] at hd
  simp [hd.1.2]

omit h in
theorem recoveryDue_on {g : GaugeId} (hd : s.recoveryDue g = true) : (s.gauge g).st ≠ .off := by
  simp only [State.recoveryDue, Bool.and_eq_true] at hd
  intro hoff
  rw [hoff] at hd
  exact absurd hd.1.1.2 (by decide)

theorem gaugeFinishReading (hs : P s) (g : GaugeId) : P (s.gaugeFinishReading g) :=
  ClaimInvariant.of_ite (fun hd => h.gaugeFault s g (faultEntryDue_on hd) hs)
    (ClaimInvariant.of_ite (fun hd => h.gaugeRecover s g (recoveryDue_on hd) hs) hs)

theorem gaugeReading (hs : P s) (g : GaugeId) (v : Nat) : P (s.gaugeReading g v) := by
  refine ClaimInvariant.of_ite (fun _ => hs) ?_
  cases hst : (s.gauge g).st with
  | off => exact hs
  | held => exact hs
  | active =>
    exact ClaimInvariant.of_ite (fun _ => h.gaugeEnter s g v (by simp [hst]) hs)
      (h.gaugeCount s g _ (by simp [hst]) rfl hs)
  | faultHold | faultRest => exact h.gaugeCount s g _ (by simp [hst]) rfl hs

theorem settleGauge (hs : P s) (g : GaugeId) : P (s.settleGauge g) := by
  refine h.gaugeFinishReading (ClaimInvariant.whenDue hs fun hd => h.gaugeRest s g ?_ hs) g
  simp only [State.faultExpiryDue, Bool.and_eq_true, beq_iff_eq] at hd
  rw [hd.1.2]
  decide

/-! ### The supply supervisor -/

omit h in
/-- The shed level moves in NORMAL only (R117). -/
theorem normal_of_shedDue (hd : s.shedRiseDue = true ∨ s.shedFallDue = true) : s.cranking = false := by
  simp only [State.shedRiseDue, State.shedFallDue, Bool.and_eq_true, Bool.not_eq_true'] at hd
  rcases hd with hd | hd
  · exact hd.1.1.2
  · exact hd.1.1.2

theorem finishShed (hs : P s) : P s.finishShed :=
  ClaimInvariant.of_ite (fun hd => h.shed s _ (normal_of_shedDue (.inl hd)) hs)
    (ClaimInvariant.of_ite (fun hd => h.shed s _ (normal_of_shedDue (.inr hd)) hs) hs)

theorem filterSample (hs : P s) (v : Nat) : P (s.filterSample v) := by
  unfold State.filterSample
  extract_lets vf _ t u _
  refine h.sup u _ rfl rfl rfl ?_
  change P (if _ then t else t.gaugesRecompute)
  split
  · rename_i hvf
    exact h.sup s _ rfl rfl hvf.symm hs
  · exact h.filter s vf hs

theorem countSample (hs : P s) (v : Nat) : P (s.countSample v) := by
  unfold State.countSample
  split
  · exact h.sup s _ rfl rfl rfl hs
  · extract_lets n _ t
    have ht : P t := h.sup s _ rfl rfl rfl hs
    split
    · exact ht
    · exact h.filterSample ht v

theorem crankEnter (hc : s.cranking = false) (hs : P s) : P s.crankEnter := by
  unfold State.crankEnter
  extract_lets x _ t
  have hx : P x := ClaimInvariant.foldl hs fun _ g ht => h.gaugeFinishReading ht g
  have hxc : x.cranking = false := by
    have : x.sup = s.sup := foldl_keep (·.sup) _ (fun t g => by simp) _ s
    unfold State.cranking
    rw [this]
    exact hc
  exact h.flash _ _ rfl (ClaimInvariant.foldl (h.crankIn x hxc hx) fun t g ht => h.gaugeHold t g ht)

theorem crankLeave (hc : s.cranking = true) (hs : P s) : P s.crankLeave := by
  unfold State.crankLeave
  extract_lets _ t u
  have hu : P u := ClaimInvariant.foldl (h.crankOut s hc hs) fun t g ht => h.gaugeRelease t g ht
  split
  · exact hu
  · exact h.filterSample hu _

theorem of_crankExitDue (hs : P s) (hd : s.crankExitDue = true) : P s.crankLeave := by
  simp only [State.crankExitDue, Bool.and_eq_true] at hd
  exact h.crankLeave hd.1.1.2 hs

theorem of_crankEntryDue (hs : P s) (hd : s.crankEntryDue = true) : P s.crankEnter := by
  simp only [State.crankEntryDue, Bool.and_eq_true, Bool.not_eq_true'] at hd
  exact h.crankEnter hd.1.2 hs

theorem settleCrank (hs : P s) : P s.settleCrank := by
  have hx : P (s.whenDue s.crankExitDue State.crankLeave) := ClaimInvariant.whenDue hs (h.of_crankExitDue hs)
  exact ClaimInvariant.whenDue hx (h.of_crankEntryDue hx)

theorem settleSupply (hs : P s) : P s.settleSupply := h.finishShed (h.settleCrank hs)

theorem busSample (hs : P s) (v : Nat) : P (s.busSample v) :=
  ClaimInvariant.of_ite (fun _ => h.brownOut s hs) (h.settleSupply (h.countSample (h.settleSupply hs) v))

theorem applySupply (hs : P s) (r : SupplyRec) : P (s.applySupply r) :=
  h.admission _ (h.sup _ _ rfl rfl rfl (h.cfg s _ rfl rfl rfl rfl hs))

/-! ### The local inputs -/

theorem setLevel (hs : P s) (i : InputId) (l early : Bool) : P (s.setLevel i l early) := by
  unfold State.setLevel
  have ht : P (s.whenDue (i == .start) State.settleSupply) := ClaimInvariant.whenDue hs fun _ => h.settleSupply hs
  extract_lets t
  cases i with
  | ign => exact h.ign t _ l rfl ht
  | brake => exact h.writeCell (h.input t .brake _ (fun hi => by cases hi) ht) _ _ _
  | hazard => exact h.writeCell (h.input t .hazard _ (fun hi => by cases hi) ht) _ _ _
  | start => exact h.settleCrank (h.input t .start _ (fun hi => by cases hi) ht)

theorem settleInput (hs : P s) (i : InputId) : P (s.settleInput i) := by
  refine ClaimInvariant.of_ite (fun _ => h.setLevel hs i _ _) ?_
  split
  · exact h.setLevel hs i _ _
  · exact hs

theorem startingDone (hs : P s) : P s.startingDone := (State.startingDone_keep P h.power s).mpr hs

theorem settleInputsOf (hs : P s) (ids : List InputId) : P (s.settleInputsOf ids) :=
  ClaimInvariant.foldl (ClaimInvariant.whenDue hs fun _ => h.startingDone hs) fun _ i ht => h.settleInput ht i

/-! ### Steps that have fallen due -/

theorem settleSlot (hs : P s) (m : SlotId) : P (s.settleSlot m) :=
  ClaimInvariant.foldl (ClaimInvariant.whenDue hs fun _ => h.fallSilent hs m false) fun _ f ht =>
    ClaimInvariant.whenDue ht fun _ => h.writeCell ht f _ _

omit h in
theorem flashActive_of_startDue (hd : s.flashStartDue = true) : s.flashActive = true := by
  unfold State.flashStartDue at hd
  unfold State.flashActive
  cases hp : s.flash.phase with
  | idle p came => simp_all
  | onPhase c => rfl
  | offPhase c => rfl

omit h in
theorem flashActive_of_startEarly (hd : s.flashStartEarly = true) : s.flashActive = true := by
  unfold State.flashStartEarly at hd
  unfold State.flashActive
  cases hp : s.flash.phase with
  | idle p came => simp_all
  | onPhase c => rfl
  | offPhase c => rfl

omit h in
theorem flashActive_of_onDue (hd : s.onDue = true ∨ s.onEarly = true) : s.flashActive = true := by
  unfold State.onDue State.onEarly at hd
  unfold State.flashActive
  cases hp : s.flash.phase with
  | idle p came => simp [hp] at hd
  | onPhase c => rfl
  | offPhase c => rfl

omit h in
theorem onPhase_of_offDue {cy : Cycle} (hd : s.offDue = some cy ∨ s.offEarly = some cy) : s.onPhase = true := by
  unfold State.offDue State.offEarly at hd
  unfold State.onPhase
  cases hp : s.flash.phase with
  | idle p came => simp [hp] at hd
  | onPhase c => rfl
  | offPhase c => simp [hp] at hd

theorem settleFlash (hs : P s) : P s.settleFlash := by
  unfold State.settleFlash
  have ht : P (s.whenDue s.flashStartDue fun t => t.enterOn false) :=
    ClaimInvariant.whenDue hs fun hd => h.enterOn s false (flashActive_of_startDue hd) hs
  extract_lets t u
  have hu : P u := by
    change P (match t.offDue with | some cy => t.enterOff cy false | none => t)
    split
    · rename_i hd
      exact h.enterOff t _ _ (onPhase_of_offDue (.inl hd)) ht
    · exact ht
  exact ClaimInvariant.whenDue hu fun hd => h.enterOn u false (flashActive_of_onDue (.inl hd)) hu

omit h in
theorem inrush_of_due {c : Channel} (hd : (s.inrushDue c || s.inrushEarly c) = true) : (s.chan c).st = .inrush := by
  simp only [State.inrushDue, State.inrushEarly, Bool.or_eq_true, Bool.and_eq_true, beq_iff_eq] at hd
  rcases hd with hd | hd
  · exact hd.1.2
  · exact hd.1.1.1.2

omit h in
theorem cooling_of_due {c : Channel} (hd : (s.coolOffDue c || s.coolOffEarly c) = true) : (s.chan c).st = .cooling := by
  simp only [State.coolOffDue, State.coolOffEarly, Bool.or_eq_true, Bool.and_eq_true, beq_iff_eq] at hd
  rcases hd with hd | hd
  · exact hd.1.2
  · exact hd.1.2

theorem settleChannel (hs : P s) (c : Channel) : P (s.settleChannel c) := by
  unfold State.settleChannel
  extract_lets t u v w
  have ht : P t := ClaimInvariant.whenDue hs fun hd => h.inrushExpire s c (inrush_of_due (by rw [hd]; rfl)) hs
  have hu : P u := ClaimInvariant.whenDue ht fun hd => h.coolOffExpire t c (cooling_of_due (by rw [hd]; rfl)) ht
  have hv : P v := ClaimInvariant.whenDue hu fun _ => h.runCountReach hu c
  have hw : P w := ClaimInvariant.whenDue hv fun _ => h.bulbSet hv c
  exact ClaimInvariant.whenDue hw fun _ => h.bulbClear hw c

theorem settleStepsOf (hs : P s) (ids : List InputId) : P (s.settleStepsOf ids) := by
  unfold State.settleStepsOf
  extract_lets a c e
  have ha : P a := ClaimInvariant.foldl (h.settleInputsOf hs ids) fun _ m ht => h.settleSlot ht m
  have hb : P (allGauges.foldl State.settleGauge a.settleFlash) :=
    ClaimInvariant.foldl (h.settleFlash ha) fun _ g ht => h.settleGauge ht g
  have hd : P (allChannels.foldl State.settleChannel c) :=
    ClaimInvariant.foldl (h.settleSupply hb) fun _ x ht => h.settleChannel ht x
  have he : P e := ClaimInvariant.whenDue hd fun _ => h.stallReport hd
  exact ClaimInvariant.whenDue he fun _ => (State.abandonUnservable_keep P h.seq e).mpr he

theorem settleSteps (hs : P s) : P s.settleSteps := h.settleStepsOf hs allInputs

theorem sleep (hs : P s) : P s.sleep := (State.sleep_keep P h.power h.ports h.gates h.seq s).mpr hs

theorem settle (hs : P s) : P s.settle :=
  ClaimInvariant.of_ite (fun _ => h.sleep (h.settleSteps hs)) (h.settleStepsOf hs _)

theorem rawEvent (hs : P s) (k : WakeCause) : P (s.rawEvent k) := by
  unfold State.rawEvent
  split
  · exact hs
  · exact h.input s _ _ (fun hi => by rw [hi]) hs

theorem wakeUp (hs : P s) : P s.wakeUp := by
  unfold State.wakeUp
  extract_lets _ a b c d
  have ha : P a := (State.setPower_keep P h.power ..).mpr hs
  have hb : P b := h.woken _ ((State.setClock_keep P h.clock ..).mpr ha)
  have hc : P c := ClaimInvariant.foldl hb fun t i ht => h.input t i _ (fun hi => by rw [hi]) ht
  have hd : P d := ClaimInvariant.foldl hc fun t m ht => h.setSlot ht m _
  exact ClaimInvariant.foldl hd fun t p ht => (State.hunt_keep P h.ports t p 0).mpr ht

theorem sampleInput (hs : P s) (lines : PerInput Bool) (i : InputId) : P (s.sampleInput lines i) := by
  refine ClaimInvariant.of_ite (fun _ => h.input s i _ (fun hi => by rw [hi]) hs) (h.input s i _ (fun hi => ?_) hs)
  unfold Input.sample
  split <;> simp_all

theorem startPeriod (hs : P s) (lines : PerInput Bool) : P (s.startPeriod lines) := by
  unfold State.startPeriod
  extract_lets a b x c
  have ha : P a := ClaimInvariant.foldl ((State.abandonAll_keep P h.seq s).mpr hs) fun _ i ht => h.sampleInput ht lines i
  have hb : P b :=
    h.countFlash _ (ClaimInvariant.foldl (ClaimInvariant.foldl ha fun _ m ht => h.countSlot ht m)
      h.countFaultHold)
  have hc : P c := by
    rwa [State.setClock_keep P h.clock, State.setPower_keep P h.power, State.setSeq_keep P h.seq]
  exact (State.postRequests_keep P h.seq _).mpr (h.takeUp c hc)

end DriveInvariant
end Sys2Proof.Machine
end

section
/-! SUPPORT. A property with the drive principle's actions is kept by frames, items, every command and every step. -/

namespace Sys2Proof.Machine
open Sys2Proof

namespace DriveInvariant

open ClaimInvariant (of_ite whenDue Reached reached_next)

variable {P : State → Prop} (h : DriveInvariant P) {s : State}
include h

/-! ### Frames and replies -/

theorem setPort (hs : P s) (p : Port) (v : PortState) : P (s.setPort p v) := (s.setPort_keep P h.ports p v).mpr hs

theorem hunt (hs : P s) (p : Port) (n : Nat) : P (s.hunt p n) := h.setPort hs p _

theorem applyRates (hs : P s) : P s.applyRates := (s.applyRates_keep P h.ports).mpr hs

theorem judge (hs : P s) (p : Port) (f : RawFrame) : P (s.judge p f) := by
  unfold State.judge
  have ht := h.hunt hs p 0
  extract_lets t
  refine of_ite (fun _ => ?_) ht
  split
  · exact of_ite (fun _ => (State.setPower_keep P h.power ..).mpr (h.hear (h.setPort ht p _) _)) (h.setPort ht p _)
  · exact ht

theorem afterFrame (hs : P s) (rate reset : Bool) : P (s.afterFrame rate reset) :=
  of_ite (fun _ => h.begin s _) (of_ite (fun _ => h.applyRates hs) hs)

theorem leaveQueue (hs : P s) (p : Port) : P (s.leaveQueue p) := h.setPort hs p _

theorem finishFrame (hs : P s) (p : Port) : P (s.finishFrame p) := by
  unfold State.finishFrame
  split
  · exact of_ite (fun _ => h.setPort hs p _) (h.afterFrame (h.leaveQueue hs p) _ _)
  · exact hs

theorem answer (hs : P s) (p : Port) (a : Option Answer) (k : Option Status) : P (s.answer p a k) := by
  unfold State.answer
  split
  · exact hs
  · exact of_ite (fun _ => h.finishFrame (h.setPort hs p _) p) (h.setPort hs p _)

theorem answerStatus (hs : P s) (p : Port) (k : Status) : P (s.answerStatus p k) := h.answer hs p _ _

theorem abandonReply (hs : P s) (p : Port) (r : Reply) : P (s.abandonReply p r) :=
  h.afterFrame (h.hunt (h.leaveQueue hs p) p 0) _ _

theorem lineActive (hs : P s) (p : Port) : P (s.lineActive p) := by
  unfold State.lineActive
  split
  · exact h.abandonReply hs p _
  · exact of_ite (fun _ => h.hunt (h.setPort hs p _) p 0) hs
  · exact hs
  · exact hs

theorem beginFrame (hs : P s) (p : Port) (items : List Item) : P (s.beginFrame p items) :=
  of_ite (fun _ => h.finishFrame (h.setPort hs p _) p) (h.setPort hs p _)

/-! ### Items -/

theorem readItem (hs : P s) (p : Port) (answered : Bool) (k : ReadKind) (idx : Byte) :
    P (s.readItem p answered k idx) := by
  refine of_ite (fun _ => ?_) (h.answer hs p _ _)
  split
  · exact h.answerStatus hs p _
  · split
    · exact h.answer hs p _ _
    · exact h.answerStatus hs p _

theorem readOf (hs : P s) (p : Port) (isKind : ReadKind → Bool) : P (s.readOf p isKind) := by
  unfold State.readOf
  split
  · exact of_ite (fun _ => h.readItem hs p _ _ _) hs
  · exact hs

theorem clearChannel (hs : P s) (b : Byte) : P (s.clearChannel b) := by
  unfold State.clearChannel
  split
  · exact hs
  · split
    · rename_i hc
      exact h.release s _ hc hs
    · exact hs

theorem clearChannelsItem (hs : P s) (p : Port) (m : SlotId) (l : List Byte) : P (s.clearChannelsItem p m l) :=
  of_ite (fun _ => h.answerStatus hs p _) (of_ite
    (fun _ => h.answerStatus (ClaimInvariant.foldl hs fun _ b ht => h.clearChannel ht b) p _) (h.answerStatus hs p _))

theorem clearEventsItem (hs : P s) (p : Port) (m : SlotId) (low high : Byte) : P (s.clearEventsItem p m low high) :=
  of_ite (fun _ => h.answerStatus (h.setSlot hs m _) p _) (h.answerStatus hs p _)

theorem resetItem (hs : P s) (p : Port) (m : SlotId) : P (s.resetItem p m) :=
  of_ite (fun _ => h.answerStatus hs p _) (of_ite (fun _ => h.answerStatus hs p _)
    (h.answer (h.setPort ((State.setPower_keep P h.power ..).mpr hs) p _) p _ _))

theorem configLength (hs : P s) (p : Port) (m : SlotId) : P (s.configLength p m) := by
  unfold State.configLength
  split <;> exact h.answerStatus hs p _

theorem rowlessItem (hs : P s) (p : Port) (f : Frame) (i : Item) : P (s.rowlessItem p f i) := by
  unfold State.rowlessItem
  split
  · exact of_ite (fun _ => h.answerStatus hs p _) (h.answer hs p _ _)
  · split <;> exact h.answerStatus hs p _
  · exact h.answerStatus hs p _
  · exact hs

omit h in
/-- A CONFIG item is executed with filtered IGN inactive only (R185). -/
theorem ign_of_configTest {m : SlotId} (ht : s.configTest m = none) : s.filtered .ign = false := by
  by_contra hi
  unfold State.configTest at ht
  split at ht
  · cases ht
  · rw [if_pos (by simpa using hi)] at ht
    cases ht

theorem configItem {α : Type} {apply : State → α → State} {m : SlotId} {v : Verdict α}
    (ha : ∀ (r : α) (b : Bool), s.filtered .ign = false → v = .accepted r b → P (apply s r)) (hs : P s) (p : Port)
    (record : α → ConfigRecord) (skip : α → Option Status) : P (s.configItem p m v apply record skip) := by
  unfold State.configItem
  split
  · exact h.answerStatus hs p _
  · rename_i ht
    cases v with
    | refused st => exact h.answerStatus hs p _
    | accepted r b =>
      exact h.answer ((State.setStoreWrite_keep P h.storeWrite ..).mpr (ha r b (ign_of_configTest ht) rfl)) p _ _

/-! ### Records applied -/

omit h in
theorem settleSupply_ign (s : State) : s.settleSupply.filtered .ign = s.filtered .ign :=
  s.settleSupply_keep (fun t => t.filtered .ign) (fun _ _ => rfl) (fun _ _ => rfl) (fun _ _ => rfl) (fun _ _ => rfl)
    (fun _ _ => rfl) (fun _ _ => rfl) (fun _ _ => rfl) (fun _ _ => rfl) (fun _ _ => rfl) (fun _ _ => rfl)
    (fun _ _ => rfl)

theorem changeClass (hi : s.filtered .ign = false) (hs : P s) (cls : VClass) : P (s.changeClass cls) :=
  of_ite (fun _ => hs) (h.applySupply
    (h.retarget _ cls ((settleSupply_ign s).trans hi) (h.settleSupply hs)) _)

theorem applyUnit (hi : s.filtered .ign = false) (hs : P s) (p : Port) (answered : Bool) (r : UnitRec) :
    P (s.applyUnit p answered r) := by
  unfold State.applyUnit
  extract_lets old t _ u
  have hu : P u := h.cfg t _ rfl rfl rfl rfl (h.changeClass hi hs _)
  exact of_ite (fun _ => h.setPort hu p _) (h.applyRates hu)

theorem applyInputs (hs : P s) (r : PerInput InputRec) : P (s.applyInputs r) :=
  ClaimInvariant.foldl (h.cfg _ _ (by rfl) (by rfl) (by rfl) (by rfl) (h.settleInputsOf hs allInputs)) fun t i ht =>
    h.input t i _ (fun hi => by rw [hi]) ht

theorem applySlot (hs : P s) (x : SlotId × SlotRec) : P (s.applySlot x) := by
  have hu : P (s.setRecord x) :=
    h.setSlot (h.cfg s { s.cfg with slots := s.cfg.slots.set x.1 x.2 } rfl rfl rfl rfl hs) x.1 _
  cases hm : s.slotMoves x.1 x.2
  · by_cases hf : s.slotFalls x
    · rw [State.applySlot_falls hm hf]
      exact h.fallSilent hu x.1 false
    · rwa [State.applySlot_stays hm hf]
  · rw [State.applySlot_moves hm]
    exact h.forgetSlot hu x.1

theorem applyFunction (hs : P s) (x : Fn × FunctionRec) : P (s.applyFunction x) :=
  h.reevaluate _ x.1 (ClaimInvariant.foldl (h.cfg s _ (by rfl) (by rfl) (by rfl) (by rfl) hs) fun _ _ ht =>
    (State.setCell_keep P h.claims ..).mpr ht)

theorem newSupply (hs : P s) (r : SupplyRec) : P (s.newSupply r) := h.applySupply (h.settleSupply hs) r

/-! ### Commands -/

theorem execFlashStart (hs : P s) : Reached P (execFlashStart s) :=
  reached_next (of_ite (fun hd => h.enterOn s _ (flashActive_of_startDue hd) hs)
    (of_ite (fun hd => h.enterOn s _ (flashActive_of_startEarly hd) hs) hs))

theorem execOnPhaseEntry (hs : P s) : Reached P (execOnPhaseEntry s) :=
  reached_next (of_ite (fun hd => h.enterOn s _ (flashActive_of_onDue (.inl hd)) hs)
    (of_ite (fun hd => h.enterOn s _ (flashActive_of_onDue (.inr hd)) hs) hs))

theorem execOffPhaseEntry (hs : P s) : Reached P (execOffPhaseEntry s) := by
  refine reached_next ?_
  split
  · rename_i hd
    exact h.enterOff s _ _ (onPhase_of_offDue (.inl hd)) hs
  · split
    · rename_i hd
      exact h.enterOff s _ _ (onPhase_of_offDue (.inr hd)) hs
    · exact hs

theorem execTickEnd (hs : P s) : Reached P (execTickEnd s) := by
  refine reached_next ?_
  split
  · exact of_ite (fun _ => h.flash s _ rfl hs) hs
  · exact hs

theorem execToneHalfPeriod (hs : P s) : Reached P (execToneHalfPeriod s) := by
  refine reached_next ?_
  split
  · exact of_ite (fun _ => h.flash s _ rfl hs) hs
  · exact hs

theorem consume (hs : P s) (r : Request) (v : Nat) : P (s.consume r v) := by
  unfold State.consume
  split
  · exact h.busSample hs v
  · exact h.fanSample (h.openLoad hs _ v) _ v
  · exact ClaimInvariant.foldl hs fun _ g ht => h.gaugeReading ht g v

theorem execConversionDone (hs : P s) (src : Source) (n : Nat) : Reached P (execConversionDone src n s) := by
  refine reached_next ?_
  split
  · exact hs
  · exact of_ite (fun _ => h.consume ((State.serve_keep P h.seq s src _).mpr hs) _ _) hs

theorem execRequestAbandon (hs : P s) (src : Source) : Reached P (execRequestAbandon src s) := by
  refine reached_next ?_
  split
  · exact hs
  · exact of_ite (fun _ => h.abandon hs src) hs

omit h in
theorem drives_of_overcurrent {c : Channel} {n : Nat} (hd : s.overcurrent c n = true) :
    (s.chan c).st.drives = true := by
  unfold State.overcurrent State.threshold? at hd
  cases hst : (s.chan c).st <;> simp_all [ChState.drives]

theorem execFilteredLevelChange (hs : P s) (i : InputId) : Reached P (execFilteredLevelChange i s) := by
  refine reached_next ?_
  split
  · exact h.setLevel hs i _ _
  · split
    · exact h.setLevel hs i _ _
    · exact hs

theorem execFrameReceived (hs : P s) (p : Port) (octets : List Byte) : Reached P (execFrameReceived p octets s) := by
  unfold Machine.execFrameReceived
  split
  · exact fun t ht => nomatch ht
  · exact reached_next (of_ite (fun _ => h.lineActive (h.judge hs p _) p) hs)

theorem execFramingFault (hs : P s) (p : Port) (k : FramingFault) : Reached P (execFramingFault p k s) := by
  refine reached_next (of_ite (fun _ => ?_) hs)
  split
  · exact h.lineActive (h.hunt hs p 0) p
  · exact hs
  · exact of_ite (fun _ => h.lineActive (h.hunt hs p 0) p) hs
  · exact hs

theorem execFrameExecute (hs : P s) (p : Port) : Reached P (execFrameExecute p s) := by
  refine reached_next ?_
  split
  · exact h.rowlessItem hs p _ _
  · split
    · split
      · exact of_ite (fun _ => h.beginFrame hs p _) hs
      · exact hs
    · exact hs

theorem execFrameError (hs : P s) (p : Port) : Reached P (execFrameError p s) := by
  refine reached_next ?_
  split
  · exact of_ite (fun _ => h.finishFrame (h.setPort hs p _) p) hs
  · exact hs

theorem execClaim (hs : P s) (p : Port) : Reached P (execClaim p s) := by
  refine reached_next ?_
  split
  · exact of_ite (fun _ => h.answerStatus (h.claimPairs hs _ _) p _) (h.answerStatus hs p _)
  · exact hs

theorem execClaimAll (hs : P s) (p : Port) : Reached P (execClaimAll p s) := by
  refine reached_next ?_
  split
  · exact of_ite (fun _ => h.answerStatus (h.claimColumn hs _ _) p _) (h.answerStatus hs p _)
  · exact hs

/-- Every CONFIG command applies a record that its checks have accepted, with filtered IGN inactive. -/
theorem execConfig (hs : P s) (k : ConfigKind) (p : Port) : Reached P (exec (configCommand k p) s) := by
  cases k with
  | unit =>
    refine reached_next ?_
    split
    · exact h.configItem (fun r _ hi _ => h.applyUnit hi hs p _ r) hs p _ _
    · exact h.configLength hs p _
    · exact hs
  | inputs =>
    refine reached_next ?_
    split
    · exact of_ite (fun _ => hs) (h.configItem (fun r _ _ _ => h.applyInputs hs r) hs p _ _)
    · exact h.configLength hs p _
    · exact hs
  | slot =>
    refine reached_next ?_
    split
    · exact h.configItem (fun x _ _ _ => h.applySlot hs x) hs p _ _
    · exact h.configLength hs p _
    · exact hs
  | function =>
    refine reached_next ?_
    split
    · exact h.configItem (fun x _ _ _ => h.applyFunction hs x) hs p _ _
    · exact h.configLength hs p _
    · exact hs
  | channel =>
    refine reached_next ?_
    split
    · exact h.configItem (fun x b _ hv => h.newChannel s _ x b hv hs) hs p _ _
    · exact h.configLength hs p _
    · exact hs
  | map =>
    refine reached_next ?_
    split
    · exact h.configItem (fun x b _ hv => h.newMap s _ x b hv hs) hs p _ _
    · exact h.configLength hs p _
    · exact hs
  | gauge =>
    refine reached_next ?_
    split
    · exact h.configItem (fun x b hi hv => h.newGauge s _ x b hi hv hs) hs p _ _
    · exact h.configLength hs p _
    · exact hs
  | flasher =>
    refine reached_next ?_
    split
    · exact h.configItem (fun r _ _ _ => h.cfg s { s.cfg with flasher := r } rfl rfl rfl rfl hs) hs p _ _
    · exact h.configLength hs p _
    · exact hs
  | supply =>
    refine reached_next ?_
    split
    · exact h.configItem (fun r _ _ _ => h.newSupply hs r) hs p _ _
    · exact h.configLength hs p _
    · exact hs
  | fan =>
    refine reached_next ?_
    split
    · exact h.configItem (fun r b _ hv => h.newFan s _ r b hv hs) hs p _ _
    · exact h.configLength hs p _
    · exact hs

theorem execStoreWriteDone (hs : P s) : Reached P (execStoreWriteDone s) := by
  refine reached_next ?_
  split
  · exact hs
  · rwa [State.setStoreWrite_keep P h.storeWrite, State.setStore_keep P h.store]

theorem execClear (hs : P s) (p : Port) :
    Reached P (execClearChannels p s) ∧ Reached P (execClearEvents p s) ∧ Reached P (execReset p s) := by
  refine ⟨reached_next ?_, reached_next ?_, reached_next ?_⟩ <;> split
  · exact h.clearChannelsItem hs p _ _
  · exact hs
  · exact h.clearEventsItem hs p _ _ _
  · exact hs
  · exact h.resetItem hs p _
  · exact hs

theorem execReplyStart (hs : P s) (p : Port) (d : Nat) : Reached P (execReplyStart p d s) := by
  refine reached_next ?_
  split
  · exact of_ite (fun _ => h.setPort hs p _) hs
  · exact hs
  · exact hs

theorem execReplySent (hs : P s) (p : Port) : Reached P (execReplySent p s) := by
  refine reached_next ?_
  have ht : P ((s.leaveQueue p).hunt p 0) := h.hunt (h.leaveQueue hs p) p 0
  split
  · exact of_ite (fun _ => h.afterFrame (of_ite (fun _ => h.setPort ht p _) ht) _ _) hs
  · exact hs
  · exact hs

theorem execReplyAbandon (hs : P s) (p : Port) (k : AbandonCause) : Reached P (execReplyAbandon p k s) := by
  refine reached_next (of_ite (fun _ => ?_) hs)
  split
  · exact h.lineActive hs p
  · exact of_ite (fun _ => hs) (h.abandonReply hs p _)
  · exact hs

theorem execSync (hs : P s) (p : Port) (octet : Byte) (idle : Nat) : Reached P (execSync p octet idle s) := by
  refine reached_next (of_ite (fun _ => of_ite (fun _ => h.lineActive hs p) ?_) hs)
  split
  · exact hs
  · exact of_ite (fun _ => h.setPort hs p _) (h.hunt hs p 0)
  · exact of_ite (fun _ => h.setPort hs p _) (h.hunt hs p 0)

theorem execFaultHoldExpiry (hs : P s) (g : GaugeId) : Reached P (execFaultHoldExpiry g s) := by
  refine reached_next (of_ite (fun hd => h.gaugeRest s g ?_ hs) hs)
  simp only [State.faultExpiryDue, State.faultExpiryEarly, Bool.or_eq_true, Bool.and_eq_true, beq_iff_eq] at hd
  rcases hd with hd | hd
  · simp [hd.1.2]
  · simp [hd.1.2]

/-- The property holds in the next state of every command. -/
theorem exec_reached (hs : P s) (c : Instr) : Reached P (exec c s) := by
  cases c with
  | powerOn => exact reached_next (h.begin s _)
  | brownOutRestart => exact reached_next (of_ite (fun _ => h.begin s _) hs)
  | startingComplete => exact reached_next (of_ite (fun _ => h.startingDone hs) hs)
  | drivePeriodStart lines =>
    exact reached_next (of_ite (fun _ => of_ite (fun _ => h.startPeriod (h.settle hs) lines) hs) (h.settle hs))
  | inrushExpiry c => exact reached_next (of_ite (fun hd => h.inrushExpire s c (inrush_of_due hd) hs) hs)
  | runCountReached c => exact reached_next (of_ite (fun _ => h.runCountReach hs c) hs)
  | overcurrentTrip c n => exact reached_next (of_ite (fun hd => h.trip s c _ (drives_of_overcurrent hd.2) hs) hs)
  | coolOffExpiry c => exact reached_next (of_ite (fun hd => h.coolOffExpire s c (cooling_of_due hd) hs) hs)
  | bulbOutSet c => exact reached_next (of_ite (fun _ => h.bulbSet hs c) hs)
  | bulbOutClear c => exact reached_next (of_ite (fun _ => h.bulbClear hs c) hs)
  | flashStart => exact h.execFlashStart hs
  | offPhaseEntry => exact h.execOffPhaseEntry hs
  | onPhaseEntry => exact h.execOnPhaseEntry hs
  | tickEnd => exact h.execTickEnd hs
  | conversionDone src quantity => exact h.execConversionDone hs src quantity
  | requestAbandon src => exact h.execRequestAbandon hs src
  | crankEntry => exact reached_next (of_ite (h.of_crankEntryDue hs) hs)
  | crankExit => exact reached_next (of_ite (h.of_crankExitDue hs) hs)
  | shedRise => exact reached_next (of_ite (fun hd => h.shed s _ (normal_of_shedDue (.inl hd)) hs) hs)
  | shedFall => exact reached_next (of_ite (fun hd => h.shed s _ (normal_of_shedDue (.inr hd)) hs) hs)
  | stallReport => exact reached_next (of_ite (fun _ => h.stallReport hs) hs)
  | faultHoldEntry g => exact reached_next (of_ite (fun hd => h.gaugeFault s g (faultEntryDue_on hd) hs) hs)
  | faultHoldExpiry g => exact h.execFaultHoldExpiry hs g
  | gaugeRecovery g => exact reached_next (of_ite (fun hd => h.gaugeRecover s g (recoveryDue_on hd) hs) hs)
  | inputSeed i => exact reached_next (of_ite (fun _ => h.setLevel hs i _ _) (of_ite (fun _ => h.setLevel hs i _ _) hs))
  | filteredLevelChange i => exact h.execFilteredLevelChange hs i
  | silenceExpiry m =>
    exact reached_next (of_ite (fun _ => h.fallSilent hs m _) (of_ite (fun _ => h.fallSilent hs m _) hs))
  | holdExpiry m f => exact reached_next (of_ite (fun _ => h.writeCell hs f _ _) hs)
  | frameReceived p octets => exact h.execFrameReceived hs p octets
  | frameAbandonIdle p idle => exact reached_next (of_ite (fun _ => h.lineActive (h.hunt hs p idle) p) hs)
  | framingFault p fault => exact h.execFramingFault hs p fault
  | frameExecute p => exact h.execFrameExecute hs p
  | frameError p => exact h.execFrameError hs p
  | claim p => exact h.execClaim hs p
  | claimAll p => exact h.execClaimAll hs p
  | readChannel p | readTrip p | readFunction p | readSlots p | readGauge p | readSupply p | readFlasher p | readFan p
  | readInputs p | readResetCause p | readConfigurationRecord p => exact reached_next (h.readOf hs p _)
  | configUnit p => exact h.execConfig hs .unit p
  | configInputs p => exact h.execConfig hs .inputs p
  | configSlot p => exact h.execConfig hs .slot p
  | configFunction p => exact h.execConfig hs .function p
  | configChannel p => exact h.execConfig hs .channel p
  | configMap p => exact h.execConfig hs .map p
  | configGauge p => exact h.execConfig hs .gauge p
  | configFlasher p => exact h.execConfig hs .flasher p
  | configSupply p => exact h.execConfig hs .supply p
  | configFan p => exact h.execConfig hs .fan p
  | storeWriteDone => exact h.execStoreWriteDone hs
  | clearChannels p => exact (h.execClear hs p).1
  | clearEvents p => exact (h.execClear hs p).2.1
  | reset p => exact (h.execClear hs p).2.2
  | replyStart p delay => exact h.execReplyStart hs p delay
  | replySent p => exact h.execReplySent hs p
  | replyAbandon p cause => exact h.execReplyAbandon hs p cause
  | dormantEntry => exact reached_next (of_ite (fun _ => h.sleep (h.settleSteps hs)) hs)
  | wake cause =>
    exact reached_next (of_ite (fun _ => of_ite (fun _ => h.wakeUp (h.rawEvent hs cause)) (h.rawEvent hs cause)) hs)
  | sync p octet idle => exact h.execSync hs p octet idle
  | driveStep x =>
    refine reached_next (of_ite (fun _ => of_ite (fun _ => ?_) hs) (h.settle hs))
    exact (State.beginStep_keep P h.clock h.gates h.seq _ _ _).mpr (h.settle hs)
  | toneHalfPeriod => exact h.execToneHalfPeriod hs

/-- The property is kept by every step. -/
theorem step {t : State} (ht : step s = .next t) (hs : P s) : P t := by
  unfold Machine.step at ht
  split at ht
  · cases ht
    exact hs
  · rename_i rest _
    exact h.exec_reached ((h.pending s rest).mpr hs) _ t ht

end DriveInvariant
end Sys2Proof.Machine
end

section
/-! SUPPORT. What the gauge unit leaves: it reaches the GAUGE channels alone, and of the other blocks the events
(R142 to R152). -/

namespace Sys2Proof.Machine
open Sys2Proof

/-- The bindings and the map meet their rules (R27, R139). -/
structure State.Wired (s : State) : Prop where
  bound : s.BoundAreGauges
  map : s.MapChecked

/-- The fields that the gauge unit leaves and that demands are made from, or their take-up. -/
def State.gaugeFrame (s : State) :
    Working × Vector Nat 15 × PerInput Input × Flash × Supervisor × List (Channel × Urgency) :=
  (s.cfg, s.results, s.inputs, s.flash, s.sup, s.queue)

/-- `t` is `s` after actions of the gauge unit. -/
structure State.GaugeMoves (s t : State) : Prop where
  frame : t.gaugeFrame = s.gaugeFrame
  rest : s.Wired → t.fan = s.fan ∧ ∀ c : Channel,
    ((s.chRec c).kind ≠ .gauge → t.chan c = s.chan c) ∧ ((s.chan c).st = .waiting → (t.chan c).st = .waiting)

theorem State.Wired.congr {s t : State} (h : t.cfg = s.cfg) (hs : s.Wired) : t.Wired := by
  obtain ⟨hb, hm⟩ := hs
  unfold State.BoundAreGauges State.gaugeRec State.chRec at hb
  unfold State.MapChecked State.entries State.chRec at hm
  constructor
  · unfold State.BoundAreGauges State.gaugeRec State.chRec
    rwa [h]
  · unfold State.MapChecked State.entries State.chRec
    rwa [h]

/-- A GAUGE channel is not the fan channel. -/
theorem State.Wired.gauge_notFan {s : State} (h : s.Wired) {c : Channel} (hk : (s.chRec c).kind = .gauge) :
    s.isFan c = false := by
  refine State.isFan_false_iff.mpr fun hc => ?_
  rw [h.map.fan_motor hc] at hk
  cases hk

namespace State.GaugeMoves

variable {s t u : State}

theorem cfg (h : s.GaugeMoves t) : t.cfg = s.cfg := congrArg Prod.fst h.frame
theorem results (h : s.GaugeMoves t) : t.results = s.results := congrArg (·.2.1) h.frame
theorem inputs (h : s.GaugeMoves t) : t.inputs = s.inputs := congrArg (·.2.2.1) h.frame
theorem flash (h : s.GaugeMoves t) : t.flash = s.flash := congrArg (·.2.2.2.1) h.frame
theorem sup (h : s.GaugeMoves t) : t.sup = s.sup := congrArg (·.2.2.2.2.1) h.frame
theorem queue (h : s.GaugeMoves t) : t.queue = s.queue := congrArg (·.2.2.2.2.2) h.frame

theorem of_eq (hf : t.gaugeFrame = s.gaugeFrame) (hfan : t.fan = s.fan) (hc : t.chans = s.chans) : s.GaugeMoves t := by
  have hchan (c : Channel) : t.chan c = s.chan c := by
    unfold State.chan
    rw [hc]
  exact ⟨hf, fun _ => ⟨hfan, fun c => ⟨fun _ => hchan c, fun h => by rwa [hchan]⟩⟩⟩

theorem refl (s : State) : s.GaugeMoves s := of_eq rfl rfl rfl

theorem trans (h : s.GaugeMoves t) (k : t.GaugeMoves u) : s.GaugeMoves u := by
  refine ⟨k.frame.trans h.frame, fun hw => ?_⟩
  obtain ⟨hfan, hchan⟩ := h.rest hw
  obtain ⟨kfan, kchan⟩ := k.rest (hw.congr h.cfg)
  refine ⟨kfan.trans hfan, fun c => ⟨fun hk => ?_, fun hst => (kchan c).2 ((hchan c).2 hst)⟩⟩
  rw [(kchan c).1 (by rwa [State.chRec_congr h.cfg]), (hchan c).1 hk]

/-- The last action first. -/
theorem after (k : t.GaugeMoves u) (h : s.GaugeMoves t) : s.GaugeMoves u := h.trans k

theorem ite {p : Prop} [Decidable p] (ht : p → s.GaugeMoves t) (hu : ¬ p → s.GaugeMoves u) :
    s.GaugeMoves (if p then t else u) := by
  split
  · exact ht ‹_›
  · exact hu ‹_›

theorem foldl {α : Type} {f : State → α → State} (hf : ∀ (v : State) (a : α), v.GaugeMoves (f v a)) (l : List α) :
    s.GaugeMoves (l.foldl f s) :=
  List.foldlRecOn l f (refl s) fun v hv a _ => hv.trans (hf v a)

theorem setGauge (s : State) (g : GaugeId) (v : GaugeSlot) : s.GaugeMoves (s.setGauge g v) := of_eq rfl rfl rfl

theorem raise (s : State) (k : EventKind) : s.GaugeMoves (s.raise k) :=
  of_eq (s.raise_keep State.gaugeFrame (fun _ _ => rfl) k) (by simp) (by simp)

/-- A GAUGE channel's record moves. -/
theorem modChan (s : State) (c : Channel) {f : Chan → Chan} (hst : (s.chan c).st = .waiting → (f (s.chan c)).st = .waiting)
    (hc : s.Wired → (s.chRec c).kind = .gauge) : s.GaugeMoves (s.modChan c f) := by
  refine ⟨rfl, fun hw => ⟨rfl, fun d => ?_⟩⟩
  rw [State.chan_modChan]
  by_cases hd : c = d
  · obtain rfl := hd
    rw [if_pos rfl]
    exact ⟨fun hk => absurd (hc hw) hk, hst⟩
  · rw [if_neg hd]
    exact ⟨fun _ => rfl, id⟩

theorem releaseIfDue (s : State) (c : Channel) (hc : s.Wired → (s.chRec c).kind = .gauge) :
    s.GaugeMoves (s.releaseIfDue c) := by
  refine ite (fun hl => ?_) fun _ => refl s
  have hm : s.GaugeMoves (s.modChan c fun ch => { ch with st := .off, trips := 0 }) :=
    modChan s c (fun hwait => absurd (hl.1.symm.trans hwait) (by decide)) hc
  have hkeep : ((s.modChan c fun ch => { ch with st := .off, trips := 0 }).ifFan c State.fanSawRelease).gaugeFrame =
      s.gaugeFrame :=
    State.ifFan_keep State.gaugeFrame _ c _ fun t =>
      t.fanSawRelease_keep State.gaugeFrame (fun _ _ => rfl) (fun _ _ => rfl)
  refine ⟨hkeep, fun hw => ?_⟩
  unfold State.release
  rw [State.ifFan_notFan ((State.isFan_congr hm.cfg c).trans (hw.gauge_notFan (hc hw)))]
  exact hm.rest hw

/-- A demand written on a GAUGE channel, with the marks clear. -/
theorem writeGauge (s : State) (c : Channel) (d : Nat) (hc : s.Wired → (s.chRec c).kind = .gauge) :
    s.GaugeMoves (((s.writeDemand c d .steady).modChan c fun ch =>
      { ch with stop := false, present := false }).releaseIfDue c) := by
  have ht : s.GaugeMoves (s.writeDemand c d .steady) := modChan s c id hc
  generalize s.writeDemand c d .steady = t at ht ⊢
  have kc {u : State} (h : s.GaugeMoves u) (hw : u.Wired) : (u.chRec c).kind = .gauge := by
    rw [State.chRec_congr h.cfg]
    exact hc (hw.congr h.cfg.symm)
  have hu : s.GaugeMoves (t.modChan c fun ch => { ch with stop := false, present := false }) :=
    (modChan t c id (kc ht)).after ht
  exact (releaseIfDue _ c (kc hu)).after hu

theorem gaugeWrite (s : State) (g : GaugeId) (d : Nat) : s.GaugeMoves (s.gaugeWrite g d) := by
  unfold State.gaugeWrite
  dsimp only
  split
  · exact setGauge s g _
  · rename_i c hb
    exact (writeGauge (s.setGauge g { s.gauge g with duty := d }) c d fun hw => hw.bound g c hb).after (setGauge s g _)

theorem gaugeRecompute (s : State) (g : GaugeId) : s.GaugeMoves (s.gaugeRecompute g) := by
  unfold State.gaugeRecompute
  split
  · refine ite (fun _ => ?_) fun _ => refl s
    have ht (vt d : Nat) (b : Bool) :=
      (gaugeWrite _ g d).after (setGauge s g { s.gauge g with vt := some vt, under := b })
    exact ite (fun _ => ht _ _ _) fun _ => (raise _ _).after (ht _ _ _)
  · exact refl s

theorem gaugesRecompute (s : State) : s.GaugeMoves s.gaugesRecompute := foldl gaugeRecompute _

theorem gaugeRest (s : State) (g : GaugeId) : s.GaugeMoves (s.gaugeRest g) :=
  (raise _ _).after ((gaugeWrite _ g _).after (setGauge s g _))

theorem gaugeFault (s : State) (g : GaugeId) : s.GaugeMoves (s.gaugeFault g) :=
  ite (fun _ => (gaugeRest _ g).after ((raise _ _).after (setGauge s g _))) fun _ => (raise _ _).after (setGauge s g _)

theorem gaugeRecover (s : State) (g : GaugeId) : s.GaugeMoves (s.gaugeRecover g) :=
  (raise _ _).after ((gaugeRecompute _ g).after (setGauge s g _))

theorem gaugeFinishReading (s : State) (g : GaugeId) : s.GaugeMoves (s.gaugeFinishReading g) :=
  ite (fun _ => gaugeFault s g) fun _ => ite (fun _ => gaugeRecover s g) fun _ => refl s

theorem countFaultHold (s : State) (g : GaugeId) : s.GaugeMoves (s.countFaultHold g) := setGauge s g _

theorem gaugeEnter (s : State) (g : GaugeId) (v : Nat) : s.GaugeMoves (s.gaugeEnter g v) :=
  (gaugeRecompute _ g).after (setGauge s g _)

theorem gaugeStart (s : State) (g : GaugeId) : s.GaugeMoves (s.gaugeStart g) :=
  ite (fun _ => ite (fun _ => setGauge s g _) fun _ => (gaugeRecompute _ g).after (setGauge s g _)) fun _ => refl s

theorem gaugeStop (s : State) (g : GaugeId) : s.GaugeMoves (s.gaugeStop g) := by
  have ht := gaugeFinishReading s g
  have hu := (gaugeWrite _ g 0).after ((setGauge _ g { GaugeSlot.reset with
    duty := ((s.gaugeFinishReading g).gauge g).duty }).after ht)
  exact ite (fun _ => ht) fun _ => ite (fun _ => (raise _ _).after hu) fun _ => hu

theorem gaugesIgnition (s : State) (b : Bool) : s.GaugeMoves (s.gaugesIgnition b) :=
  foldl (fun v g => ite (fun _ => gaugeStart v g) fun _ => gaugeStop v g) _

theorem gaugeHold (s : State) (g : GaugeId) : s.GaugeMoves (s.gaugeHold g) :=
  ite (fun _ => setGauge s g _) fun _ => refl s

theorem gaugeRelease (s : State) (g : GaugeId) : s.GaugeMoves (s.gaugeRelease g) :=
  ite (fun _ => (gaugeRecompute _ g).after (setGauge s g _)) fun _ => refl s

end State.GaugeMoves
end Sys2Proof.Machine
end

section
/-! SUPPORT. The composer's sources: what the demands of the composed channels, T and the generator's test are made from,
and the actions that leave them. -/

namespace Sys2Proof.Machine
open Sys2Proof

/-- `t` has the composer's sources of `s`: the records, the bindings and the results it reads, the flash state, the shed
level, T, and what is written of every composed channel. -/
structure State.ComposerKeeps (s t : State) : Prop where
  channels : t.cfg.channels = s.cfg.channels
  map : t.cfg.map = s.cfg.map
  fanRec : t.cfg.fan = s.cfg.fan
  bound : ∀ g : GaugeId, (t.gaugeRec g).bound = (s.gaugeRec g).bound
  results : t.results = s.results
  phase : t.onPhase = s.onPhase ∧ t.flashActive = s.flashActive
  shed : t.sup.shed = s.sup.shed
  aim : t.fan.aim = s.fan.aim
  written : ∀ c : Channel, s.composes c = true → (t.chan c).written = (s.chan c).written

theorem State.composes_congr' {s t : State} (hc : t.cfg.channels = s.cfg.channels) (hm : t.cfg.map = s.cfg.map)
    (c : Channel) : t.composes c = s.composes c := by
  unfold State.composes State.chRec State.isFan State.fanChannel State.entries
  rw [hc, hm]

theorem State.Wired.congr' {s t : State} (hc : t.cfg.channels = s.cfg.channels) (hm : t.cfg.map = s.cfg.map)
    (hb : ∀ g : GaugeId, (t.gaugeRec g).bound = (s.gaugeRec g).bound) (hs : s.Wired) : t.Wired := by
  obtain ⟨hbound, hmap⟩ := hs
  unfold State.BoundAreGauges State.chRec at hbound
  unfold State.MapChecked State.entries State.chRec at hmap
  constructor
  · unfold State.BoundAreGauges State.chRec
    rw [hc]
    exact fun g c h => hbound g c ((hb g).symm.trans h)
  · unfold State.MapChecked State.entries State.chRec
    rwa [hc, hm]

theorem State.onPhase_congr {s t : State} (h : t.flash.phase = s.flash.phase) :
    t.onPhase = s.onPhase ∧ t.flashActive = s.flashActive := by
  unfold State.onPhase State.flashActive
  rw [h]
  exact ⟨rfl, rfl⟩

namespace State.ComposerKeeps

variable {s t : State}

theorem of_output (h : s.OutputMoves t) : s.ComposerKeeps t where
  channels := by rw [h.cfg]
  map := by rw [h.cfg]
  fanRec := by rw [h.cfg]
  bound g := by
    unfold State.gaugeRec
    rw [h.cfg]
  results := h.results
  phase := State.onPhase_congr (by rw [h.flash])
  shed := by rw [h.sup]
  aim := h.aim
  written c hc := h.written c (State.composes_notFan hc)

theorem of_gauge (hw : s.Wired) (h : s.GaugeMoves t) : s.ComposerKeeps t where
  channels := by rw [h.cfg]
  map := by rw [h.cfg]
  fanRec := by rw [h.cfg]
  bound g := by
    unfold State.gaugeRec
    rw [h.cfg]
  results := h.results
  phase := State.onPhase_congr (by rw [h.flash])
  shed := by rw [h.sup]
  aim := by rw [(h.rest hw).1]
  written c hc := by
    refine congrArg Chan.written (((h.rest hw).2 c).1 fun hk => ?_)
    simp [State.composes, hk] at hc

/-- Fields that the composer does not read. -/
theorem of_eq (hcfg : t.cfg = s.cfg) (hres : t.results = s.results) (hflash : t.flash.phase = s.flash.phase)
    (hshed : t.sup.shed = s.sup.shed) (hfan : t.fan.aim = s.fan.aim) (hchan : t.chans = s.chans) : s.ComposerKeeps t where
  channels := by rw [hcfg]
  map := by rw [hcfg]
  fanRec := by rw [hcfg]
  bound g := by
    unfold State.gaugeRec
    rw [hcfg]
  results := hres
  phase := State.onPhase_congr hflash
  shed := hshed
  aim := hfan
  written c _ := by
    unfold State.chan
    rw [hchan]

theorem wired (h : s.ComposerKeeps t) (hw : s.Wired) : t.Wired := hw.congr' h.channels h.map h.bound

/-- Either state has the other's. -/
theorem symm (h : s.ComposerKeeps t) : t.ComposerKeeps s where
  channels := h.channels.symm
  map := h.map.symm
  fanRec := h.fanRec.symm
  bound g := (h.bound g).symm
  results := h.results.symm
  phase := ⟨h.phase.1.symm, h.phase.2.symm⟩
  shed := h.shed.symm
  aim := h.aim.symm
  written c hc := (h.written c ((State.composes_congr' h.channels h.map c).symm.trans hc)).symm

end State.ComposerKeeps

/-- A drive period start counts within the flash state, and moves none but IDLE's marks (R92). -/
theorem Flash.counted_phase (x : Flash) (skip : Bool) :
    match x.phase with
    | .idle p _ => ∃ came, (x.counted skip).phase = .idle p came
    | .onPhase _ => ∃ cy, (x.counted skip).phase = .onPhase cy
    | .offPhase _ => ∃ cy, (x.counted skip).phase = .offPhase cy := by
  unfold Flash.counted
  cases hp : x.phase with
  | idle p came => exact ⟨_, rfl⟩
  | onPhase cy =>
    dsimp only
    split
    · exact ⟨_, rfl⟩
    · split
      · exact ⟨_, rfl⟩
      · exact ⟨_, rfl⟩
  | offPhase cy =>
    dsimp only
    split
    · exact ⟨_, rfl⟩
    · split
      · exact ⟨_, rfl⟩
      · exact ⟨_, rfl⟩

theorem State.countFlash_phase (s : State) :
    s.countFlash.onPhase = s.onPhase ∧ s.countFlash.flashActive = s.flashActive := by
  have hcount := s.flash.counted_phase (s.flash.uncounted || s.power.wakeStart)
  unfold State.onPhase State.flashActive
  rw [show s.countFlash.flash = s.flash.counted _ from rfl]
  cases hp : s.flash.phase with
  | idle p came =>
    rw [hp] at hcount
    obtain ⟨_, hc⟩ := hcount
    simp [hc]
  | onPhase cy =>
    rw [hp] at hcount
    obtain ⟨_, hc⟩ := hcount
    simp [hc]
  | offPhase cy =>
    rw [hp] at hcount
    obtain ⟨_, hc⟩ := hcount
    simp [hc]

end Sys2Proof.Machine
end

section
/-! SUPPORT. The rules of the map and of the bindings (R27, R44, R139): the checks keep them and the load meets them
(R186). -/

namespace Sys2Proof.Machine
open Sys2Proof

/-- A map over channel records that meets R27. -/
structure Working.MapMeets (cfg : Working) : Prop where
  driven : ∀ (i : Fin 32) (e : MapEntry), cfg.map[i] = some e →
    cfg.channels[e.chan].kind = .lamp ∨ cfg.channels[e.chan].kind = .motor
  motor : ∀ (i : Fin 32) (e : MapEntry), cfg.map[i] = some e → e.fn = .fan → cfg.channels[e.chan].kind = .motor
  apart : ∀ (i j : Fin 32) (e x : MapEntry), cfg.map[i] = some e → cfg.map[j] = some x → e.fn = .fan →
    (x.fn = .fan ∨ x.chan = e.chan) → i = j

/-- Bindings that meet R139: to GAUGE channels, an enabled slot bound, and no two slots to one channel. -/
structure Working.BindingsMeet (cfg : Working) : Prop where
  gauge : ∀ (g : GaugeId) (c : Channel), (cfg.gauges.get g).bound = some c → cfg.channels[c].kind = .gauge
  enabled : ∀ g : GaugeId, (cfg.gauges.get g).enabled = true → (cfg.gauges.get g).bound ≠ none
  single : ∀ (g h : GaugeId) (c : Channel), (cfg.gauges.get g).bound = some c → (cfg.gauges.get h).bound = some c → g = h

theorem State.mapChecked_iff {s : State} : s.MapChecked ↔ s.cfg.MapMeets := by
  constructor
  · rintro ⟨hdriven, hmotor, hapart⟩
    exact ⟨fun i e he => hdriven e (State.mem_entries.mpr ⟨i, he⟩), fun i e he => hmotor e (State.mem_entries.mpr ⟨i, he⟩),
      hapart⟩
  · rintro ⟨hdriven, hmotor, hapart⟩
    refine ⟨fun e he => ?_, fun e he => ?_, hapart⟩
    · obtain ⟨i, hi⟩ := State.mem_entries.mp he
      exact hdriven i e hi
    · obtain ⟨i, hi⟩ := State.mem_entries.mp he
      exact hmotor i e hi

/-! ### One record replaced -/

/-- An entry goes, or one comes that no check refuses BAD_VALUE. -/
theorem Working.MapMeets.set {cfg : Working} (h : cfg.MapMeets) {i : Fin 32} {v : Option MapEntry}
    (hv : ∀ e : MapEntry, v = some e → ¬ MapEntry.Bad cfg i e) : Working.MapMeets { cfg with map := cfg.map.set i v } := by
  have hget (j : Fin 32) (e : MapEntry) (he : (cfg.map.set i v)[j] = some e) :
      (j = i ∧ v = some e) ∨ (j ≠ i ∧ cfg.map[j] = some e) := by
    by_cases hj : j = i
    · subst hj
      exact .inl ⟨rfl, by simpa using he⟩
    · have hval : i.val ≠ j.val := fun x => hj (Fin.ext x.symm)
      exact .inr ⟨hj, by simpa [hval] using he⟩
  have hgood (e : MapEntry) (he : v = some e) : (cfg.channels[e.chan].kind ≠ .gauge ∧ cfg.channels[e.chan].kind ≠ .none) ∧
      (e.fn = .fan → cfg.channels[e.chan].kind = .motor) ∧ ∀ (j : Fin 32) (o : MapEntry), j ≠ i → cfg.map[j] = some o →
        ¬ (o.fn = .fan ∧ e.fn = .fan) ∧ ¬ (o.chan = e.chan ∧ (e.fn = .fan ∨ o.fn = .fan)) := by
    have hb := hv e he
    unfold MapEntry.Bad at hb
    push Not at hb
    obtain ⟨-, hkind, hmotor, hothers⟩ := hb
    refine ⟨hkind, hmotor, fun j o hj ho => ?_⟩
    obtain ⟨hfan, hchan⟩ := hothers o (Working.mem_otherEntries.mpr ⟨j, hj, ho⟩)
    exact ⟨fun x => hfan x.1 x.2, fun x => (x.2.elim (hchan x.1).1 (hchan x.1).2.1)⟩
  refine ⟨fun j e he => ?_, fun j e he hf => ?_, fun j k e x he hx hf hor => ?_⟩
  · rcases hget j e he with ⟨-, he⟩ | ⟨-, he⟩
    · obtain ⟨⟨hg, hn⟩, -⟩ := hgood e he
      dsimp only
      cases hk : cfg.channels[e.chan].kind <;> simp_all
    · exact h.driven j e he
  · rcases hget j e he with ⟨-, he⟩ | ⟨-, he⟩
    · exact (hgood e he).2.1 hf
    · exact h.motor j e he hf
  · rcases hget j e he with ⟨hj, hje⟩ | ⟨hj, hje⟩ <;> rcases hget k x hx with ⟨hk, hkx⟩ | ⟨hk, hkx⟩
    · exact hj.trans hk.symm
    · have hclash := (hgood e hje).2.2 k x hk hkx
      exact absurd hor fun o => o.elim (fun o => hclash.1 ⟨o, hf⟩) fun o => hclash.2 ⟨o, .inl hf⟩
    · have hclash := (hgood x hkx).2.2 j e hj hje
      exact absurd hor fun o => o.elim (fun o => hclash.1 ⟨hf, o⟩) fun o => hclash.2 ⟨o.symm, .inr hf⟩
    · exact h.apart j k e x hje hkx hf hor

/-- What checks 3 and 4 of R139 leave. -/
theorem gaugeBad_false {cfg : Working} {g : GaugeId} {r : GaugeRec} (h : gaugeBad cfg g r = false) :
    (∀ c : Channel, r.bound = some c → cfg.channels[c].kind = .gauge ∧
      ∀ o : GaugeId, o ≠ g → (cfg.gauges.get o).bound ≠ some c) ∧ (r.enabled = true → r.bound ≠ none) := by
  simp only [gaugeBad, Bool.or_eq_false_iff] at h
  obtain ⟨⟨⟨⟨hbound, -⟩, -⟩, -⟩, -⟩ := h
  cases hb : r.bound with
  | none =>
    rw [hb] at hbound
    exact ⟨fun c hc => (nomatch hc), fun he => (by rw [he] at hbound; cases hbound)⟩
  | some c =>
    rw [hb] at hbound
    simp only [Bool.or_eq_false_iff, bne_eq_false_iff_eq, List.any_eq_false, beq_iff_eq] at hbound
    refine ⟨fun d hd => ?_, fun _ => by simp⟩
    cases hd
    exact ⟨hbound.1, fun o ho => hbound.2 o (by cases g <;> cases o <;> simp_all [gaugesOther])⟩

/-- A GAUGE record comes that no check refuses. -/
theorem Working.BindingsMeet.set {cfg : Working} (h : cfg.BindingsMeet) {g : GaugeId} {r v : GaugeRec}
    (hr : gaugeBad cfg g r = false) (hb : v.bound = r.bound) (he : v.enabled = r.enabled) :
    Working.BindingsMeet { cfg with gauges := cfg.gauges.set g v } := by
  obtain ⟨hkind, henabled⟩ := gaugeBad_false hr
  refine ⟨fun o c hc => ?_, fun o ho => ?_, fun o q c ho hq => ?_⟩ <;> simp only [PerGauge_get_set] at *
  · split at hc
    · exact (hkind c (hb.symm.trans hc)).1
    · exact h.gauge o c hc
  · split at ho
    · rw [if_pos ‹_›, hb]
      exact henabled (he.symm.trans ho)
    · rw [if_neg ‹_›]
      exact h.enabled o ho
  · by_cases hgo : g = o <;> by_cases hgq : g = q
    · exact hgo.symm.trans hgq
    · rw [if_pos hgo, hb] at ho
      rw [if_neg hgq] at hq
      exact absurd hq ((hkind c ho).2 q (Ne.symm hgq))
    · rw [if_neg hgo] at ho
      rw [if_pos hgq, hb] at hq
      exact absurd ho ((hkind c hq).2 o (Ne.symm hgo))
    · rw [if_neg hgo] at ho
      rw [if_neg hgq] at hq
      exact h.single o q c ho hq

/-! ### The load -/

theorem loadOne_accepted {α : Type} {stored : Option α} {conflict : α → Bool} {dflt : α} (hd : conflict dflt = false) :
    conflict (loadOne stored conflict dflt).1 = false := by
  unfold loadOne
  split
  · exact hd
  · split
    · exact hd
    · rename_i hc
      exact Bool.eq_false_iff.mpr hc

theorem Loading.map_meets (st : Store) {l : Loading} (i : Fin 32) (h : l.cfg.MapMeets) : (Loading.map st l i).cfg.MapMeets := by
  classical
  unfold Loading.map
  extract_lets conflict r
  have hr : conflict r.1 = false := loadOne_accepted rfl
  refine h.set fun e he hbad => ?_
  rw [he] at hr
  have hbad' : mapRefusal l.cfg i e = some .badValue := by rw [mapRefusal_eq, if_pos hbad]
  simp only [conflict, hbad'] at hr
  exact absurd hr (by decide)

theorem gaugeBad_default (cfg : Working) (cls : VClass) (g : GaugeId) : gaugeBad cfg g (GaugeRec.default cls g) = false := by
  cases g <;> rfl

theorem Loading.gauge_meets (st : Store) {l : Loading} (g : GaugeId) (h : l.cfg.BindingsMeet) :
    (Loading.gauge st l g).cfg.BindingsMeet := by
  unfold Loading.gauge
  extract_lets cls r v
  have hr : gaugeBad l.cfg g r.1 = false := loadOne_accepted (gaugeBad_default ..)
  refine h.set hr ?_ ?_
  · change (if r.1.tag = cls then r.1 else _).bound = _
    split <;> rfl
  · change (if r.1.tag = cls then r.1 else _).enabled = _
    split <;> rfl

theorem Loading.supply_meets (st : Store) {l : Loading} (h : l.cfg.MapMeets ∧ l.cfg.BindingsMeet) :
    (Loading.supply st l).cfg.MapMeets ∧ (Loading.supply st l).cfg.BindingsMeet :=
  ⟨⟨h.1.driven, h.1.motor, h.1.apart⟩, h.2.gauge, h.2.enabled, h.2.single⟩

/-- The records a load leaves meet R27 and R139. -/
theorem loadStore_meets (st : Store) : (loadStore st).cfg.MapMeets ∧ (loadStore st).cfg.BindingsMeet := by
  have hempty (j : Fin 32) : (Loading.slots st (Loading.plain st)).cfg.map[j] = none := by
    simp [Loading.slots, Loading.plain, Working.default]
  have hunbound (g : GaugeId) : ((Loading.slots st (Loading.plain st)).cfg.gauges.get g).bound = none ∧
      ((Loading.slots st (Loading.plain st)).cfg.gauges.get g).enabled = false := by cases g <;> exact ⟨rfl, rfl⟩
  unfold loadStore
  extract_lets l
  have hl : l.cfg.MapMeets ∧ l.cfg.BindingsMeet := by
    refine List.foldlRecOn (motive := fun l : Loading => l.cfg.MapMeets ∧ l.cfg.BindingsMeet) _ _ ⟨⟨?_, ?_, ?_⟩, ?_, ?_, ?_⟩
      fun l hl i _ => ⟨Loading.map_meets st i hl.1, ⟨hl.2.gauge, hl.2.enabled, hl.2.single⟩⟩
    · intro i e he
      cases (hempty i).symm.trans he
    · intro i e he
      cases (hempty i).symm.trans he
    · intro i j e x he
      cases (hempty i).symm.trans he
    · intro g c hc
      cases (hunbound g).1.symm.trans hc
    · intro g hg
      cases (hunbound g).2.symm.trans hg
    · intro g h c hc
      cases (hunbound g).1.symm.trans hc
  have hm : (allGauges.foldl (Loading.gauge st) l).cfg.MapMeets ∧ (allGauges.foldl (Loading.gauge st) l).cfg.BindingsMeet :=
    List.foldlRecOn (motive := fun l : Loading => l.cfg.MapMeets ∧ l.cfg.BindingsMeet) _ _ hl
      fun l hl g _ => ⟨⟨hl.1.driven, hl.1.motor, hl.1.apart⟩, Loading.gauge_meets st g hl.2⟩
  exact Loading.supply_meets st hm

/-! ### The checks of a CONFIG item -/

theorem State.Wired.withChannelRec {s : State} (h : s.Wired) {w : WChannel} {x : Channel × ChannelRec} {b : Bool}
    (hv : s.checkChannel w = .accepted x b) : (s.withChannelRec x).Wired := by
  obtain ⟨hbreaks, hleaves, -⟩ := State.checkChannel_accepted hv
  have hentry (e : MapEntry) (he : e ∈ s.entries) (hc : e.chan = x.1) :
      ¬ ((x.2.kind = .gauge ∨ x.2.kind = .none) ∧ x.2.kind ≠ (s.chRec x.1).kind) ∧ ¬ (x.2.kind = .lamp ∧ e.fn = .fan) := by
    have hno := mt (kindBreaksMap_iff s.cfg x.1 x.2.kind).mpr (Bool.eq_false_iff.mp hbreaks)
    exact ⟨fun hk => hno ⟨e, he, hc, .inl hk⟩, fun hk => hno ⟨e, he, hc, .inr hk⟩⟩
  refine ⟨fun g c hb => ?_, fun e he => ?_, fun e he hf => ?_, h.map.2.2⟩
  · have hk := h.bound g c hb
    rw [State.withChannelRec_chRec]
    split
    · rename_i hc
      subst hc
      by_contra hne
      exact Bool.eq_false_iff.mp hleaves ((kindLeavesGauge_iff ..).mpr ⟨hk, hne, g, hb⟩)
    · exact hk
  · have hk := h.map.1 e he
    rw [State.withChannelRec_chRec]
    split
    · rename_i hc
      obtain ⟨hkeep, -⟩ := hentry e he hc
      rw [hc] at hk
      cases hx : x.2.kind <;> simp_all
    · exact hk
  · have hk := h.map.2.1 e he hf
    rw [State.withChannelRec_chRec]
    split
    · rename_i hc
      obtain ⟨hkeep, hlamp⟩ := hentry e he hc
      rw [hc] at hk
      cases hx : x.2.kind <;> simp_all
    · exact hk

theorem State.Wired.withEntry {s : State} (h : s.Wired) {w : WMap} {x : Fin 32 × Option MapEntry} {b : Bool}
    (hv : s.checkMap w = .accepted x b) : (s.withEntry x).Wired := by
  classical
  refine ⟨h.bound, State.mapChecked_iff.mpr ((State.mapChecked_iff.mp h.map).set fun e he hbad => ?_)⟩
  have hnone := ((State.checkMap_accepted hv).1 e he).1
  rw [mapRefusal_eq, if_pos hbad] at hnone
  cases hnone

/-- The GAUGE record replaced. -/
def State.withGaugeRec (s : State) (x : GaugeId × GaugeRec) : State :=
  s.setCfg { s.cfg with gauges := s.cfg.gauges.set x.1 x.2 }

theorem State.withGaugeRec_gaugeRec (s : State) (x : GaugeId × GaugeRec) (g : GaugeId) :
    (s.withGaugeRec x).gaugeRec g = if x.1 = g then x.2 else s.gaugeRec g := PerGauge_get_set ..

/-- What an accepted GAUGE record has met. -/
theorem State.checkGauge_accepted {s : State} {w : WGauge} {x : GaugeId × GaugeRec} {b : Bool}
    (h : s.checkGauge w = .accepted x b) : gaugeBad s.cfg x.1 x.2 = false ∧ s.boundBusy x.2.bound = false ∧
      s.boundBusy (s.gaugeRec x.1).bound = false := by
  unfold State.checkGauge at h
  split at h
  · split at h
    · dsimp only at h
      split at h
      · cases h
      · rename_i hbad
        split at h
        · cases h
        · rename_i hbusy
          cases h
          simp only [Bool.or_eq_true, not_or, Bool.not_eq_true] at hbad hbusy
          exact ⟨hbad, hbusy.1, hbusy.2⟩
    · cases h
  · cases h

theorem State.Wired.withGaugeRec {s : State} (h : s.Wired) {w : WGauge} {x : GaugeId × GaugeRec} {b : Bool}
    (hv : s.checkGauge w = .accepted x b) : (s.withGaugeRec x).Wired := by
  refine ⟨fun g c hb => ?_, h.map⟩
  rw [State.withGaugeRec_gaugeRec] at hb
  split at hb
  · exact ((gaugeBad_false (State.checkGauge_accepted hv).1).1 c hb).1
  · exact h.bound g c hb

theorem State.begin_wired (s : State) (k : ResetKind) : (s.begin k).Wired :=
  ⟨(loadStore_meets s.storeAfterReset).2.gauge, State.mapChecked_iff.mpr (loadStore_meets s.storeAfterReset).1⟩

end Sys2Proof.Machine
end

section
/-! SUPPORT. The drive principle for the properties that are about the composer's sources alone. -/

namespace Sys2Proof.Machine
open Sys2Proof

/-- What it takes for a property that is about the composer's sources alone to be kept by every step, beside the rules of
the map and of the bindings. -/
structure ComposerInvariant (Q : State → Prop) : Prop where
  keeps : ∀ s t : State, s.ComposerKeeps t → Q s → Q t
  reevaluate : ∀ (s : State) (f : Fn), s.Wired → Q s → Q (s.reevaluate f)
  enterOn : ∀ (s : State) (early : Bool), s.flashActive = true → s.Wired → Q s → Q (s.enterOn early)
  enterOff : ∀ (s : State) (cy : Cycle) (early : Bool), s.onPhase = true → s.Wired → Q s → Q (s.enterOff cy early)
  shed : ∀ (s : State) (n : Nat), s.Wired → Q s → Q (s.setShed n)
  newChannel : ∀ (s : State) (x : Channel × ChannelRec), (s.withChannelRec x).Wired → s.Wired → Q s → Q (s.applyChannel x)
  newMap : ∀ (s : State) (x : Fin 32 × Option MapEntry), (s.withEntry x).Wired → s.Wired → Q s → Q (s.applyMap x)
  newGauge : ∀ (s : State) (x : GaugeId × GaugeRec), (s.withGaugeRec x).Wired → s.Wired → Q s → Q (s.applyGauge x)
  newFan : ∀ (s : State) (r : FanRec), s.Wired → Q s → Q (s.applyFan r)
  fresh : ∀ (pending : List Instr) (cfg : Working) (store : Store) (power : Power) (ev : EventSet),
    Q (State.fresh pending cfg store power ev)

/-! ### What the records' application leaves of the working copy -/

theorem State.resetHealth_cfg (s : State) (c : Channel) : (s.resetHealth c).cfg = s.cfg := by rw [State.resetHealth_only]

theorem State.applyChannel_cfg (s : State) (x : Channel × ChannelRec) :
    (s.applyChannel x).cfg = (s.withChannelRec x).cfg := by
  rw [State.applyChannel_eq, State.resetHealth_cfg]
  split
  · rfl
  · exact congrArg Prod.fst (State.recompute_sources ..)

theorem State.applyMap_cfg (s : State) (x : Fin 32 × Option MapEntry) : (s.applyMap x).cfg = (s.withEntry x).cfg :=
  (State.applyMap_applied s x).cfg

/-- The channel that a slot leaves is recomputed (R140). -/
theorem State.applyGauge_eq (s : State) (x : GaugeId × GaugeRec) :
    s.applyGauge x = match (s.gaugeRec x.1).bound with
      | none => s.withGaugeRec x
      | some c => if x.2.bound = some c then s.withGaugeRec x else (s.withGaugeRec x).recompute c := by
  unfold State.applyGauge State.withGaugeRec
  rfl

theorem State.applyGauge_sources (s : State) (x : GaugeId × GaugeRec) :
    (s.applyGauge x).sources = (s.withGaugeRec x).sources := by
  rw [State.applyGauge_eq]
  split
  · rfl
  · split
    · rfl
    · exact State.recompute_sources ..

theorem State.applyFan_cfg (s : State) (r : FanRec) : (s.applyFan r).cfg = { s.cfg with fan := r } := by
  have hr (t : State) : t.fanRetarget.cfg = t.cfg :=
    t.fanRetarget_keep (·.cfg) (fun _ _ => rfl) (fun _ _ => rfl)
  unfold State.applyFan
  dsimp only
  split
  · rw [State.fanWrite_keep (·.cfg) (fun _ _ => rfl), hr]
    rfl
  · rw [hr]
    rfl

namespace ComposerInvariant

variable {Q : State → Prop} (h : ComposerInvariant Q)
include h

theorem iff {s t : State} (k : s.ComposerKeeps t) : s.Wired ∧ Q s ↔ t.Wired ∧ Q t :=
  ⟨fun hs => ⟨k.wired hs.1, h.keeps s t k hs.2⟩, fun ht => ⟨k.symm.wired ht.1, h.keeps t s k.symm ht.2⟩⟩

theorem keep {s t : State} (hs : s.Wired ∧ Q s) (k : s.ComposerKeeps t) : t.Wired ∧ Q t := (h.iff k).mp hs

theorem free {s t : State} (k : s.ComposerKeeps t) : (t.Wired ∧ Q t) = (s.Wired ∧ Q s) := propext (h.iff k).symm

theorem output {s t : State} (k : s.OutputMoves t) (hs : s.Wired ∧ Q s) : t.Wired ∧ Q t := h.keep hs (.of_output k)

theorem gauge {s t : State} (k : s.GaugeMoves t) (hs : s.Wired ∧ Q s) : t.Wired ∧ Q t := h.keep hs (.of_gauge hs.1 k)

theorem wiredReevaluate {s : State} (f : Fn) (hs : s.Wired ∧ Q s) : (s.reevaluate f).Wired ∧ Q (s.reevaluate f) :=
  ⟨hs.1.congr (by simp), h.reevaluate s f hs.1 hs.2⟩

/-- The crank state moves, and the fan unit takes the change (R165). -/
theorem crank {s : State} {v : Supervisor} {f : State → State} (hv : v.shed = s.sup.shed)
    (hf : ∀ t : State, t.OutputMoves (f t)) (hs : s.Wired ∧ Q s) :
    (f ((s.setSup v).raise .crank)).Wired ∧ Q (f ((s.setSup v).raise .crank)) :=
  h.output ((hf _).after (.raise (s.setSup v) .crank)) (h.keep hs (.of_eq rfl rfl rfl hv rfl rfl))

theorem input {s : State} (i : InputId) (v : Input) (hs : s.Wired ∧ Q s) :
    (s.setInput i v).Wired ∧ Q (s.setInput i v) := h.keep hs (.of_eq rfl rfl rfl rfl rfl rfl)

theorem drive : DriveInvariant fun s => s.Wired ∧ Q s where
  pending _ _ := h.free (.of_eq rfl rfl rfl rfl rfl rfl)
  power _ _ := h.free (.of_eq rfl rfl rfl rfl rfl rfl)
  clock _ _ := h.free (.of_eq rfl rfl rfl rfl rfl rfl)
  store _ _ := h.free (.of_eq rfl rfl rfl rfl rfl rfl)
  storeWrite _ _ := h.free (.of_eq rfl rfl rfl rfl rfl rfl)
  ports _ _ := h.free (.of_eq rfl rfl rfl rfl rfl rfl)
  slots _ _ := h.free (.of_eq rfl rfl rfl rfl rfl rfl)
  claims _ _ := h.free (.of_eq rfl rfl rfl rfl rfl rfl)
  window _ _ := h.free (.of_eq rfl rfl rfl rfl rfl rfl)
  gates _ _ := h.free (.of_eq rfl rfl rfl rfl rfl rfl)
  seq _ _ := h.free (.of_eq rfl rfl rfl rfl rfl rfl)
  chan s c _ _ hf hs := h.output (.modChan s c hf) hs
  admission s hs := h.output (.admitHeads s) hs
  inrushExpire s c _ hs := h.output (.inrushExpire s c) hs
  coolOffExpire s c _ hs := h.output (.coolOffExpire s c) hs
  trip s c k _ hs := h.output (.trip s c k) hs
  release s c _ hs := h.output (.release s c) hs
  takeUp s hs := h.output (.takeUpAll s) hs
  fanCount s v hv hs := h.output (.setFan s (by rw [hv]; rfl)) hs
  reevaluate _ f hs := h.wiredReevaluate f hs
  enterOn s early ha hs := ⟨hs.1.congr (by simp), h.enterOn s early ha hs.1 hs.2⟩
  enterOff s cy early ha hs := ⟨hs.1.congr (by simp), h.enterOff s cy early ha hs.1 hs.2⟩
  flash _ _ hv hs := h.keep hs (.of_eq rfl rfl hv rfl rfl rfl)
  countFlash s hs := h.keep hs ⟨rfl, rfl, rfl, fun _ => rfl, rfl, s.countFlash_phase, rfl, rfl, fun _ _ => rfl⟩
  sup _ _ _ hv _ hs := h.keep hs (.of_eq rfl rfl rfl hv rfl rfl)
  filter _ _ hs := h.gauge (.gaugesRecompute _) (h.keep hs (.of_eq rfl rfl rfl rfl rfl rfl))
  woken _ hs := h.keep hs (.of_eq rfl rfl rfl rfl rfl rfl)
  shed s n _ hs := ⟨hs.1.congr (by simp), h.shed s n hs.1 hs.2⟩
  crankIn _ _ hs := h.crank rfl State.OutputMoves.fanCrankEntry hs
  crankOut _ _ hs := h.crank rfl State.OutputMoves.fanCrankExit hs
  gaugeRest s g _ hs := h.gauge (.gaugeRest s g) hs
  gaugeFault s g _ hs := h.gauge (.gaugeFault s g) hs
  gaugeRecover s g _ hs := h.gauge (.gaugeRecover s g) hs
  gaugeEnter s g v _ hs := h.gauge (.gaugeEnter s g v) hs
  gaugeCount s g v _ _ hs := h.gauge (.setGauge s g v) hs
  countFaultHold s g hs := h.gauge (.countFaultHold s g) hs
  gaugeHold s g hs := h.gauge (.gaugeHold s g) hs
  gaugeRelease s g hs := h.gauge (.gaugeRelease s g) hs
  input _ i v _ hs := h.input i v hs
  ign s v l _ hs := h.gauge (.gaugesIgnition _ l)
    (ClaimInvariant.foldl (P := fun s => s.Wired ∧ Q s) (h.input .ign v hs) fun _ f ht => h.wiredReevaluate f ht)
  cfg _ _ hch hmap hg hfan hs := h.keep hs
    ⟨hch, hmap, hfan, fun g => by simp [State.gaugeRec, hg], rfl, ⟨rfl, rfl⟩, rfl, rfl, fun _ _ => rfl⟩
  retarget _ _ _ hs := h.keep hs
    ⟨rfl, rfl, rfl, fun g => by cases g <;> rfl, rfl, ⟨rfl, rfl⟩, rfl, rfl, fun _ _ => rfl⟩
  newChannel s _ x _ hv hs :=
    have hw := hs.1.withChannelRec hv
    ⟨hw.congr (s.applyChannel_cfg x), h.newChannel s x hw hs.1 hs.2⟩
  newMap s _ x _ hv hs :=
    have hw := hs.1.withEntry hv
    ⟨hw.congr (s.applyMap_cfg x), h.newMap s x hw hs.1 hs.2⟩
  newGauge s _ x _ _ hv hs :=
    have hw := hs.1.withGaugeRec hv
    ⟨hw.congr (congrArg Prod.fst (s.applyGauge_sources x)), h.newGauge s x hw hs.1 hs.2⟩
  newFan s _ r _ _ hs := ⟨hs.1.congr' (by rw [s.applyFan_cfg]) (by rw [s.applyFan_cfg])
    (fun g => by unfold State.gaugeRec; rw [s.applyFan_cfg]), h.newFan s r hs.1 hs.2⟩
  begin s k := ⟨s.begin_wired k, h.fresh ..⟩
  brownOut s hs := ⟨State.Wired.congr (s := s) rfl hs.1, h.fresh ..⟩

end ComposerInvariant

/-- The rules of the map and of the bindings are kept (R27, R139). -/
theorem wired_drive : DriveInvariant fun s => s.Wired ∧ True :=
  ComposerInvariant.drive (Q := fun _ => True) <| by constructor <;> intros <;> trivial

end Sys2Proof.Machine
end

section
/-! SUPPORT. Every action leaves each composed channel with what its active entries and the flash phase give it
(R34 to R38). -/

namespace Sys2Proof.Machine
open Sys2Proof

theorem State.demandsComposed_iff {s : State} :
    s.DemandsComposed ↔ ∀ c : Channel, s.composes c = true → (s.chan c).written = s.rewrites c := by
  refine forall_congr' fun c => forall_congr' fun hc => ?_
  rw [State.rewrites_composed hc]
  simp only [Chan.written, Prod.ext_iff, and_assoc]

/-- What is written of a composed channel is the same where its entries, what they give and the phase are. -/
theorem State.rewrites_same {s t : State} {c : Channel} (hs : s.composes c = true) (ht : t.composes c = true)
    (hon : t.entriesOn c = s.entriesOn c)
    (hentry : ∀ e ∈ s.entriesOn c, t.entryActive e = s.entryActive e ∧ t.result e.fn = s.result e.fn)
    (hphase : s.follows c = true → t.onPhase = s.onPhase) : t.rewrites c = s.rewrites c := by
  obtain ⟨hd, hstop, hany⟩ := State.composition_congr hon hentry hphase
  rw [State.rewrites_composed hs, State.rewrites_composed ht, hd, hstop, hany]

theorem State.entries_same {s t : State} (hm : t.cfg.map = s.cfg.map) (c : Channel) : t.entriesOn c = s.entriesOn c := by
  unfold State.entriesOn State.entries
  rw [hm]

/-- With the same results every entry is active as it was. -/
theorem State.active_same {s t : State} (hr : t.results = s.results) (e : MapEntry) :
    t.entryActive e = s.entryActive e ∧ t.result e.fn = s.result e.fn := by
  have hres (f : Fn) : t.result f = s.result f := by
    unfold State.result
    rw [hr]
  refine ⟨State.entryActive_congr (hres _) (fun _ _ => ?_) (fun _ _ => ?_), hres _⟩
  · simp [State.leftSide, State.resultOn, hres]
  · simp [State.rightSide, State.resultOn, hres]

theorem State.follows_same {s t : State} (hm : t.cfg.map = s.cfg.map) (hr : t.results = s.results) (c : Channel) :
    t.follows c = s.follows c := by
  unfold State.follows
  rw [State.entries_same hm]
  exact congrArg _ (funext fun e => by rw [(State.active_same hr e).1])

theorem State.DemandsComposed.same {s t : State} (h : s.DemandsComposed) (hch : t.cfg.channels = s.cfg.channels)
    (hm : t.cfg.map = s.cfg.map) (hr : t.results = s.results) (hphase : t.onPhase = s.onPhase)
    (hw : ∀ c : Channel, s.composes c = true → (t.chan c).written = (s.chan c).written) : t.DemandsComposed := by
  refine State.demandsComposed_iff.mpr fun c hc => ?_
  have hs : s.composes c = true := by rwa [State.composes_congr' hch hm] at hc
  rw [hw c hs, State.demandsComposed_iff.mp h c hs]
  exact (State.rewrites_same hs hc (State.entries_same hm c) (fun e _ => State.active_same hr e) fun _ => hphase).symm

theorem State.DemandsComposed.keeps {s t : State} (h : s.DemandsComposed) (k : s.ComposerKeeps t) : t.DemandsComposed :=
  h.same k.channels k.map k.results k.phase.1 k.written

/-- The recomputed channels have what is written anew, and so have the others where nothing that they read has moved. -/
theorem State.recomputeWhere_composed {u : State} {q : Channel → Bool}
    (h : ∀ c : Channel, u.composes c = true → q c = false → (u.chan c).written = u.rewrites c) :
    (u.recomputeWhere q).DemandsComposed := by
  refine State.demandsComposed_iff.mpr fun c hc => ?_
  have hsrc := u.recomputeWhere_sources q
  have hu : u.composes c = true := by rwa [State.composes_congr (congrArg Prod.fst hsrc)] at hc
  rw [State.recomputeWhere_written q hu, State.rewrites_congr hsrc hu]
  split
  · rfl
  · rename_i hq
    exact h c hu (Bool.eq_false_iff.mpr hq)

/-- One channel is recomputed. -/
theorem State.recompute_composed {u : State} {c : Channel}
    (h : ∀ d : Channel, u.composes d = true → d ≠ c → (u.chan d).written = u.rewrites d) :
    (u.recompute c).DemandsComposed := by
  refine State.demandsComposed_iff.mpr fun d hd => ?_
  have hsrc := u.recompute_sources c
  have hu : u.composes d = true := by rwa [State.composes_congr (congrArg Prod.fst hsrc)] at hd
  rw [State.recompute_written u c (State.composes_notFan hu), State.rewrites_congr hsrc hu]
  split
  · rename_i hc
    rw [hc]
  · exact h d hu ‹_›

namespace State.DemandsComposed

variable {s : State} (h : s.DemandsComposed)
include h

/-- The flash phase moves, and the channels that follow it are recomputed (R92). -/
theorem composeFollowers {u : State} (hcfg : u.cfg = s.cfg) (hr : u.results = s.results) (hc : u.chans = s.chans) :
    u.composeFollowers.DemandsComposed := by
  refine State.recomputeWhere_composed fun c hu hf => ?_
  have hs : s.composes c = true := by rwa [State.composes_congr hcfg] at hu
  have hchan : u.chan c = s.chan c := by
    unfold State.chan
    rw [hc]
  rw [hchan, State.demandsComposed_iff.mp h c hs]
  refine (State.rewrites_same hs hu (State.entries_same (by rw [hcfg]) c) (fun e _ => State.active_same hr e)
    fun hfollows => ?_).symm
  rw [State.follows_same (by rw [hcfg]) hr] at hf
  rw [hf] at hfollows
  cases hfollows

/-- A result moves, the fan unit takes it or not, and the channels that read it are recomputed (R37). -/
theorem composeFor {u : State} (f : Fn) (v : Nat) (hsrc : u.sources = (s.setResult f v).sources)
    (hw : ∀ c : Channel, s.isFan c = false → (u.chan c).written = (s.chan c).written) :
    (u.composeFor f ((s.setResult f v).leftSide != s.leftSide ||
      (s.setResult f v).rightSide != s.rightSide)).DemandsComposed := by
  refine State.recomputeWhere_composed fun c hu hq => ?_
  simp only [Bool.or_eq_false_iff, Bool.and_eq_false_iff] at hq
  obtain ⟨hcarries, hsides⟩ := hq
  have hcfg : u.cfg = s.cfg := congrArg Prod.fst hsrc
  have hmap : u.cfg.map = s.cfg.map := by rw [hcfg]
  have hs : s.composes c = true := by rwa [State.composes_congr hcfg] at hu
  have hnone (e : MapEntry) (he : e ∈ s.entriesOn c) : e.fn ≠ f := by
    rw [State.carries, State.entries_same hmap] at hcarries
    simpa using List.any_eq_false.mp hcarries e he
  have hturn (e : MapEntry) (he : e ∈ s.entriesOn c) (hk : e.contrib = .flash) (hf : e.fn = .turnL ∨ e.fn = .turnR) :
      (s.setResult f v).leftSide = s.leftSide ∧ (s.setResult f v).rightSide = s.rightSide := by
    rcases hsides with hsides | hsides
    · simpa using hsides
    · rw [State.carriesTurnFlash, State.entries_same hmap] at hsides
      exact absurd (List.any_eq_false.mp hsides e he) (by simp [hk, hf])
  rw [hw c (State.composes_notFan hs), State.demandsComposed_iff.mp h c hs]
  refine (State.rewrites_same hs hu (State.entries_same hmap c) (fun e he => ?_) fun _ => ?_).symm
  · obtain ⟨hactive, hresult⟩ := State.active_same (s := s.setResult f v) (congrArg (·.2.1) hsrc) e
    have hstands : (s.setResult f v).result e.fn = s.result e.fn := by
      rw [State.result_setResult, if_neg (Ne.symm (hnone e he))]
    exact ⟨hactive.trans (State.entryActive_congr hstands (fun hk hf => (hturn e he hk (.inl hf)).1) fun hk hf =>
      (hturn e he hk (.inr hf)).2), hresult.trans hstands⟩
  · exact (State.onPhase_congr (congrArg (·.2.2.2.1.phase) hsrc)).1

/-- The generator's test (R91, R95). -/
theorem flashTest : s.flashTest.DemandsComposed := by
  unfold State.flashTest
  split
  · split
    · rename_i hp
      exact h.same rfl rfl rfl (by simp [State.onPhase, hp]) fun _ _ => rfl
    all_goals exact h
  · split
    · exact h
    all_goals exact h.composeFollowers rfl rfl rfl

end State.DemandsComposed

/-- T as the result and the shed level make it (R159), the fan not having acted on it. -/
def State.retargeted (s : State) : State :=
  s.setFan { s.fan with
    requested := min 3 (s.result .fan), capped := min (min 3 (s.result .fan)) (s.cfg.fan.cap s.sup.shed),
    target := s.cfg.fan.stepDuty (min (min 3 (s.result .fan)) (s.cfg.fan.cap s.sup.shed)) }

/-- What the fan unit does on a change of T (R160, R161, R163, R167). -/
theorem State.retargeted_moves (s : State) : s.retargeted.OutputMoves s.fanRetarget := by
  unfold State.fanRetarget
  change s.retargeted.OutputMoves (match s.fanChannel with | none => s.retargeted | some _ => _)
  split
  · exact .refl _
  · split
    · exact .ite (fun _ => .fanStartOrSuspend _) fun _ => .refl _
    · exact .ite (fun _ => .fanStop _) fun _ => .refl _
    · exact .ite (fun _ => .fanStop _) fun _ => .refl _
    · exact .ite (fun _ => .fanStop _) fun _ => .refl _
    · exact .ite (fun _ => .fanStop _) fun _ => .refl _
    · exact .ite (fun _ => .fanStop _) fun _ => .ite (fun _ => .refl _) fun _ => .setFan _ rfl
    · exact .fanWrite _ _

/-- The fan unit's part in a change of the shed level, after T (R164). -/
theorem State.fanShed_moves (s : State) (n : Nat) : s.retargeted.OutputMoves (s.fanShed n) := by
  unfold State.fanShed
  have ht := s.retargeted_moves
  dsimp only
  split
  · exact ht
  · rename_i c _
    exact .ite (fun _ => .ite (fun _ => (State.OutputMoves.fanStop _).after ((State.OutputMoves.cut _ c).after ht)) fun _ =>
      (State.OutputMoves.fanStarting _).after ((State.OutputMoves.cut _ c).after ht)) fun _ => ht

theorem State.applyFan_moves (s : State) (r : FanRec) :
    (s.setCfg { s.cfg with fan := r }).retargeted.OutputMoves (s.applyFan r) :=
  .ite (fun _ => (State.OutputMoves.fanWrite _ _).after (State.retargeted_moves _)) fun _ => State.retargeted_moves _

namespace State.DemandsComposed

variable {s : State} (h : s.DemandsComposed)
include h

theorem output {t : State} (k : s.OutputMoves t) : t.DemandsComposed := h.keeps (.of_output k)

theorem retargeted : s.retargeted.DemandsComposed := h.same rfl rfl rfl rfl fun _ _ => rfl

theorem reevaluate (f : Fn) : (s.reevaluate f).DemandsComposed := by
  refine ClaimInvariant.of_ite (fun _ => h) ?_
  generalize s.evaluated f = v
  have ht : ((if f = .fan then (s.setResult f v).fanRetarget else s.setResult f v).composeFor f
      ((s.setResult f v).leftSide != s.leftSide || (s.setResult f v).rightSide != s.rightSide)).DemandsComposed := by
    split
    · have k := (s.setResult f v).retargeted_moves
      exact h.composeFor f v k.sources k.written
    · exact h.composeFor f v rfl fun _ _ => rfl
  exact ClaimInvariant.of_ite (fun _ => ht.flashTest) ht

theorem setShed (n : Nat) : (s.setShed n).DemandsComposed := by
  have hsup (v : Supervisor) : (s.setSup v).DemandsComposed := h.same rfl rfl rfl rfl fun _ _ => rfl
  unfold State.setShed
  extract_lets _ t
  have hall : (t.reevaluateAll Fn.all).DemandsComposed :=
    ClaimInvariant.foldl (P := State.DemandsComposed) ((hsup _).output (.raise _ _)) fun _ f ht => ht.reevaluate f
  exact hall.retargeted.output (State.fanShed_moves _ _)

theorem newFan (r : FanRec) : (s.applyFan r).DemandsComposed := by
  have ht : (s.setCfg { s.cfg with fan := r }).DemandsComposed := h.same rfl rfl rfl rfl fun _ _ => rfl
  exact ht.retargeted.output (s.applyFan_moves r)

end State.DemandsComposed

/-! ### The flash phases -/

/-- What a change of phase leaves before the composer takes it. -/
def State.unflashed (s : State) : Working × Vector Nat 15 × Vector Chan 16 × Fan × Supervisor :=
  (s.cfg, s.results, s.chans, s.fan, s.sup)

theorem State.startTick_phase (s : State) : s.startTick.flash.phase = s.flash.phase := by
  unfold State.startTick
  split <;> rfl

/-- A phase is entered: the generator is active and the composer takes the change (R92). -/
theorem State.enterOn_via (s : State) (early : Bool) :
    ∃ u : State, s.enterOn early = u.composeFollowers ∧ u.unflashed = s.unflashed ∧ u.flashActive = true := by
  unfold State.enterOn
  extract_lets v _ t
  refine ⟨_, rfl, (State.startTick_keep State.unflashed (fun _ _ => rfl) _).trans ?_, ?_⟩
  · split
    · rfl
    · exact (State.raise_keep State.unflashed (fun _ _ => rfl) ..).trans rfl
  · rw [(State.onPhase_congr (State.startTick_phase _)).2]
    split
    · rfl
    · rw [State.flashActive, show (t.raise .flashFast).flash = t.flash by simp]
      rfl

theorem State.enterOff_via (s : State) (cy : Cycle) (early : Bool) :
    ∃ u : State, s.enterOff cy early = u.composeFollowers ∧ u.unflashed = s.unflashed ∧ u.flashActive = true := by
  unfold State.enterOff
  refine ⟨_, rfl, (State.startTick_keep State.unflashed (fun _ _ => rfl) _).trans rfl, ?_⟩
  rw [(State.onPhase_congr (State.startTick_phase _)).2]
  rfl

theorem State.DemandsComposed.phase {s t : State} (h : s.DemandsComposed)
    (ht : ∃ u : State, t = u.composeFollowers ∧ u.unflashed = s.unflashed ∧ u.flashActive = true) : t.DemandsComposed := by
  obtain ⟨u, rfl, hu, -⟩ := ht
  exact h.composeFollowers (congrArg Prod.fst hu) (congrArg (·.2.1) hu) (congrArg (·.2.2.1) hu)

/-! ### Records -/

theorem State.OutputMoves.resetHealth (s : State) (c : Channel) : s.OutputMoves (s.resetHealth c) := by
  have ht : s.OutputMoves (s.modChan c fun ch => { ch with trips := 0, bulbOut := false, low := 0, high := 0 }) :=
    modChan s c rfl
  exact ite (fun _ => (raise _ _).after ht) fun _ => ht

theorem State.withChannelRec_composes {s : State} {x : Channel × ChannelRec} {d : Channel}
    (h : d = x.1 → x.2.kind = (s.chRec x.1).kind) : (s.withChannelRec x).composes d = s.composes d := by
  have hk : ((s.withChannelRec x).chRec d).kind = (s.chRec d).kind := by
    rw [State.withChannelRec_chRec]
    split
    · rename_i hd
      rw [h hd, hd]
    · rfl
  unfold State.composes
  rw [hk]
  rfl

theorem State.DemandsComposed.newChannel {s : State} (h : s.DemandsComposed) (x : Channel × ChannelRec) :
    (s.applyChannel x).DemandsComposed := by
  have hstands (d : Channel) (hkind : d = x.1 → x.2.kind = (s.chRec x.1).kind)
      (hd : (s.withChannelRec x).composes d = true) :
      ((s.withChannelRec x).chan d).written = (s.withChannelRec x).rewrites d := by
    have hs := (State.withChannelRec_composes hkind).symm.trans hd
    rw [State.rewrites_same hs hd rfl (fun _ _ => ⟨rfl, rfl⟩) fun _ => rfl]
    exact State.demandsComposed_iff.mp h d hs
  rw [State.applyChannel_eq]
  refine State.DemandsComposed.output ?_ (State.OutputMoves.resetHealth _ _)
  split
  · exact State.demandsComposed_iff.mpr fun d hd => hstands d (fun _ => ‹_›) hd
  · exact State.recompute_composed fun d hd hne => hstands d (fun hx => absurd hx hne) hd

/-- The entries of a channel that a MAP record does not reach. -/
theorem State.withEntry_entriesOn {s : State} {x : Fin 32 × Option MapEntry} {c : Channel}
    (h : s.mapTouches x c = false) : (s.withEntry x).entriesOn c = s.entriesOn c := by
  have hon (t : State) : t.entriesOn c = (t.cfg.map.toList.map (Option.filter fun e => e.chan == c)).filterMap id := by
    unfold State.entriesOn State.entries
    rw [List.filterMap_map, List.filter_filterMap]
    rfl
  have hnone (v : Option MapEntry) (hv : (v.map MapEntry.chan == some c) = false) :
      v.filter (fun e => e.chan == c) = none := by
    cases v with
    | none => rfl
    | some e => simpa [Option.filter] using hv
  simp only [State.mapTouches, Bool.or_eq_false_iff] at h
  rw [hon, hon]
  refine congrArg _ ?_
  change ((s.cfg.map.set x.1 x.2).toList.map _) = _
  generalize hf : Option.filter (fun e : MapEntry => e.chan == c) = f at hnone ⊢
  have hold : (s.cfg.map.toList.map f)[x.1.val]'(by simp) = none := by
    rw [List.getElem_map]
    exact hnone _ h.2
  rw [Vector.toList_set, List.map_set, hnone _ h.1, ← hold, List.set_getElem_self]

theorem State.DemandsComposed.newMap {s : State} (h : s.DemandsComposed) {x : Fin 32 × Option MapEntry}
    (hw : (s.withEntry x).Wired) : (s.applyMap x).DemandsComposed := by
  rw [State.applyMap_eq]
  refine State.DemandsComposed.output ?_ (State.OutputMoves.fanChannelChanged _ _)
  refine State.recomputeWhere_composed fun c hu hq => ?_
  have hon := State.withEntry_entriesOn hq
  have hs : s.composes c = true := by
    simp only [State.composes, Bool.and_eq_true, Bool.not_eq_true'] at hu ⊢
    refine ⟨hu.1, State.isFan_false_iff.mpr fun hc => State.isFan_false_iff.mp hu.2 ?_⟩
    obtain ⟨e, he, hf, rfl⟩ := State.fanChannel_entry hc
    have hmem : e ∈ (s.withEntry x).entriesOn e.chan := by
      rw [hon]
      exact State.mem_entriesOn.mpr ⟨he, rfl⟩
    exact hw.map.fanChannel (State.mem_entriesOn.mp hmem).1 hf
  rw [State.rewrites_same hs hu hon (fun _ _ => ⟨rfl, rfl⟩) fun _ => rfl]
  exact State.demandsComposed_iff.mp h c hs

theorem State.DemandsComposed.newGauge {s : State} (h : s.DemandsComposed) (x : GaugeId × GaugeRec) :
    (s.applyGauge x).DemandsComposed := by
  have ht : (s.withGaugeRec x).DemandsComposed := h.same rfl rfl rfl rfl fun _ _ => rfl
  rw [State.applyGauge_eq]
  split
  · exact ht
  · split
    · exact ht
    · exact State.recompute_composed fun d hd _ => State.demandsComposed_iff.mp ht d hd

/-! ### A reset -/

theorem State.fresh_chan (pending : List Instr) (cfg : Working) (store : Store) (power : Power) (ev : EventSet)
    (c : Channel) : (State.fresh pending cfg store power ev).chan c = Chan.reset := by simp [State.fresh, State.chan]

theorem State.DemandsComposed.fresh (pending : List Instr) (cfg : Working) (store : Store) (power : Power) (ev : EventSet) :
    (State.fresh pending cfg store power ev).DemandsComposed := by
  refine State.demandsComposed_iff.mpr fun c hc => ?_
  rw [State.fresh_chan]
  generalize hs : State.fresh pending cfg store power ev = s at hc ⊢
  have hnone (e : MapEntry) : ¬ s.entryActive e = true := by
    have hr (f : Fn) : s.result f = 0 := hs ▸ State.fresh_result pending cfg store power ev f
    rw [State.entryActive_iff]
    simp [hr]
  have hgives (e : MapEntry) : ¬ s.Gives c e := fun he => hnone e he.2
  have hfollows : s.follows c = false := Bool.eq_false_iff.mpr fun hf => by
    obtain ⟨e, he, -⟩ := State.follows_iff.mp hf
    exact hgives e he
  have hstop : s.stopActive c = false := Bool.eq_false_iff.mpr fun hf => by
    obtain ⟨e, he, -⟩ := State.stopActive_iff.mp hf
    exact hgives e he
  have hany : s.anyActive c = false := Bool.eq_false_iff.mpr fun hf => by
    obtain ⟨e, he⟩ := State.anyActive_iff.mp hf
    exact hgives e he
  have hsteady : s.steadyDemand c = 0 := (s.steadyDemand_largest c).2.elim id fun ⟨e, he, _⟩ => absurd he (hgives e)
  rw [State.rewrites_composed hc, State.composed_steady hfollows, hsteady, hstop, hany]
  rfl

theorem demandsComposed_composer : ComposerInvariant State.DemandsComposed where
  keeps _ _ k h := h.keeps k
  reevaluate _ f _ h := h.reevaluate f
  enterOn s early _ _ h := h.phase (s.enterOn_via early)
  enterOff s cy early _ _ h := h.phase (s.enterOff_via cy early)
  shed _ n _ h := h.setShed n
  newChannel _ x _ _ h := h.newChannel x
  newMap _ _ hw _ h := h.newMap hw
  newGauge _ x _ _ h := h.newGauge x
  newFan _ r _ h := h.newFan r
  fresh := State.DemandsComposed.fresh

end Sys2Proof.Machine
end

section
/-! SUPPORT. Every action leaves T the step duty of the capped FAN step (R159), and the generator idle exactly while no
flashing is demanded (R91, R95). -/

namespace Sys2Proof.Machine
open Sys2Proof

/-! ### T -/

namespace State.FanTargetComputed

variable {s t : State}

theorem same (h : s.FanTargetComputed) (hfan : t.cfg.fan = s.cfg.fan) (hr : t.result .fan = s.result .fan)
    (hshed : t.sup.shed = s.sup.shed) (haim : t.fan.aim = s.fan.aim) : t.FanTargetComputed := by
  have hreq : t.fan.requested = s.fan.requested := congrArg Prod.fst haim
  have hcap : t.fan.capped = s.fan.capped := congrArg (·.2.1) haim
  have htarget : t.fan.target = s.fan.target := congrArg (·.2.2) haim
  unfold State.FanTargetComputed
  rw [hreq, hcap, htarget, hfan, hr, hshed]
  exact h

theorem of_sources (h : s.FanTargetComputed) (hsrc : t.sources = s.sources) (haim : t.fan.aim = s.fan.aim) :
    t.FanTargetComputed :=
  h.same (congrArg (·.1.fan) hsrc) (congrArg (·.2.1[Fn.fan.idx]) hsrc) (congrArg (·.2.2.2.2.1.shed) hsrc) haim

theorem output (h : s.FanTargetComputed) (k : s.OutputMoves t) : t.FanTargetComputed := h.of_sources k.sources k.aim

theorem keeps (h : s.FanTargetComputed) (k : s.ComposerKeeps t) : t.FanTargetComputed :=
  h.same k.fanRec (by unfold State.result; rw [k.results]) k.shed k.aim

theorem retargeted (s : State) : s.retargeted.FanTargetComputed := ⟨rfl, rfl, rfl⟩

/-- The fan unit takes a change of T. -/
theorem fanRetarget (s : State) : s.fanRetarget.FanTargetComputed := (retargeted s).output s.retargeted_moves

theorem recomputeWhere (h : s.FanTargetComputed) (q : Channel → Bool) : (s.recomputeWhere q).FanTargetComputed :=
  h.of_sources (s.recomputeWhere_sources q) (s.recomputeWhere_aim q)

theorem flashTest (h : s.FanTargetComputed) : s.flashTest.FanTargetComputed := by
  have hphase (v : Flash) : (s.setFlash v).FanTargetComputed := h
  unfold State.flashTest
  split
  · split
    · exact hphase _
    all_goals exact h
  · split
    · exact h
    all_goals exact (hphase _).recomputeWhere _

theorem reevaluate (h : s.FanTargetComputed) (f : Fn) : (s.reevaluate f).FanTargetComputed := by
  refine ClaimInvariant.of_ite (fun _ => h) ?_
  generalize s.evaluated f = v
  have ht : (if f = .fan then (s.setResult f v).fanRetarget else s.setResult f v).FanTargetComputed := by
    split
    · exact fanRetarget _
    · rename_i hf
      exact h.same rfl (by rw [State.result_setResult, if_neg hf]) rfl rfl
  exact ClaimInvariant.of_ite (fun _ => (ht.recomputeWhere _).flashTest) (ht.recomputeWhere _)

theorem phase (h : s.FanTargetComputed)
    (ht : ∃ u : State, t = u.composeFollowers ∧ u.unflashed = s.unflashed ∧ u.flashActive = true) :
    t.FanTargetComputed := by
  obtain ⟨u, rfl, hu, -⟩ := ht
  exact (h.same (t := u) (congrArg (·.1.fan) hu) (congrArg (·.2.1[Fn.fan.idx]) hu) (congrArg (·.2.2.2.2.shed) hu)
    (congrArg (·.2.2.2.1.aim) hu)).recomputeWhere _

theorem setShed (s : State) (n : Nat) : (s.setShed n).FanTargetComputed := by
  unfold State.setShed
  extract_lets _ t
  exact (retargeted _).output (State.fanShed_moves (t.reevaluateAll Fn.all) _)

theorem newChannel (h : s.FanTargetComputed) (x : Channel × ChannelRec) : (s.applyChannel x).FanTargetComputed := by
  have ht : (s.withChannelRec x).FanTargetComputed := h
  rw [State.applyChannel_eq]
  refine output ?_ (State.OutputMoves.resetHealth _ _)
  split
  · exact ht
  · exact ht.of_sources (State.recompute_sources ..) (State.recompute_aim ..)

theorem newMap (h : s.FanTargetComputed) (x : Fin 32 × Option MapEntry) : (s.applyMap x).FanTargetComputed := by
  have ht : (s.withEntry x).FanTargetComputed := h
  rw [State.applyMap_eq]
  exact (ht.recomputeWhere _).output (State.OutputMoves.fanChannelChanged _ _)

theorem newGauge (h : s.FanTargetComputed) (x : GaugeId × GaugeRec) : (s.applyGauge x).FanTargetComputed := by
  have ht : (s.withGaugeRec x).FanTargetComputed := h
  rw [State.applyGauge_eq]
  split
  · exact ht
  · split
    · exact ht
    · exact ht.of_sources (State.recompute_sources ..) (State.recompute_aim ..)

end State.FanTargetComputed

theorem State.FanTargetComputed.fresh (pending : List Instr) (cfg : Working) (store : Store) (power : Power)
    (ev : EventSet) : (State.fresh pending cfg store power ev).FanTargetComputed := by
  have hfan : (State.fresh pending cfg store power ev).fan = Fan.reset := rfl
  unfold State.FanTargetComputed
  rw [State.fresh_result, hfan]
  exact ⟨rfl, (Nat.zero_min _).symm, rfl⟩

theorem fanTarget_composer : ComposerInvariant State.FanTargetComputed where
  keeps _ _ k h := h.keeps k
  reevaluate _ f _ h := h.reevaluate f
  enterOn s early _ _ h := h.phase (s.enterOn_via early)
  enterOff s cy early _ _ h := h.phase (s.enterOff_via cy early)
  shed s n _ _ := State.FanTargetComputed.setShed s n
  newChannel _ x _ _ h := h.newChannel x
  newMap _ x _ _ h := h.newMap x
  newGauge _ x _ _ h := h.newGauge x
  newFan s r _ _ := (State.FanTargetComputed.retargeted _).output (s.applyFan_moves r)
  fresh := State.FanTargetComputed.fresh

/-! ### The generator's demand -/

theorem State.flashActive_of_onPhase (s : State) (h : s.onPhase = true) : s.flashActive = true := by
  unfold State.onPhase at h
  unfold State.flashActive
  split at h <;> simp_all

theorem State.flashFollows_iff {s : State} : s.FlashFollowsDemand ↔ s.flashActive = s.flashDemand := by
  have hidle : (s.flash.phase = .idle false false ∨ s.flash.phase = .idle false true) ↔ s.flashActive = false := by
    unfold State.flashActive
    cases s.flash.phase with
    | idle p came => cases p <;> cases came <;> simp
    | onPhase cy => simp
    | offPhase cy => simp
  unfold State.FlashFollowsDemand
  rw [hidle, ← State.flashDemand_iff]
  cases s.flashActive <;> cases s.flashDemand <;> simp

namespace State.FlashFollowsDemand

variable {s t : State}

theorem same (h : s.FlashFollowsDemand) (ha : t.flashActive = s.flashActive)
    (hr : ∀ f : Fn, f = .turnL ∨ f = .turnR ∨ f = .hazard → t.result f = s.result f) : t.FlashFollowsDemand := by
  have hd : t.flashDemand = s.flashDemand := by
    unfold State.flashDemand State.resultOn
    rw [hr .turnL (.inl rfl), hr .turnR (.inr (.inl rfl)), hr .hazard (.inr (.inr rfl))]
  exact State.flashFollows_iff.mpr (ha.trans ((State.flashFollows_iff.mp h).trans hd.symm))

theorem of_sources (h : s.FlashFollowsDemand) (hsrc : t.sources = s.sources) : t.FlashFollowsDemand :=
  h.same (State.onPhase_congr (congrArg (·.2.2.2.1.phase) hsrc)).2 fun f _ => congrArg (·.2.1[f.idx]) hsrc

theorem output (h : s.FlashFollowsDemand) (k : s.OutputMoves t) : t.FlashFollowsDemand := h.of_sources k.sources

theorem keeps (h : s.FlashFollowsDemand) (k : s.ComposerKeeps t) : t.FlashFollowsDemand :=
  h.same k.phase.2 fun f _ => by
    unfold State.result
    rw [k.results]

/-- The test leaves the generator active exactly while flashing is demanded. -/
theorem flashTest (s : State) : s.flashTest.FlashFollowsDemand := by
  rw [State.flashFollows_iff]
  have hidle (v : Flash) : (s.setFlash v).composeFollowers.flashActive = (s.setFlash v).flashActive ∧
      (s.setFlash v).composeFollowers.flashDemand = s.flashDemand := by
    have hsrc := (s.setFlash v).recomputeWhere_sources (s.setFlash v).follows
    have hres (f : Fn) : (s.setFlash v).composeFollowers.result f = s.result f := congrArg (·.2.1[f.idx]) hsrc
    refine ⟨(State.onPhase_congr (congrArg (·.2.2.2.1.phase) hsrc)).2, ?_⟩
    unfold State.flashDemand State.resultOn
    rw [hres, hres, hres]
  unfold State.flashTest
  split
  · rename_i hd
    split <;> rename_i hp
    · exact hd.symm
    all_goals
      rw [hd]
      simp [State.flashActive, hp]
  · rename_i hd
    rw [Bool.not_eq_true] at hd
    split <;> rename_i hp
    · rw [hd]
      simp [State.flashActive, hp]
    all_goals
      rw [(hidle _).1, (hidle _).2, hd]
      rfl

theorem reevaluate (h : s.FlashFollowsDemand) (f : Fn) : (s.reevaluate f).FlashFollowsDemand := by
  refine ClaimInvariant.of_ite (fun _ => h) ?_
  generalize s.evaluated f = v
  unfold State.handOn
  dsimp only
  by_cases hf : f = .turnL ∨ f = .turnR ∨ f = .hazard
  · rw [if_pos hf]
    exact flashTest _
  rw [if_neg hf]
  have ht : (s.setResult f v).FlashFollowsDemand := h.same rfl fun g hg => by
    rw [State.result_setResult, if_neg fun e : f = g => hf (by rwa [e])]
  have hr : (if f = .fan then (s.setResult f v).fanRetarget else s.setResult f v).FlashFollowsDemand := by
    split
    · exact ht.of_sources (s.setResult f v).retargeted_moves.sources
    · exact ht
  exact hr.of_sources (State.recomputeWhere_sources ..)

theorem phase (h : s.FlashFollowsDemand) (ha : s.flashActive = true)
    (ht : ∃ u : State, t = u.composeFollowers ∧ u.unflashed = s.unflashed ∧ u.flashActive = true) :
    t.FlashFollowsDemand := by
  obtain ⟨u, rfl, hu, hon⟩ := ht
  exact (h.same (t := u) (hon.trans ha.symm) fun f _ => congrArg (·.2.1[f.idx]) hu).of_sources
    (State.recomputeWhere_sources ..)

theorem setShed (h : s.FlashFollowsDemand) (n : Nat) : (s.setShed n).FlashFollowsDemand := by
  have hsup (v : Supervisor) : (s.setSup v).FlashFollowsDemand := h
  unfold State.setShed
  extract_lets _ t
  have hall : (t.reevaluateAll Fn.all).FlashFollowsDemand :=
    ClaimInvariant.foldl (P := State.FlashFollowsDemand) ((hsup _).output (.raise _ _)) fun _ f ht => ht.reevaluate f
  generalize t.reevaluateAll Fn.all = u at hall ⊢
  have hretargeted : u.retargeted.FlashFollowsDemand := hall
  exact hretargeted.output (State.fanShed_moves _ _)

theorem newChannel (h : s.FlashFollowsDemand) (x : Channel × ChannelRec) : (s.applyChannel x).FlashFollowsDemand := by
  have ht : (s.withChannelRec x).FlashFollowsDemand := h
  rw [State.applyChannel_eq]
  refine output ?_ (State.OutputMoves.resetHealth _ _)
  split
  · exact ht
  · exact ht.of_sources (State.recompute_sources ..)

theorem newMap (h : s.FlashFollowsDemand) (x : Fin 32 × Option MapEntry) : (s.applyMap x).FlashFollowsDemand := by
  have ht : (s.withEntry x).FlashFollowsDemand := h
  rw [State.applyMap_eq]
  exact (ht.of_sources (State.recomputeWhere_sources ..)).output (State.OutputMoves.fanChannelChanged _ _)

theorem fresh (pending : List Instr) (cfg : Working) (store : Store) (power : Power) (ev : EventSet) :
    (State.fresh pending cfg store power ev).FlashFollowsDemand := by
  unfold State.FlashFollowsDemand
  simp only [State.fresh_result]
  exact ⟨fun _ => ⟨trivial, trivial, trivial⟩, fun _ => .inl rfl⟩

end State.FlashFollowsDemand

theorem flashFollows_composer : ComposerInvariant State.FlashFollowsDemand where
  keeps _ _ k h := h.keeps k
  reevaluate _ f _ h := h.reevaluate f
  enterOn s early ha _ h := h.phase ha (s.enterOn_via early)
  enterOff s cy early ha _ h := h.phase (s.flashActive_of_onPhase ha) (s.enterOff_via cy early)
  shed _ n _ h := h.setShed n
  newChannel _ x _ _ h := h.newChannel x
  newMap _ x _ _ h := h.newMap x
  newGauge s x _ _ h := State.FlashFollowsDemand.of_sources (s := s.withGaugeRec x) h (s.applyGauge_sources x)
  newFan s r _ h :=
    State.FlashFollowsDemand.of_sources (s := s.setCfg { s.cfg with fan := r }) h (s.applyFan_moves r).sources
  fresh := State.FlashFollowsDemand.fresh

end Sys2Proof.Machine
end

section
/-! SUPPORT. What a gauge slot holds, slot by slot, and how the gauge unit's writes keep it (R139 to R152). -/

namespace Sys2Proof.Machine
open Sys2Proof

/-! ### One slot -/

/-- The rounded mean of a ring, where it holds a reading (R145). -/
def averageOf (ring : List Nat) : Option Nat := if ring = [] then none else some (ringAverage ring)

/-- The target of a slot's record and average (R148). -/
def GaugeRec.targetOf (r : GaugeRec) (average : Option Nat) : Option Nat :=
  match r.mode with
  | .stabilised => some r.target
  | .table => average.map fun a => tableTarget a r.table

/-- A slot in OFF is at its reset values, one outside OFF is enabled, and the average is the ring's. -/
structure GaugeSlot.Shaped (r : GaugeRec) (x : GaugeSlot) : Prop where
  off : x.st = .off → x = GaugeSlot.reset
  enabled : x.st ≠ .off → r.enabled = true
  average : x.average = averageOf x.ring

/-- An ACTIVE slot with a target and a Vf has them computed. -/
def GaugeSlot.Computed (r : GaugeRec) (vf : Option Nat) (x : GaugeSlot) : Prop :=
  x.st = .active → ∀ n : Nat, vf = some n → ∀ vt : Nat, r.targetOf x.average = some vt →
    x.vt = some vt ∧ x.duty = gaugeDuty vt n ∧ x.under = decide (n ≤ vt)

theorem GaugeSlot.Computed.of_inactive {r : GaugeRec} {vf : Option Nat} {x : GaugeSlot} (h : x.st ≠ .active) :
    x.Computed r vf := fun ha => absurd ha h

theorem GaugeSlot.shaped_reset (r : GaugeRec) : GaugeSlot.reset.Shaped r := ⟨fun _ => rfl, fun h => absurd rfl h, rfl⟩

/-- A slot outside OFF moves, outside OFF. -/
theorem GaugeSlot.Shaped.on {r : GaugeRec} {x y : GaugeSlot} (h : x.Shaped r) (hx : x.st ≠ .off) (hy : y.st ≠ .off)
    (ha : y.average = averageOf y.ring) : y.Shaped r := ⟨fun hoff => absurd hoff hy, fun _ => h.enabled hx, ha⟩

/-! ### Every slot, and the GAUGE channels -/

/-- What a channel's demand is (R38). -/
def Chan.shown (ch : Chan) : Nat × DemandSource := (ch.demand, ch.source)

/-- The gauge slots and the GAUGE channels as they should stand, the slots of `D` with their duty computed. -/
structure State.GaugesHold (s : State) (D : GaugeId → Prop) : Prop where
  wired : s.Wired
  bindings : s.cfg.BindingsMeet
  shaped : ∀ g : GaugeId, (s.gauge g).Shaped (s.gaugeRec g)
  computed : ∀ g : GaugeId, D g → (s.gauge g).Computed (s.gaugeRec g) s.sup.vf
  bound : ∀ (g : GaugeId) (c : Channel), (s.gaugeRec g).bound = some c → (s.chan c).shown = ((s.gauge g).duty, .steady)
  unbound : ∀ c : Channel, (s.chRec c).kind = .gauge → (∀ g : GaugeId, (s.gaugeRec g).bound ≠ some c) →
    (s.chan c).shown = (0, .steady)

/-- Every slot is in OFF while filtered IGN is inactive (R142). -/
def State.GaugesOff (s : State) : Prop := (s.input .ign).filtered ≠ some true → ∀ g : GaugeId, (s.gauge g).st = .off

theorem State.gaugesComputed_iff {s : State} (hw : s.Wired) :
    s.GaugesComputed ↔ s.GaugesHold (fun _ => True) ∧ s.GaugesOff := by
  constructor
  · rintro ⟨hoff, hreset, henabled, haverage, hcomputed, hsingle, hbound, hunbound⟩
    refine ⟨⟨hw, ⟨hw.bound, fun g => (henabled g).1, hsingle⟩, fun g => ⟨hreset g, (henabled g).2, haverage g⟩,
      fun g _ ha n hn vt hvt => hcomputed g n ha hn vt ?_, fun g c hb => ?_, fun c hk hc => ?_⟩, hoff⟩
    · exact hvt
    · exact Prod.ext (hbound g c hb).1 (hbound g c hb).2
    · exact Prod.ext (hunbound c hk hc).1 (hunbound c hk hc).2
  · rintro ⟨h, hoff⟩
    refine ⟨hoff, fun g => (h.shaped g).off, fun g => ⟨h.bindings.enabled g, (h.shaped g).enabled⟩,
      fun g => (h.shaped g).average, fun g n ha hn vt hvt => h.computed g trivial ha n hn vt ?_, h.bindings.single,
      fun g c hb => Prod.ext_iff.mp (h.bound g c hb), fun c hk hc => Prod.ext_iff.mp (h.unbound c hk hc)⟩
    exact hvt

namespace State.GaugesHold

variable {s t : State} {D E : GaugeId → Prop}

theorem mono (h : s.GaugesHold D) (hD : ∀ g, E g → D g) : s.GaugesHold E :=
  { h with computed := fun g hg => h.computed g (hD g hg) }

/-- A channel that a slot is bound to is a GAUGE channel, and not the fan's. -/
theorem bound_notFan (h : s.GaugesHold D) {g : GaugeId} {c : Channel} (hb : (s.gaugeRec g).bound = some c) :
    s.isFan c = false := h.wired.gauge_notFan (h.wired.bound g c hb)

/-- The slots and their records stand, the other records being replaced or not. -/
theorem rewired (h : s.GaugesHold D) (hw : t.Wired) (hcfg : t.cfg.gauges = s.cfg.gauges) (hg : t.gauges = s.gauges)
    (hvf : t.sup.vf = s.sup.vf)
    (hb : ∀ (g : GaugeId) (c : Channel), (s.gaugeRec g).bound = some c → (t.chan c).shown = (s.chan c).shown)
    (hu : ∀ c : Channel, (t.chRec c).kind = .gauge → (∀ g : GaugeId, (s.gaugeRec g).bound ≠ some c) →
      (t.chan c).shown = (0, .steady)) : t.GaugesHold D := by
  have hrec (g : GaugeId) : t.gaugeRec g = s.gaugeRec g := by
    unfold State.gaugeRec
    rw [hcfg]
  have hslot (g : GaugeId) : t.gauge g = s.gauge g := by
    unfold State.gauge
    rw [hg]
  refine ⟨hw, ⟨hw.bound, ?_, ?_⟩, fun g => ?_, fun g hD => ?_, fun g c hgc => ?_, fun c hk hc => ?_⟩
  · rw [hcfg]
    exact h.bindings.enabled
  · rw [hcfg]
    exact h.bindings.single
  · rw [hslot, hrec]
    exact h.shaped g
  · rw [hslot, hrec, hvf]
    exact h.computed g hD
  · rw [hrec] at hgc
    rw [hslot, hb g c hgc]
    exact h.bound g c hgc
  · exact hu c hk fun g => hrec g ▸ hc g

/-- The slots, the records and the GAUGE channels' demands stand. -/
theorem same (h : s.GaugesHold D) (hcfg : t.cfg = s.cfg) (hg : t.gauges = s.gauges) (hvf : t.sup.vf = s.sup.vf)
    (hc : ∀ c : Channel, (s.chRec c).kind = .gauge → (t.chan c).shown = (s.chan c).shown) : t.GaugesHold D := by
  refine h.rewired (h.wired.congr hcfg) (by rw [hcfg]) hg hvf (fun g c hb => hc c (h.wired.bound g c hb)) fun c hk hb => ?_
  rw [State.chRec_congr hcfg] at hk
  rw [hc c hk]
  exact h.unbound c hk hb

/-- A slot's value moves, its duty standing. -/
theorem setGauge (h : s.GaugesHold D) {g : GaugeId} {v : GaugeSlot} (hv : v.Shaped (s.gaugeRec g))
    (hd : v.duty = (s.gauge g).duty) (hE : ∀ o : GaugeId, o ≠ g → E o → D o)
    (hc : E g → v.Computed (s.gaugeRec g) s.sup.vf) : (s.setGauge g v).GaugesHold E := by
  refine ⟨State.Wired.congr (s := s) rfl h.wired, h.bindings, fun o => ?_, fun o ho => ?_, fun o c hb => ?_, h.unbound⟩
  · rw [State.gauge_setGauge]
    split
    · rename_i he
      exact he ▸ hv
    · exact h.shaped o
  · rw [State.gauge_setGauge]
    split
    · rename_i he
      exact he ▸ hc (he ▸ ho)
    · rename_i he
      exact h.computed o (hE o (Ne.symm he) ho)
  · rw [State.gauge_setGauge]
    split
    · rename_i he
      obtain rfl := he
      rw [hd]
      exact h.bound g c hb
    · exact h.bound o c hb

end State.GaugesHold

/-! ### A duty written -/

theorem State.gaugeWrite_gauge (s : State) (g o : GaugeId) (d : Nat) :
    (s.gaugeWrite g d).gauge o = if g = o then { s.gauge g with duty := d } else s.gauge o := by
  have hg : (s.gaugeWrite g d).gauges = (s.setGauge g { s.gauge g with duty := d }).gauges := by
    unfold State.gaugeWrite
    dsimp only
    split
    · rfl
    · exact (State.OutputMoves.releaseIfDue _ _).gauges
  rw [← State.gauge_setGauge]
  exact congrArg (fun x : PerGauge GaugeSlot => x.get o) hg

/-- The bound channel shows the duty, STEADY; the other GAUGE channels are left (R152). -/
theorem State.gaugeWrite_shown {s : State} (g : GaugeId) (d : Nat) {c : Channel} (hc : s.isFan c = false) :
    ((s.gaugeWrite g d).chan c).shown = if (s.gaugeRec g).bound = some c then (d, .steady) else (s.chan c).shown := by
  unfold State.gaugeWrite
  dsimp only
  split
  · rename_i hb
    rw [hb, if_neg (by simp)]
    rfl
  · rename_i b hb
    have hrel := (State.OutputMoves.releaseIfDue (((s.setGauge g { s.gauge g with duty := d }).writeDemand b d
      .steady).modChan b fun ch => { ch with stop := false, present := false }) b).written c hc
    refine (congrArg (fun y : Nat × DemandSource × Bool × Bool => (y.1, y.2.1)) hrel).trans ?_
    rw [State.chan_modChan]
    by_cases he : b = c
    · subst he
      simp [Chan.written, hb]
    · rw [if_neg he, if_neg (fun hc => he (Option.some.inj (hb.symm.trans hc))), State.writeDemand_chan, if_neg he]
      rfl

/-- A slot's value moves and its duty is written. -/
theorem State.GaugesHold.gaugeWrite {s : State} {D E : GaugeId → Prop} (h : s.GaugesHold D) {g : GaugeId} {x : GaugeSlot}
    {d : Nat} (hv : GaugeSlot.Shaped (s.gaugeRec g) { x with duty := d }) (hE : ∀ o : GaugeId, o ≠ g → E o → D o)
    (hc : E g → GaugeSlot.Computed (s.gaugeRec g) s.sup.vf { x with duty := d }) :
    ((s.setGauge g x).gaugeWrite g d).GaugesHold E := by
  have hcfg : ((s.setGauge g x).gaugeWrite g d).cfg = s.cfg := (State.GaugeMoves.gaugeWrite (s.setGauge g x) g d).cfg
  have hsup : ((s.setGauge g x).gaugeWrite g d).sup = s.sup := (State.GaugeMoves.gaugeWrite (s.setGauge g x) g d).sup
  have hslot (o : GaugeId) :
      ((s.setGauge g x).gaugeWrite g d).gauge o = if g = o then { x with duty := d } else s.gauge o := by
    rw [State.gaugeWrite_gauge, State.gauge_setGauge, if_pos rfl, State.gauge_setGauge]
    split <;> rfl
  have hshown (c : Channel) (hk : (s.chRec c).kind = .gauge) : (((s.setGauge g x).gaugeWrite g d).chan c).shown =
      if (s.gaugeRec g).bound = some c then (d, .steady) else (s.chan c).shown :=
    State.gaugeWrite_shown (s := s.setGauge g x) g d (h.wired.gauge_notFan hk)
  generalize (s.setGauge g x).gaugeWrite g d = t at *
  have hrec (o : GaugeId) : t.gaugeRec o = s.gaugeRec o := by
    unfold State.gaugeRec
    rw [hcfg]
  refine ⟨h.wired.congr hcfg, hcfg ▸ h.bindings, fun o => ?_, fun o ho => ?_, fun o c hb => ?_, fun c hk hb => ?_⟩
  · rw [hslot, hrec]
    split
    · rename_i he
      exact he ▸ hv
    · exact h.shaped o
  · rw [hslot, hrec, hsup]
    split
    · rename_i he
      exact he ▸ hc (he ▸ ho)
    · rename_i he
      exact h.computed o (hE o (Ne.symm he) ho)
  · rw [hrec] at hb
    rw [hslot, hshown c (h.wired.bound o c hb)]
    by_cases he : g = o
    · subst he
      rw [if_pos hb, if_pos rfl]
    · rw [if_neg he, if_neg fun hg : (s.gaugeRec g).bound = some c => he (h.bindings.single g o c hg hb)]
      exact h.bound o c hb
  · rw [State.chRec_congr hcfg] at hk
    rw [hshown c hk, if_neg fun hg => hb g (by rw [hrec]; exact hg)]
    exact h.unbound c hk fun o => by
      rw [← hrec]
      exact hb o

namespace State.GaugesHold

variable {s : State} {D E : GaugeId → Prop} {g : GaugeId}

theorem raise (h : s.GaugesHold D) (k : EventKind) : (s.raise k).GaugesHold D :=
  h.same (by simp) (by simp) (by simp) fun c _ => by
    unfold State.chan
    rw [show (s.raise k).chans = s.chans by simp]

/-- A slot's value moves, its duty standing, and the slot recomputes (R150, R151). -/
theorem gaugeRecompute (h : s.GaugesHold D) (hE : ∀ o : GaugeId, o ≠ g → E o → D o) :
    (s.gaugeRecompute g).GaugesHold E := by
  have hstay (hno : ∀ vt vf, s.gaugeTarget g = some vt → s.sup.vf = some vf → (s.gauge g).st ≠ .active) :
      s.GaugesHold E := by
    refine { h with computed := fun o ho => ?_ }
    by_cases he : o = g
    · subst he
      exact fun ha n hn vt hvt => absurd ha (hno vt n hvt hn)
    · exact h.computed o (hE o he ho)
  unfold State.gaugeRecompute
  split
  · rename_i vt vf hvt hvf
    by_cases ha : (s.gauge g).st = .active
    · rw [if_pos ha]
      have hshape := h.shaped g
      have ht : ((s.setGauge g { s.gauge g with vt := some vt, under := gaugeUnder vt vf }).gaugeWrite g
          (gaugeDuty vt vf)).GaugesHold E := by
        refine h.gaugeWrite (hshape.on (by simp [ha]) (by simp [ha]) hshape.average) hE fun _ _ n hn v hv => ?_
        have hv' : s.gaugeTarget g = some v := hv
        obtain rfl : vt = v := Option.some.inj (hvt.symm.trans hv')
        obtain rfl : vf = n := Option.some.inj (hvf.symm.trans hn)
        exact ⟨rfl, rfl, rfl⟩
      dsimp only
      split
      · exact ht
      · exact ht.raise _
    · rw [if_neg ha]
      exact hstay fun _ _ _ _ => ha
  · rename_i hno
    exact hstay fun vt vf hvt hvf => absurd hvf (hno vt vf hvt)

/-- Vf has changed: every slot recomputes (R114). -/
theorem gaugesRecompute (h : s.GaugesHold D) : s.gaugesRecompute.GaugesHold fun _ => True := by
  have h1 : (s.gaugeRecompute .g1).GaugesHold (· = .g1) := h.gaugeRecompute fun o ho he => absurd he ho
  have h2 : ((s.gaugeRecompute .g1).gaugeRecompute .g2).GaugesHold fun o => o = .g1 ∨ o = .g2 :=
    h1.gaugeRecompute fun o ho he => he.resolve_right ho
  exact h2.gaugeRecompute fun o ho _ => by cases o <;> simp_all

/-! ### The states of a slot -/

variable (h : s.GaugesHold fun _ => True)
include h

theorem gaugeRest (hon : (s.gauge g).st ≠ .off) : (s.gaugeRest g).GaugesHold fun _ => True := by
  refine State.GaugesHold.raise ?_ _
  exact h.gaugeWrite ((h.shaped g).on hon (by simp) (h.shaped g).average) (fun _ _ _ => trivial) fun _ =>
    .of_inactive (by simp)

theorem gaugeFault (hon : (s.gauge g).st ≠ .off) : (s.gaugeFault g).GaugesHold fun _ => True := by
  unfold State.gaugeFault
  have ht : (s.setGauge g { s.gauge g with
      st := .faultHold, recoveryRun := 0, timer := some (s.gaugeRec g).faultHold }).GaugesHold fun _ => True :=
    h.setGauge ((h.shaped g).on hon (by simp) (h.shaped g).average) rfl (fun _ _ _ => trivial) fun _ =>
      .of_inactive (by simp)
  refine ClaimInvariant.of_ite (P := fun t : State => t.GaugesHold fun _ => True) (fun _ => ?_) (ht.raise _)
  refine (ht.raise _).gaugeRest ?_
  unfold State.gauge
  rw [State.raise_keep (·.gauges) fun _ _ => rfl]
  simp [PerGauge_get_set]

theorem gaugeRecover (hon : (s.gauge g).st ≠ .off) : (s.gaugeRecover g).GaugesHold fun _ => True := by
  unfold State.gaugeRecover
  extract_lets v
  refine State.GaugesHold.raise (State.GaugesHold.gaugeRecompute (D := (· ≠ g)) ?_ fun _ ho _ => ho) _
  refine h.setGauge ((h.shaped g).on hon (by simp) ?_) rfl (fun _ _ _ => trivial) fun hne => absurd rfl hne
  cases v <;> rfl

theorem gaugeEnter (hon : (s.gauge g).st ≠ .off) (v : Nat) : (s.gaugeEnter g v).GaugesHold fun _ => True := by
  unfold State.gaugeEnter
  extract_lets ring
  refine State.GaugesHold.gaugeRecompute (D := (· ≠ g)) ?_ fun _ ho _ => ho
  refine h.setGauge ((h.shaped g).on hon hon ?_) rfl (fun _ _ _ => trivial) fun hne => absurd rfl hne
  have hring : ring ≠ [] := by simp [ring, ringEnter]
  simp [averageOf, hring]

/-- The runs of a slot move (R144). -/
theorem gaugeCount (hon : (s.gauge g).st ≠ .off) {v : GaugeSlot}
    (hv : v = { s.gauge g with faultRun := v.faultRun, recoveryRun := v.recoveryRun }) :
    (s.setGauge g v).GaugesHold fun _ => True := by
  rw [hv]
  exact h.setGauge ((h.shaped g).on hon hon (h.shaped g).average) rfl (fun _ _ _ => trivial) fun _ => h.computed g trivial

theorem countFaultHold : (s.countFaultHold g).GaugesHold fun _ => True := by
  refine h.setGauge ⟨fun hoff => ?_, (h.shaped g).enabled, (h.shaped g).average⟩ rfl (fun _ _ _ => trivial) fun _ =>
    h.computed g trivial
  rw [(h.shaped g).off hoff]
  rfl

theorem gaugeHold : (s.gaugeHold g).GaugesHold fun _ => True := by
  unfold State.gaugeHold
  split
  · rename_i ha
    exact h.setGauge ((h.shaped g).on (by simp [ha]) (by simp) (h.shaped g).average) rfl (fun _ _ _ => trivial) fun _ =>
      .of_inactive (by simp)
  · exact h

theorem gaugeRelease : (s.gaugeRelease g).GaugesHold fun _ => True := by
  unfold State.gaugeRelease
  split
  · rename_i ha
    refine State.GaugesHold.gaugeRecompute (D := (· ≠ g)) ?_ fun _ ho _ => ho
    exact h.setGauge ((h.shaped g).on (by simp [ha]) (by simp) (h.shaped g).average) rfl (fun _ _ _ => trivial) fun hne =>
      absurd rfl hne
  · exact h

theorem gaugeStart : (s.gaugeStart g).GaugesHold fun _ => True := by
  unfold State.gaugeStart
  split
  · rename_i ha
    obtain ⟨hoff, henabled, -⟩ := ha
    have hreset := (h.shaped g).off hoff
    split
    · exact h.setGauge ⟨fun hst => (nomatch hst), fun _ => henabled, (h.shaped g).average⟩ rfl (fun _ _ _ => trivial) fun _ =>
        .of_inactive (by simp)
    · refine State.GaugesHold.gaugeRecompute (D := (· ≠ g)) ?_ fun _ ho _ => ho
      refine h.setGauge ⟨fun hst => (nomatch hst), fun _ => henabled, ?_⟩ rfl (fun _ _ _ => trivial) fun hne => absurd rfl hne
      rw [hreset]
      rfl
  · exact h

theorem gaugeFinishReading : (s.gaugeFinishReading g).GaugesHold fun _ => True := by
  unfold State.gaugeFinishReading
  split
  · exact h.gaugeFault (DriveInvariant.faultEntryDue_on ‹_›)
  · split
    · exact h.gaugeRecover (DriveInvariant.recoveryDue_on ‹_›)
    · exact h

theorem gaugeStop : (s.gaugeStop g).GaugesHold (fun _ => True) ∧ ((s.gaugeStop g).gauge g).st = .off := by
  unfold State.gaugeStop
  extract_lets t _ u
  have ht : t.GaugesHold fun _ => True := h.gaugeFinishReading
  have hu : u.GaugesHold (fun _ => True) ∧ (u.gauge g).st = .off := by
    refine ⟨ht.gaugeWrite (GaugeSlot.shaped_reset _) (fun _ _ _ => trivial) fun _ => .of_inactive fun hst =>
      (nomatch (show GaugeState.off = .active from hst)), ?_⟩
    rw [State.gaugeWrite_gauge, if_pos rfl, State.gauge_setGauge, if_pos rfl]
    rfl
  split
  · exact ⟨ht, ‹_›⟩
  · split
    · refine ⟨hu.1.raise _, ?_⟩
      unfold State.gauge
      rw [State.raise_keep (·.gauges) fun _ _ => rfl]
      exact hu.2
    · exact hu

end State.GaugesHold
end Sys2Proof.Machine
end

section
/-! SUPPORT. Every step leaves the gauge slots and the GAUGE channels as they should stand (R139 to R152). -/

namespace Sys2Proof.Machine
open Sys2Proof

/-! ### One slot at a time -/

theorem State.raise_gauge (s : State) (k : EventKind) (o : GaugeId) : (s.raise k).gauge o = s.gauge o :=
  s.raise_keep (fun t => t.gauge o) (fun _ _ => rfl) k

section
variable (s : State) {g o : GaugeId} (ho : o ≠ g)
include ho

theorem State.gaugeWrite_other (v : GaugeSlot) (d : Nat) : ((s.setGauge g v).gaugeWrite g d).gauge o = s.gauge o := by
  rw [State.gaugeWrite_gauge, if_neg (Ne.symm ho), State.gauge_setGauge, if_neg (Ne.symm ho)]

theorem State.gaugeRecompute_other : (s.gaugeRecompute g).gauge o = s.gauge o := by
  unfold State.gaugeRecompute
  split
  · dsimp only
    split
    · split
      · exact s.gaugeWrite_other ho _ _
      · rw [State.raise_gauge]
        exact s.gaugeWrite_other ho _ _
    · rfl
  · rfl

theorem State.setGauge_other (v : GaugeSlot) : (s.setGauge g v).gauge o = s.gauge o := by
  rw [State.gauge_setGauge, if_neg (Ne.symm ho)]

theorem State.gaugeRest_other : (s.gaugeRest g).gauge o = s.gauge o := by
  unfold State.gaugeRest
  rw [State.raise_gauge]
  exact s.gaugeWrite_other ho _ _

theorem State.gaugeFinishReading_other : (s.gaugeFinishReading g).gauge o = s.gauge o := by
  unfold State.gaugeFinishReading
  split
  · unfold State.gaugeFault
    dsimp only
    split
    · rw [State.gaugeRest_other _ ho, State.raise_gauge, State.setGauge_other _ ho]
    · rw [State.raise_gauge, State.setGauge_other _ ho]
  · split
    · unfold State.gaugeRecover
      rw [State.raise_gauge, State.gaugeRecompute_other _ ho, State.setGauge_other _ ho]
    · rfl

theorem State.gaugeStop_other : (s.gaugeStop g).gauge o = s.gauge o := by
  have ht := s.gaugeFinishReading_other ho
  have hu := (State.gaugeWrite_other (s.gaugeFinishReading g) ho
    { GaugeSlot.reset with duty := ((s.gaugeFinishReading g).gauge g).duty } 0).trans ht
  unfold State.gaugeStop
  dsimp only
  split
  · exact ht
  · split
    · rw [State.raise_gauge]
      exact hu
    · exact hu

end

/-- A recomputation moves a slot within its state. -/
theorem State.gaugeRecompute_st (s : State) (g o : GaugeId) : ((s.gaugeRecompute g).gauge o).st = (s.gauge o).st := by
  by_cases ho : o = g
  · subst ho
    have hw (b : Bool) (v d : Nat) : (((s.setGauge o { s.gauge o with vt := some v, under := b }).gaugeWrite o d).gauge
        o).st = (s.gauge o).st := by
      rw [State.gaugeWrite_gauge, if_pos rfl, State.gauge_setGauge, if_pos rfl]
    unfold State.gaugeRecompute
    split
    · dsimp only
      split
      · split
        · exact hw _ _ _
        · rw [State.raise_gauge]
          exact hw _ _ _
      · rfl
    · rfl
  · rw [s.gaugeRecompute_other ho]

/-- With filtered IGN inactive every slot is stopped. -/
theorem State.GaugesHold.ignition {s : State} (h : s.GaugesHold fun _ => True) (l : Bool) :
    (s.gaugesIgnition l).GaugesHold (fun _ => True) ∧ (l = false → ∀ g : GaugeId, ((s.gaugesIgnition l).gauge g).st = .off) := by
  cases l with
  | true =>
    refine ⟨ClaimInvariant.foldl (P := fun t : State => t.GaugesHold fun _ => True) h fun _ _ ht => ht.gaugeStart,
      fun hl => ?_⟩
    cases hl
  | false =>
    have h1 := h.gaugeStop (g := .g1)
    have h2 := h1.1.gaugeStop (g := .g2)
    have h3 := h2.1.gaugeStop (g := .g3)
    have heq : s.gaugesIgnition false = ((s.gaugeStop .g1).gaugeStop .g2).gaugeStop .g3 := by
      simp [State.gaugesIgnition, allGauges]
    rw [heq]
    refine ⟨h3.1, fun _ g => ?_⟩
    cases g with
    | g1 => rw [State.gaugeStop_other _ (by decide), State.gaugeStop_other _ (by decide), h1.2]
    | g2 => rw [State.gaugeStop_other _ (by decide), h2.2]
    | g3 => exact h3.2

/-! ### Recomputations by the composer -/

/-- A channel to which no enabled slot is bound already has what a recomputation writes of it. -/
theorem State.GaugesHold.rewrites_shown {s : State} {D : GaugeId → Prop} (h : s.GaugesHold D) {c : Channel}
    (hk : (s.chRec c).kind = .gauge) : ((s.rewrites c).1, (s.rewrites c).2.1) = (s.chan c).shown := by
  unfold State.rewrites
  rw [if_neg (by simp [h.wired.gauge_notFan hk]), hk]
  by_cases hb : s.gaugeBound c = true
  · simp only [hb, if_true, Chan.shown]
  · simp only [hb]
    by_cases hany : ∃ g : GaugeId, (s.gaugeRec g).bound = some c
    · obtain ⟨g, hg⟩ := hany
      have hoff : (s.gauge g).st = .off := by
        by_contra hon
        exact hb (List.any_eq_true.mpr ⟨g, mem_allGauges g, by simp [(h.shaped g).enabled hon, hg]⟩)
      rw [h.bound g c hg, (h.shaped g).off hoff]
      rfl
    · rw [h.unbound c hk fun g hg => hany ⟨g, hg⟩]
      rfl

theorem State.GaugesHold.recompute {s : State} {D : GaugeId → Prop} (h : s.GaugesHold D) (c : Channel) :
    (s.recompute c).GaugesHold D := by
  have hsrc := s.recompute_sources c
  refine h.same (congrArg Prod.fst hsrc) (congrArg (·.2.2.2.2.2) hsrc) (congrArg (·.2.2.2.2.1.vf) hsrc) fun d hk => ?_
  have hw := congrArg (fun y : Nat × DemandSource × Bool × Bool => (y.1, y.2.1))
    (s.recompute_written c (h.wired.gauge_notFan hk))
  refine Eq.trans hw ?_
  by_cases hd : d = c
  · subst hd
    rw [if_pos rfl]
    exact h.rewrites_shown hk
  · rw [if_neg hd]
    rfl

namespace State.GaugesHold

variable {s t : State} {D : GaugeId → Prop} (h : s.GaugesHold D)
include h

theorem recomputeWhere (q : Channel → Bool) : (s.recomputeWhere q).GaugesHold D :=
  ClaimInvariant.foldl (P := fun t : State => t.GaugesHold D) h fun _ c ht => ht.recompute c

/-- An action of the output stage and of the fan unit, T aside. -/
theorem output (k : s.OutputMoves t) : t.GaugesHold D :=
  h.same k.cfg k.gauges (by rw [k.sup]) fun c hk =>
    congrArg (fun y : Nat × DemandSource × Bool × Bool => (y.1, y.2.1)) (k.written c (h.wired.gauge_notFan hk))

theorem setFlash (v : Flash) : (s.setFlash v).GaugesHold D := h.same rfl rfl rfl fun _ _ => rfl

theorem retargeted : s.retargeted.GaugesHold D := h.same rfl rfl rfl fun _ _ => rfl

theorem setSup {v : Supervisor} (hv : v.vf = s.sup.vf) : (s.setSup v).GaugesHold D := h.same rfl rfl hv fun _ _ => rfl

theorem flashTest : s.flashTest.GaugesHold D := by
  unfold State.flashTest
  split
  · split
    · exact h.setFlash _
    all_goals exact h
  · split
    · exact h
    all_goals exact (h.setFlash _).recomputeWhere _

theorem reevaluate (f : Fn) : (s.reevaluate f).GaugesHold D := by
  refine ClaimInvariant.of_ite (P := fun t : State => t.GaugesHold D) (fun _ => h) ?_
  generalize s.evaluated f = v
  have ht : (s.setResult f v).GaugesHold D := h.same rfl rfl rfl fun _ _ => rfl
  have hu : (if f = .fan then (s.setResult f v).fanRetarget else s.setResult f v).GaugesHold D :=
    ClaimInvariant.of_ite (P := fun t : State => t.GaugesHold D)
      (fun _ => ht.retargeted.output (State.retargeted_moves _)) ht
  exact ClaimInvariant.of_ite (P := fun t : State => t.GaugesHold D)
    (fun _ => (hu.recomputeWhere _).flashTest) (hu.recomputeWhere _)

theorem reevaluateAll (l : List Fn) : (s.reevaluateAll l).GaugesHold D :=
  ClaimInvariant.foldl (P := fun t : State => t.GaugesHold D) h fun _ f ht => ht.reevaluate f

/-- The generator's change of phase, taken by the composer (R92). -/
theorem phase (ht : ∃ u : State, t = u.composeFollowers ∧ u.unflashed = s.unflashed ∧ u.flashActive = true)
    (hg : t.gauges = s.gauges) : t.GaugesHold D := by
  obtain ⟨u, rfl, hu, -⟩ := ht
  have hsrc := u.recomputeWhere_sources u.follows
  have hug : u.gauges = s.gauges := (congrArg (·.2.2.2.2.2) hsrc).symm.trans hg
  refine (h.same (congrArg Prod.fst hu) hug (congrArg (·.2.2.2.2.vf) hu) fun c _ => ?_).recomputeWhere _
  exact congrArg (fun x => (x.2.2.1[c]).shown) hu

theorem setShed (n : Nat) : (s.setShed n).GaugesHold D := by
  unfold State.setShed
  extract_lets _ t
  have ht : t.GaugesHold D := (h.setSup (by rfl)).raise _
  exact (ht.reevaluateAll Fn.all).retargeted.output (State.fanShed_moves _ _)

end State.GaugesHold

/-! ### The property of a step -/

/-- The gauge slots and the GAUGE channels stand as they should, and in OFF while filtered IGN is inactive. -/
def State.GaugesStand (s : State) : Prop := s.GaugesHold (fun _ => True) ∧ s.GaugesOff

namespace State.GaugesStand

variable {s t : State} (h : s.GaugesStand)
include h

/-- A slot outside OFF says that filtered IGN is active. -/
theorem ign_of_on {g : GaugeId} (hon : (s.gauge g).st ≠ .off) : (s.input .ign).filtered = some true := by
  by_contra hi
  exact hon (h.2 hi g)

/-- An action on a slot outside OFF. -/
theorem on {g : GaugeId} (hon : (s.gauge g).st ≠ .off) (ht : t.GaugesHold fun _ => True) (hin : t.inputs = s.inputs) :
    t.GaugesStand := by
  refine ⟨ht, fun hi => absurd ?_ hi⟩
  unfold State.input
  rw [hin]
  exact h.ign_of_on hon

/-- An action that leaves the inputs, and the slots in OFF in OFF. -/
theorem kept (ht : t.GaugesHold fun _ => True) (hin : t.inputs = s.inputs)
    (hoff : ∀ g : GaugeId, (s.gauge g).st = .off → (t.gauge g).st = .off) : t.GaugesStand := by
  refine ⟨ht, fun hi g => hoff g (h.2 ?_ g)⟩
  unfold State.input at hi ⊢
  rwa [hin] at hi

/-- An action that leaves the inputs and the slots. -/
theorem slots (ht : t.GaugesHold fun _ => True) (hin : t.inputs = s.inputs) (hg : t.gauges = s.gauges) : t.GaugesStand :=
  h.kept ht hin fun g hoff => by
    unfold State.gauge at hoff ⊢
    rwa [hg]

theorem output (k : s.OutputMoves t) : t.GaugesStand := h.slots (h.1.output k) k.inputs k.gauges

/-- Fields that the gauge unit does not read. -/
theorem free (hcfg : t.cfg = s.cfg) (hin : t.inputs = s.inputs) (hg : t.gauges = s.gauges) (hvf : t.sup.vf = s.sup.vf)
    (hc : t.chans = s.chans) : t.GaugesStand :=
  h.slots (h.1.same hcfg hg hvf fun c _ => by unfold State.chan; rw [hc]) hin hg

/-- The crank state moves, and the fan unit takes the change (R165). -/
theorem crank {v : Supervisor} {f : State → State} (hv : v.vf = s.sup.vf) (hf : ∀ u : State, u.OutputMoves (f u)) :
    (f ((s.setSup v).raise .crank)).GaugesStand := by
  have ht : (s.setSup v).GaugesStand := h.free rfl rfl rfl hv rfl
  exact ht.output ((hf _).after (.raise (s.setSup v) .crank))

theorem setInput (i : InputId) (v : Input) (hi : i = .ign → v.filtered = (s.input .ign).filtered) :
    (s.setInput i v).GaugesStand := by
  refine ⟨h.1.same rfl rfl rfl fun _ _ => rfl, fun hign => h.2 ?_⟩
  rw [State.input_setInput] at hign
  split at hign
  · rename_i he
    rwa [hi he] at hign
  · exact hign

/-- Vf changes and the slots recompute (R114, R151). -/
theorem filter (n : Nat) : ((s.setSup { s.sup with vf := some n }).gaugesRecompute).GaugesStand := by
  have ht : (s.setSup { s.sup with vf := some n }).GaugesHold fun _ => False := by
    obtain ⟨hw, hb, hshaped, -, hbound, hunbound⟩ := h.1
    exact ⟨State.Wired.congr (s := s) rfl hw, hb, hshaped, fun _ hf => hf.elim, hbound, hunbound⟩
  generalize hu : s.setSup { s.sup with vf := some n } = u at ht ⊢
  refine h.kept ht.gaugesRecompute ((State.GaugeMoves.gaugesRecompute u).inputs.trans (hu ▸ rfl)) fun g hoff => ?_
  change ((((u.gaugeRecompute .g1).gaugeRecompute .g2).gaugeRecompute .g3).gauge g).st = .off
  rw [State.gaugeRecompute_st, State.gaugeRecompute_st, State.gaugeRecompute_st, ← hu]
  exact hoff

/-- At a wake Vf is discarded or stands (R123). -/
theorem woken : (s.setSup s.sup.woken).GaugesStand := by
  obtain ⟨⟨hw, hb, hshaped, hcomputed, hbound, hunbound⟩, hoff⟩ := h
  refine ⟨⟨State.Wired.congr (s := s) rfl hw, hb, hshaped, fun g _ ha n hn vt hvt => ?_, hbound, hunbound⟩, hoff⟩
  refine hcomputed g trivial ha n ?_ vt hvt
  change s.sup.woken.vf = some n at hn
  unfold Supervisor.woken at hn
  cases hc : s.sup.crank <;> simp_all

/-- Filtered IGN changes: the functions gated by it are re-evaluated, and the slots start or stop (R11, R142). -/
theorem ign {v : Input} {l : Bool} (hl : v.filtered = some l) :
    ((s.setInput .ign v).ignitionChanged.gaugesIgnition l).GaugesStand := by
  have ht : (s.setInput .ign v).GaugesHold fun _ => True := h.1.same rfl rfl rfl fun _ _ => rfl
  have hu : (s.setInput .ign v).ignitionChanged.GaugesHold fun _ => True := ht.reevaluateAll _
  refine ⟨(hu.ignition l).1, fun hi => (hu.ignition l).2 ?_⟩
  have hin : ((s.setInput .ign v).ignitionChanged.gaugesIgnition l).inputs = (s.setInput .ign v).inputs :=
    (State.GaugeMoves.gaugesIgnition _ l).inputs.trans (by simp)
  have hfiltered : (((s.setInput .ign v).ignitionChanged.gaugesIgnition l).input .ign).filtered = some l := by
    unfold State.input
    rw [hin]
    exact hl
  rw [hfiltered] at hi
  simpa using hi

/-! ### Records -/

omit h in
/-- What is written of a channel that a CHANNEL record does not recompute stands. -/
theorem applyChannel_shown {x : Channel × ChannelRec} {c : Channel} (hf : s.isFan c = false) :
    ((s.applyChannel x).chan c).shown =
      if c = x.1 ∧ x.2.kind ≠ (s.chRec x.1).kind then
        (((s.withChannelRec x).rewrites c).1, ((s.withChannelRec x).rewrites c).2.1)
      else (s.chan c).shown := by
  have hview {a b : Chan} (hab : a.written = b.written) : a.shown = b.shown :=
    congrArg (fun y : Nat × DemandSource × Bool × Bool => (y.1, y.2.1)) hab
  rw [State.applyChannel_eq]
  by_cases hk : x.2.kind = (s.chRec x.1).kind
  · rw [if_pos hk, if_neg fun hx => hx.2 hk]
    exact hview ((State.OutputMoves.resetHealth (s.withChannelRec x) x.1).written c hf)
  · have hrec := State.recompute_written (s.withChannelRec x) x.1 (d := c) hf
    have hreset := (State.OutputMoves.resetHealth ((s.withChannelRec x).recompute x.1) x.1).written c
      ((State.isFan_congr (congrArg Prod.fst ((s.withChannelRec x).recompute_sources x.1)) c).trans hf)
    rw [if_neg hk, hview hreset]
    by_cases hc : c = x.1
    · subst hc
      rw [if_pos ⟨rfl, hk⟩]
      rw [if_pos rfl] at hrec
      exact congrArg (fun y : Nat × DemandSource × Bool × Bool => (y.1, y.2.1)) hrec
    · rw [if_neg fun hx => hc hx.1]
      rw [if_neg hc] at hrec
      exact hview hrec

omit h in
theorem applyChannel_sources (x : Channel × ChannelRec) : (s.applyChannel x).sources = (s.withChannelRec x).sources := by
  rw [State.applyChannel_eq, (State.OutputMoves.resetHealth _ _).sources]
  split
  · rfl
  · exact State.recompute_sources ..

/-- A CHANNEL record comes (R44, R45): a channel that becomes a GAUGE channel has no slot bound to it. -/
theorem newChannel {x : Channel × ChannelRec} {w : WChannel} {b : Bool} (hv : s.checkChannel w = .accepted x b) :
    (s.applyChannel x).GaugesStand := by
  have hw := h.1.wired.withChannelRec hv
  have hsrc := applyChannel_sources (s := s) x
  have hkind {c : Channel} (hk : ((s.withChannelRec x).chRec c).kind = .gauge) (hc : ¬ (c = x.1 ∧ x.2.kind ≠ (s.chRec x.1).kind)) :
      (s.chRec c).kind = .gauge := by
    rw [State.withChannelRec_chRec] at hk
    split at hk
    · rename_i he
      rw [he]
      by_contra hne
      exact hc ⟨he, fun hx => hne (hx.symm.trans hk)⟩
    · exact hk
  refine h.slots (h.1.rewired (hw.congr (s.applyChannel_cfg x)) (congrArg (·.1.gauges) hsrc)
    (congrArg (·.2.2.2.2.2) hsrc) (congrArg (·.2.2.2.2.1.vf) hsrc) (fun g c hb => ?_) fun c hk hb => ?_)
    (congrArg (·.2.2.1) hsrc) (congrArg (·.2.2.2.2.2) hsrc)
  · rw [applyChannel_shown (h.1.bound_notFan hb), if_neg]
    rintro ⟨rfl, hne⟩
    have hnew := hw.bound g x.1 hb
    rw [State.withChannelRec_chRec, if_pos rfl] at hnew
    exact hne (hnew.trans (h.1.wired.bound g x.1 hb).symm)
  · rw [State.chRec_congr (s.applyChannel_cfg x)] at hk
    have hf : s.isFan c = false := hw.gauge_notFan hk
    rw [applyChannel_shown hf]
    split
    · have hnone : (s.withChannelRec x).gaugeBound c = false := by
        refine List.any_eq_false.mpr fun g _ => ?_
        rw [Bool.and_eq_true, beq_iff_eq]
        exact fun hg => hb g hg.2
      have hf' : (s.withChannelRec x).isFan c = false := hf
      simp [State.rewrites, hf', hk, hnone]
    · exact h.1.unbound c (hkind hk ‹_›) hb

/-- A MAP record comes. -/
theorem newMap {x : Fin 32 × Option MapEntry} (hw : (s.withEntry x).Wired) : (s.applyMap x).GaugesStand := by
  have ht : (s.withEntry x).GaugesHold fun _ => True :=
    h.1.rewired hw rfl rfl rfl (fun _ _ _ => rfl) fun c hk hb => h.1.unbound c hk hb
  have hsrc := (s.withEntry x).recomputeWhere_sources (s.mapTouches x)
  have hmoves := State.OutputMoves.fanChannelChanged ((s.withEntry x).recomputeWhere (s.mapTouches x)) s.fanChannel
  rw [State.applyMap_eq]
  exact h.slots ((ht.recomputeWhere _).output hmoves) (hmoves.inputs.trans (congrArg (·.2.2.1) hsrc))
    (hmoves.gauges.trans (congrArg (·.2.2.2.2.2) hsrc))

/-- A FAN record comes. -/
theorem newFan (r : FanRec) : (s.applyFan r).GaugesStand := by
  have ht : (s.setCfg { s.cfg with fan := r }).retargeted.GaugesHold fun _ => True :=
    h.1.rewired (State.Wired.congr' (s := s) rfl rfl (fun _ => rfl) h.1.wired) rfl rfl rfl (fun _ _ _ => rfl)
      fun c hk hb => h.1.unbound c hk hb
  have hmoves := s.applyFan_moves r
  exact h.slots (ht.output hmoves) hmoves.inputs hmoves.gauges

/-- With filtered IGN inactive every slot is at its reset values, and every GAUGE channel has the demand 0. -/
theorem idle (hi : s.filtered .ign = false) : (∀ g : GaugeId, s.gauge g = GaugeSlot.reset) ∧
    ∀ c : Channel, (s.chRec c).kind = .gauge → (s.chan c).shown = (0, .steady) := by
  have hslot (g : GaugeId) : s.gauge g = GaugeSlot.reset :=
    (h.1.shaped g).off (h.2 (by simpa [State.filtered] using hi) g)
  refine ⟨hslot, fun c hk => ?_⟩
  by_cases hb : ∃ g : GaugeId, (s.gaugeRec g).bound = some c
  · obtain ⟨g, hg⟩ := hb
    rw [h.1.bound g c hg, hslot g]
    rfl
  · exact h.1.unbound c hk fun g hg => hb ⟨g, hg⟩

/-- GAUGE records come while filtered IGN is inactive (R185): no slot has anything computed. -/
theorem regauged (hi : s.filtered .ign = false) {v : PerGauge GaugeRec}
    (hw : (s.setCfg { s.cfg with gauges := v }).Wired) (hb : Working.BindingsMeet { s.cfg with gauges := v }) :
    (s.setCfg { s.cfg with gauges := v }).GaugesStand := by
  obtain ⟨hslot, hshown⟩ := h.idle hi
  have hgauge (g : GaugeId) : (s.setCfg { s.cfg with gauges := v }).gauge g = GaugeSlot.reset := hslot g
  refine ⟨⟨hw, hb, fun g => ?_, fun g _ => ?_, fun g c hc => ?_, fun c hk _ => hshown c hk⟩, h.2⟩
  · rw [hgauge]
    exact GaugeSlot.shaped_reset _
  · rw [hgauge]
    exact GaugeSlot.Computed.of_inactive (by decide)
  · rw [hgauge]
    exact hshown c (hb.gauge g c hc)

theorem newGauge {x : GaugeId × GaugeRec} {w : WGauge} {b : Bool} (hi : s.filtered .ign = false)
    (hv : s.checkGauge w = .accepted x b) : (s.applyGauge x).GaugesStand := by
  have ht : (s.withGaugeRec x).GaugesStand := h.regauged hi (h.1.wired.withGaugeRec hv)
    (h.1.bindings.set (State.checkGauge_accepted hv).1 rfl rfl)
  rw [State.applyGauge_eq]
  split
  · exact ht
  · rename_i c _
    split
    · exact ht
    · have hsrc := (s.withGaugeRec x).recompute_sources c
      exact ht.slots (ht.1.recompute c) (congrArg (·.2.2.1) hsrc) (congrArg (·.2.2.2.2.2) hsrc)

theorem retarget (hi : s.filtered .ign = false) (cls : VClass) : (s.retarget cls).GaugesStand := by
  have hrec (g : GaugeId) : ((s.retarget cls).gaugeRec g).bound = (s.gaugeRec g).bound ∧
      ((s.retarget cls).gaugeRec g).enabled = (s.gaugeRec g).enabled := by cases g <;> exact ⟨rfl, rfl⟩
  refine h.regauged hi (State.Wired.congr' (s := s) rfl rfl (fun g => (hrec g).1) h.1.wired) ⟨fun g c hb => ?_, fun g he => ?_,
    fun g o c hg ho => ?_⟩
  · exact h.1.wired.bound g c ((hrec g).1.symm.trans hb)
  · exact fun hb => h.1.bindings.enabled g ((hrec g).2.symm.trans he) ((hrec g).1.symm.trans hb)
  · exact h.1.bindings.single g o c ((hrec g).1.symm.trans hg) ((hrec o).1.symm.trans ho)

end State.GaugesStand

theorem State.GaugesStand.fresh {cfg : Working} (hm : cfg.MapMeets) (hb : cfg.BindingsMeet) (pending : List Instr)
    (store : Store) (power : Power) (ev : EventSet) : (State.fresh pending cfg store power ev).GaugesStand := by
  have hslot (g : GaugeId) : (State.fresh pending cfg store power ev).gauge g = GaugeSlot.reset := by cases g <;> rfl
  refine ⟨⟨⟨hb.gauge, State.mapChecked_iff.mpr hm⟩, hb, fun g => ?_, fun g _ => ?_, fun g c _ => ?_, fun c _ _ => ?_⟩,
    fun _ g => ?_⟩
  · rw [hslot]
    exact GaugeSlot.shaped_reset _
  · rw [hslot]
    exact GaugeSlot.Computed.of_inactive (by decide)
  · rw [hslot, State.fresh_chan]
    rfl
  · rw [State.fresh_chan]
    rfl
  · rw [hslot]
    rfl

/-- Fields that the gauge unit does not read. -/
theorem gaugesStand_free {s t : State} (hcfg : t.cfg = s.cfg) (hin : t.inputs = s.inputs) (hg : t.gauges = s.gauges)
    (hvf : t.sup.vf = s.sup.vf) (hc : t.chans = s.chans) : t.GaugesStand = s.GaugesStand :=
  propext ⟨fun h => h.free hcfg.symm hin.symm hg.symm hvf.symm hc.symm, fun h => h.free hcfg hin hg hvf hc⟩

theorem gaugesStand_drive : DriveInvariant State.GaugesStand where
  pending _ _ := gaugesStand_free rfl rfl rfl rfl rfl
  power _ _ := gaugesStand_free rfl rfl rfl rfl rfl
  clock _ _ := gaugesStand_free rfl rfl rfl rfl rfl
  store _ _ := gaugesStand_free rfl rfl rfl rfl rfl
  storeWrite _ _ := gaugesStand_free rfl rfl rfl rfl rfl
  ports _ _ := gaugesStand_free rfl rfl rfl rfl rfl
  slots _ _ := gaugesStand_free rfl rfl rfl rfl rfl
  claims _ _ := gaugesStand_free rfl rfl rfl rfl rfl
  window _ _ := gaugesStand_free rfl rfl rfl rfl rfl
  gates _ _ := gaugesStand_free rfl rfl rfl rfl rfl
  seq _ _ := gaugesStand_free rfl rfl rfl rfl rfl
  chan s c _ _ hf h := h.output (.modChan s c hf)
  admission s h := h.output (.admitHeads s)
  inrushExpire s c _ h := h.output (.inrushExpire s c)
  coolOffExpire s c _ h := h.output (.coolOffExpire s c)
  trip s c k _ h := h.output (.trip s c k)
  release s c _ h := h.output (.release s c)
  takeUp s h := h.output (.takeUpAll s)
  fanCount _ _ _ h := h.free rfl rfl rfl rfl rfl
  reevaluate _ f h := h.slots (h.1.reevaluate f) (by simp) (by simp)
  enterOn s early _ h := h.slots (h.1.phase (s.enterOn_via early) (by simp)) (by simp) (by simp)
  enterOff s cy early _ h := h.slots (h.1.phase (s.enterOff_via cy early) (by simp)) (by simp) (by simp)
  flash _ _ _ h := h.free rfl rfl rfl rfl rfl
  countFlash _ h := h.free rfl rfl rfl rfl rfl
  sup _ _ _ _ hv h := h.free rfl rfl rfl hv rfl
  filter _ n h := h.filter n
  woken _ h := h.woken
  shed _ n _ h := h.slots (h.1.setShed n) (by simp) (by simp)
  crankIn _ _ h := h.crank rfl State.OutputMoves.fanCrankEntry
  crankOut _ _ h := h.crank rfl State.OutputMoves.fanCrankExit
  gaugeRest s g hon h := h.on hon (h.1.gaugeRest hon) (State.GaugeMoves.gaugeRest s g).inputs
  gaugeFault s g hon h := h.on hon (h.1.gaugeFault hon) (State.GaugeMoves.gaugeFault s g).inputs
  gaugeRecover s g hon h := h.on hon (h.1.gaugeRecover hon) (State.GaugeMoves.gaugeRecover s g).inputs
  gaugeEnter s g v hon h := h.on hon (h.1.gaugeEnter hon v) (State.GaugeMoves.gaugeEnter s g v).inputs
  gaugeCount _ _ _ hon hv h := h.on hon (h.1.gaugeCount hon hv) rfl
  countFaultHold s g h := h.kept h.1.countFaultHold rfl fun o hoff => by
    unfold State.countFaultHold
    rw [State.gauge_setGauge]
    split
    · rename_i he
      exact he ▸ hoff
    · exact hoff
  gaugeHold s g h := h.kept h.1.gaugeHold (State.GaugeMoves.gaugeHold s g).inputs fun o hoff => by
    unfold State.gaugeHold
    split
    · rename_i ha
      rw [State.gauge_setGauge, if_neg fun he => by rw [he, hoff] at ha; cases ha]
      exact hoff
    · exact hoff
  gaugeRelease s g h := h.kept h.1.gaugeRelease (State.GaugeMoves.gaugeRelease s g).inputs fun o hoff => by
    unfold State.gaugeRelease
    split
    · rename_i ha
      rw [State.gaugeRecompute_st, State.gauge_setGauge, if_neg fun he => by rw [he, hoff] at ha; cases ha]
      exact hoff
    · exact hoff
  input _ i v hi h := h.setInput i v hi
  ign _ _ _ hl h := h.ign hl
  cfg s v hch hmap hg _ h := h.slots (h.1.rewired
    (State.Wired.congr' (s := s) hch hmap (fun g => by simp [State.gaugeRec, hg]) h.1.wired) hg rfl rfl (fun _ _ _ => rfl)
    fun c hk hb => h.1.unbound c (by simpa [State.chRec, hch] using hk) hb) rfl rfl
  retarget _ cls hi h := h.retarget hi cls
  newChannel _ _ _ _ hv h := h.newChannel hv
  newMap _ _ _ _ hv h := h.newMap (h.1.wired.withEntry hv)
  newGauge _ _ _ _ hi hv h := h.newGauge hi hv
  newFan _ _ r _ _ h := h.newFan r
  begin s k := .fresh (loadStore_meets s.storeAfterReset).1 (loadStore_meets s.storeAfterReset).2 ..
  brownOut _ h := .fresh (State.mapChecked_iff.mp h.1.wired.map) h.1.bindings ..

end Sys2Proof.Machine
end

section
/-! SUPPORT. The fan unit against its channel (R36, R160 to R167): what fits what, and what each of the fan unit's own
actions leaves. -/

namespace Sys2Proof.Machine
open Sys2Proof

/-- A channel that has tripped and is not yet back (R71). -/
def ChState.Tripped (x : ChState) : Prop := x = .cooling ∨ x = .latched

/-- What a fan writes (R160 to R163, R165, R167). -/
def Fan.demandOf (x : Fan) (kick : Nat) (cs : CrankState) : Nat :=
  match x.st with
  | .stopped | .suspended => 0
  | .starting | .kick => kick
  | .ramp | .running => x.ramp
  | .faulted => if x.target ≠ 0 ∧ cs = .normal then kick else 0

/-- A fan fits its channel. `loose`: the kick duty may have been replaced, and a fan that writes it is still to write the
new one (R157). -/
structure FanFits (loose : Prop) (kick : Nat) (cs : CrankState) (x : Fan) (ch : Chan) : Prop where
  demand : (loose → x.st ≠ .starting ∧ x.st ≠ .kick) → ch.demand = x.demandOf kick cs
  source : ch.source = .steady
  faulted : x.st = .faulted ↔ ch.st.Tripped
  starting : x.st = .starting → ch.st = .off ∨ ch.st = .waiting
  idle : x.target = 0 → x.st = .stopped ∨ x.st = .faulted
  normal : x.target ≠ 0 → cs = .normal → x.st ≠ .stopped ∧ x.st ≠ .suspended
  cranking : x.target ≠ 0 → cs = .crank → x.st = .suspended ∨ x.st = .faulted
  running : x.st = .running → x.ramp = x.target

/-- The fan unit, its channel and the admission queue as they should stand. -/
structure State.FanStands (s : State) (loose : Prop) : Prop where
  without : s.fanChannel = none → s.fan.st = .stopped
  fits : ∀ c : Channel, s.fanChannel = some c → FanFits loose s.cfg.fan.kickDuty s.sup.crank s.fan (s.chan c)
  waits : ∀ c ∈ s.queued, (s.chan c).st = .waiting

theorem State.fanFollows_iff {s : State} (hq : ∀ c ∈ s.queued, (s.chan c).st = .waiting) :
    s.FanFollowsChannel ↔ s.FanStands False := by
  constructor
  · rintro ⟨hwithout, hfits⟩
    refine ⟨hwithout, fun c hc => ?_, hq⟩
    obtain ⟨hdemand, hsource, hfaulted, hstarting, hidle, hnormal, hcrank, hrunning⟩ := hfits c hc
    exact ⟨fun _ => hdemand, hsource, hfaulted, hstarting, hidle, hnormal, hcrank, hrunning⟩
  · rintro ⟨hwithout, hfits, -⟩
    refine ⟨hwithout, fun c hc => ?_⟩
    obtain ⟨hdemand, hsource, hfaulted, hstarting, hidle, hnormal, hcrank, hrunning⟩ := hfits c hc
    exact ⟨hdemand False.elim, hsource, hfaulted, hstarting, hidle, hnormal, hcrank, hrunning⟩

/-! ### A fan that fits -/

namespace FanFits

variable {loose : Prop} {kick : Nat} {cs : CrankState} {x : Fan} {ch : Chan}

/-- What a fan's fit reads. -/
theorem congr {y : Fan} {k : Chan} (h : FanFits loose kick cs x ch) (hst : y.st = x.st) (htarget : y.target = x.target)
    (hramp : y.ramp = x.ramp) (kst : k.st = ch.st) (kd : k.demand = ch.demand) (ks : k.source = ch.source) :
    FanFits loose kick cs y k := by
  have hdemand : y.demandOf kick cs = x.demandOf kick cs := by
    unfold Fan.demandOf
    rw [hst, htarget, hramp]
  obtain ⟨h1, h2, h3, h4, h5, h6, h7, h8⟩ := h
  constructor <;> simp only [hst, htarget, hramp, kst, kd, ks, hdemand] <;> assumption

/-- The channel moves within and between the states that it has without a trip, and STARTING's among them. -/
theorem moved (h : FanFits loose kick cs x ch) {k : Chan} (hch : ¬ ch.st.Tripped) (hk : ¬ k.st.Tripped)
    (hs : x.st = .starting → k.st = .off ∨ k.st = .waiting) (kd : k.demand = ch.demand) (ks : k.source = ch.source) :
    FanFits loose kick cs x k where
  demand hl := kd.trans (h.demand hl)
  source := ks.trans h.source
  faulted := ⟨fun hf => absurd (h.faulted.mp hf) hch, fun hf => absurd hf hk⟩
  starting := hs
  idle := h.idle
  normal := h.normal
  cranking := h.cranking
  running := h.running

/-- A fan outside STOPPED, SUSPENDED and FAULTED has a T above 0 in NORMAL. -/
theorem driven (h : FanFits loose kick cs x ch) (h1 : x.st ≠ .stopped) (h2 : x.st ≠ .suspended) (h3 : x.st ≠ .faulted) :
    x.target ≠ 0 ∧ cs = .normal := by
  have ht : x.target ≠ 0 := fun h0 => (h.idle h0).elim h1 h3
  refine ⟨ht, ?_⟩
  cases hc : cs with
  | normal => rfl
  | crank => exact ((h.cranking ht hc).elim h2 h3).elim

theorem stop (h0 : x.target = 0) (hst : ¬ ch.st.Tripped) (hd : ch.demand = 0) (hs : ch.source = .steady)
    (hx : x.st = .stopped) : FanFits loose kick cs x ch where
  demand _ := by rw [hd, Fan.demandOf, hx]
  source := hs
  faulted := ⟨fun hf => absurd (hx.symm.trans hf) (by decide), fun hf => absurd hf hst⟩
  starting hf := by rw [hx] at hf; cases hf
  idle _ := .inl hx
  normal ht := absurd h0 ht
  cranking ht := absurd h0 ht
  running hf := by rw [hx] at hf; cases hf

theorem suspend (h0 : x.target ≠ 0) (hc : cs = .crank) (hst : ¬ ch.st.Tripped) (hd : ch.demand = 0)
    (hs : ch.source = .steady) (hx : x.st = .suspended) : FanFits loose kick cs x ch where
  demand _ := by rw [hd, Fan.demandOf, hx]
  source := hs
  faulted := ⟨fun hf => absurd (hx.symm.trans hf) (by decide), fun hf => absurd hf hst⟩
  starting hf := by rw [hx] at hf; cases hf
  idle ht := absurd ht h0
  normal _ hn := by rw [hc] at hn; cases hn
  cranking _ _ := .inl hx
  running hf := by rw [hx] at hf; cases hf

/-- A fan driven in NORMAL: STARTING, KICK or RAMP. -/
theorem drive (h0 : x.target ≠ 0) (hc : cs = .normal) (hst : ¬ ch.st.Tripped)
    (hd : ch.demand = x.demandOf kick cs) (hs : ch.source = .steady)
    (hx : x.st = .starting ∧ (ch.st = .off ∨ ch.st = .waiting) ∨ x.st = .kick ∨ x.st = .ramp) :
    FanFits loose kick cs x ch where
  demand _ := hd
  source := hs
  faulted := ⟨fun hf => by rw [hf] at hx; simp at hx, fun hf => absurd hf hst⟩
  starting hf := by
    rw [hf] at hx
    simpa using hx
  idle ht := absurd ht h0
  normal _ _ := by
    constructor <;> intro hf <;> rw [hf] at hx <;> simp at hx
  cranking _ hk := by rw [hc] at hk; cases hk
  running hf := by rw [hf] at hx; simp at hx

theorem fault (hst : ch.st.Tripped) (hd : ch.demand = x.demandOf kick cs) (hs : ch.source = .steady)
    (hx : x.st = .faulted) : FanFits loose kick cs x ch where
  demand _ := hd
  source := hs
  faulted := ⟨fun _ => hst, fun _ => hx⟩
  starting hf := by rw [hx] at hf; cases hf
  idle _ := .inr hx
  normal _ _ := by constructor <;> simp [hx]
  cranking _ _ := .inr hx
  running hf := by rw [hx] at hf; cases hf

end FanFits

/-! ### The fan unit's writes -/

theorem State.faultedDemand_eq (s : State) (h : s.fan.st = .faulted) :
    s.faultedDemand = s.fan.demandOf s.cfg.fan.kickDuty s.sup.crank := by
  unfold State.faultedDemand Fan.demandOf State.cranking
  rw [h]
  cases s.sup.crank <;> simp


/-- The fan unit has moved and written a demand. -/
theorem State.FanStands.wrote {s : State} {loose : Prop} {v : Fan} {d : Nat} {c : Channel} (hc : s.fanChannel = some c)
    (hw : ∀ c ∈ s.queued, (s.chan c).st = .waiting)
    (h : ∀ ch : Chan, ch.st = (s.chan c).st → ch.demand = d → ch.source = .steady →
      FanFits loose s.cfg.fan.kickDuty s.sup.crank v ch) : ((s.setFan v).fanWrite d).FanStands loose := by
  have hwrite : (s.setFan v).fanWrite d = (s.setFan v).writeDemand c d .steady := by
    unfold State.fanWrite
    rw [show (s.setFan v).fanChannel = some c from hc]
  have hst (b : Channel) : (((s.setFan v).writeDemand c d .steady).chan b).st = (s.chan b).st := by
    rw [State.writeDemand_chan]
    split
    · rename_i hb
      exact hb ▸ rfl
    · rfl
  rw [hwrite]
  refine ⟨fun hn => ?_, fun b hb => ?_, fun b hb => (hst b).trans (hw b hb)⟩
  · exact absurd (hc.symm.trans hn) (by simp)
  · obtain rfl : c = b := Option.some.inj (hc.symm.trans hb)
    refine h _ (hst c) ?_ ?_ <;> simp

section
variable {s : State} {loose : Prop} {c : Channel} (hc : s.fanChannel = some c)
  (hw : ∀ c ∈ s.queued, (s.chan c).st = .waiting)
include hc hw

theorem State.fanStop_stands (h0 : s.fan.target = 0) (hst : ¬ (s.chan c).st.Tripped) : s.fanStop.FanStands loose :=
  .wrote hc hw fun _ kst kd ks => .stop h0 (kst ▸ hst) kd ks rfl

theorem State.fanSuspend_stands (h0 : s.fan.target ≠ 0) (hk : s.sup.crank = .crank) (hst : ¬ (s.chan c).st.Tripped) :
    s.fanSuspend.FanStands loose :=
  .wrote hc hw fun _ kst kd ks => .suspend h0 hk (kst ▸ hst) kd ks rfl

theorem State.fanStarting_stands (h0 : s.fan.target ≠ 0) (hk : s.sup.crank = .normal)
    (hst : (s.chan c).st = .off ∨ (s.chan c).st = .waiting) : s.fanStarting.FanStands loose :=
  .wrote hc hw fun ch kst kd ks => .drive h0 hk
    (by rw [kst]; rcases hst with h | h <;> rw [h] <;> rintro (h | h) <;> cases h) kd ks (.inl ⟨rfl, kst ▸ hst⟩)

theorem State.fanKick_stands (h0 : s.fan.target ≠ 0) (hk : s.sup.crank = .normal) (hst : ¬ (s.chan c).st.Tripped) :
    s.fanKick.FanStands loose :=
  .wrote hc hw fun _ kst kd ks => .drive h0 hk (kst ▸ hst) kd ks (.inr (.inl rfl))

theorem State.fanRamp_stands (h0 : s.fan.target ≠ 0) (hk : s.sup.crank = .normal) (hst : ¬ (s.chan c).st.Tripped)
    (d : Nat) : (s.fanRamp d).FanStands loose :=
  .wrote hc hw fun _ kst kd ks => .drive h0 hk (kst ▸ hst) kd ks (.inr (.inr rfl))

theorem State.fanFault_stands (hst : (s.chan c).st.Tripped) : s.fanFault.FanStands loose :=
  .wrote hc hw fun _ kst kd ks => .fault (kst ▸ hst) (kd.trans (State.faultedDemand_eq (s.setFan _) rfl)) ks rfl

theorem State.fanStart_stands (h0 : s.fan.target ≠ 0) (hk : s.sup.crank = .normal) : s.fanStart.FanStands loose := by
  unfold State.fanStart
  rw [hc]
  dsimp only
  split <;> rename_i hst
  · exact State.fanStarting_stands hc hw h0 hk (.inl hst)
  · exact State.fanStarting_stands hc hw h0 hk (.inr hst)
  · exact State.fanKick_stands hc hw h0 hk (by rw [hst]; rintro (h | h) <;> cases h)
  · exact State.fanRamp_stands hc hw h0 hk (by rw [hst]; rintro (h | h) <;> cases h) _
  · exact State.fanFault_stands hc hw (.inl hst)
  · exact State.fanFault_stands hc hw (.inr hst)

theorem State.fanStartOrSuspend_stands (h0 : s.fan.target ≠ 0) (hst : ¬ (s.chan c).st.Tripped) :
    s.fanStartOrSuspend.FanStands loose := by
  unfold State.fanStartOrSuspend State.cranking
  cases hk : s.sup.crank with
  | normal => exact State.fanStart_stands hc hw h0 hk
  | crank => exact State.fanSuspend_stands hc hw h0 hk hst

end
end Sys2Proof.Machine
end

section
/-! SUPPORT. The fan unit against its channel through admissions, trips, releases and timers (R57 to R66, R71 to R81,
R162, R167). -/

namespace Sys2Proof.Machine
open Sys2Proof

/-- What the fan's fit reads of the fan. -/
def Fan.stand (x : Fan) : FanState × Nat × Nat := (x.st, x.target, x.ramp)

/-- What the fan's fit reads of its channel. -/
def Chan.stand (ch : Chan) : ChState × Nat × DemandSource := (ch.st, ch.demand, ch.source)

theorem FanFits.stand {loose : Prop} {kick : Nat} {cs : CrankState} {x y : Fan} {ch k : Chan}
    (h : FanFits loose kick cs x ch) (hx : y.stand = x.stand) (hk : k.stand = ch.stand) : FanFits loose kick cs y k :=
  h.congr (congrArg Prod.fst hx) (congrArg (·.2.1) hx) (congrArg (·.2.2) hx) (congrArg Prod.fst hk)
    (congrArg (·.2.1) hk) (congrArg (·.2.2) hk)

theorem ChState.not_tripped {x : ChState} (h : x = .off ∨ x = .waiting ∨ x = .inrush ∨ x = .run) : ¬ x.Tripped := by
  rintro (rfl | rfl) <;> simp at h

theorem ChState.Tripped.ne_waiting {x : ChState} (h : x.Tripped) : x ≠ .waiting := by
  rintro rfl
  rcases h with h | h <;> cases h

namespace State.FanStands

variable {s t : State} {loose : Prop} {c : Channel}

/-- What the property reads. -/
theorem same (h : s.FanStands loose) (hc : t.fanChannel = s.fanChannel) (hk : t.cfg.fan.kickDuty = s.cfg.fan.kickDuty)
    (hcrank : t.sup.crank = s.sup.crank) (hfan : t.fan.stand = s.fan.stand)
    (hchan : ∀ c : Channel, s.fanChannel = some c → (t.chan c).stand = (s.chan c).stand)
    (hw : ∀ c ∈ t.queued, (t.chan c).st = .waiting) : t.FanStands loose := by
  refine ⟨fun hn => (congrArg Prod.fst hfan).trans (h.without (hc ▸ hn)), fun c hfc => ?_, hw⟩
  rw [hc] at hfc
  rw [hk, hcrank]
  exact (h.fits c hfc).stand hfan (hchan c hfc)

/-- Fields that it does not read. -/
theorem free (h : s.FanStands loose) (hcfg : t.cfg = s.cfg) (hcrank : t.sup.crank = s.sup.crank) (hfan : t.fan = s.fan)
    (hc : t.chans = s.chans) (hq : t.queue = s.queue) : t.FanStands loose := by
  have hchan (c : Channel) : t.chan c = s.chan c := by
    unfold State.chan
    rw [hc]
  refine h.same (State.fanChannel_congr hcfg) (by rw [hcfg]) hcrank (by rw [hfan]) (fun c _ => by rw [hchan]) ?_
  unfold State.queued
  rw [hq]
  exact fun c hcq => (hchan c).symm ▸ h.waits c hcq

/-- Places leave the queue, or are moved within it. -/
theorem setQueue (h : s.FanStands loose) {q : List (Channel × Urgency)} (hq : ∀ c ∈ q.map Prod.fst, c ∈ s.queued) :
    (s.setQueue q).FanStands loose :=
  h.same rfl rfl rfl rfl (fun _ _ => rfl) fun c hc => h.waits c (hq c hc)

theorem dequeue (h : s.FanStands loose) (c : Channel) : (s.dequeue c).FanStands loose ∧ c ∉ (s.dequeue c).queued := by
  refine ⟨h.setQueue fun d hd => ?_, fun hmem => ?_⟩
  · obtain ⟨x, hx, rfl⟩ := List.mem_map.mp hd
    exact List.mem_map_of_mem (List.mem_of_mem_filter hx)
  · obtain ⟨x, hx, hxc⟩ := List.mem_map.mp hmem
    simpa [hxc] using (List.mem_filter.mp hx).2

/-- A channel that has no place moves, its demand standing, and not the fan's or the fan fitting it still. -/
theorem modChan (h : s.FanStands loose) {f : Chan → Chan} (hq : c ∈ s.queued → (f (s.chan c)).st = .waiting)
    (hfan : s.fanChannel = some c → FanFits loose s.cfg.fan.kickDuty s.sup.crank s.fan (f (s.chan c))) :
    (s.modChan c f).FanStands loose := by
  refine ⟨h.without, fun d hd => ?_, fun d hd => ?_⟩
  · rw [State.chan_modChan]
    split
    · rename_i he
      subst he
      exact hfan hd
    · exact h.fits d hd
  · rw [State.chan_modChan]
    split
    · rename_i he
      subst he
      exact hq hd
    · exact h.waits d hd

/-- A channel that is not queued has a state other than WAITING, and conversely none that has one is queued. -/
theorem unqueued (h : s.FanStands loose) (hst : (s.chan c).st ≠ .waiting) : c ∉ s.queued := fun hc => hst (h.waits c hc)

theorem waits_moved (h : s.FanStands loose) {f : Chan → Chan} (hq : c ∉ s.queued) :
    ∀ d ∈ (s.modChan c f).queued, ((s.modChan c f).chan d).st = .waiting := fun d hd => by
  rw [State.chan_modChan, if_neg fun he : c = d => hq (he ▸ hd)]
  exact h.waits d hd

/-! ### The fan unit told of its channel -/

/-- A channel without a place moves between untripped states; the fan unit is told where it is the fan's. -/
theorem moved_ifFan (h : s.FanStands loose) {f : Chan → Chan} {g : State → State} (hq : c ∉ s.queued)
    (hg : s.fanChannel = some c → (g (s.modChan c f)).FanStands loose) : ((s.modChan c f).ifFan c g).FanStands loose := by
  by_cases hf : s.fanChannel = some c
  · rw [State.ifFan_fan (s := s.modChan c f) (State.isFan_iff.mpr hf)]
    exact hg hf
  · rw [State.ifFan_notFan (s := s.modChan c f) (State.isFan_false_iff.mpr hf)]
    exact h.modChan (fun hc => absurd hc hq) fun hc => absurd hc hf

/-- The channel has entered RUN (R65, R162). -/
theorem sawRun (h : s.FanStands loose) {f : Chan → Chan} (hq : c ∉ s.queued) (hst : ¬ (s.chan c).st.Tripped)
    (hf : (f (s.chan c)).stand = (.run, (s.chan c).demand, (s.chan c).source)) :
    ((s.modChan c f).ifFan c State.fanSawRun).FanStands loose := by
  have frun : (f (s.chan c)).st = .run := congrArg Prod.fst hf
  have funtripped : ¬ (f (s.chan c)).st.Tripped := ChState.not_tripped (.inr (.inr (.inr frun)))
  refine h.moved_ifFan hq fun hc => ?_
  have hfit := h.fits c hc
  have hw := h.waits_moved (f := f) hq
  unfold State.fanSawRun
  split
  · rename_i hx
    have hx : s.fan.st = .kick ∨ s.fan.st = .starting := hx
    obtain ⟨htarget, hnormal⟩ := hfit.driven (by rintro he; simp [he] at hx) (by rintro he; simp [he] at hx)
      (by rintro he; simp [he] at hx)
    exact State.fanRamp_stands (s := s.modChan c f) hc hw htarget hnormal (by simpa using funtripped) _
  · rename_i hx
    exact h.modChan (fun hd => absurd hd hq) fun _ => hfit.moved hst funtripped (fun hs => absurd (.inr hs) hx)
      (congrArg (·.2.1) hf) (congrArg (·.2.2) hf)

/-- The channel has entered INRUSH (R162). -/
theorem sawInrush (h : s.FanStands loose) {f : Chan → Chan} (hq : c ∉ s.queued) (hst : ¬ (s.chan c).st.Tripped)
    (hf : (f (s.chan c)).stand = (.inrush, (s.chan c).demand, (s.chan c).source)) :
    ((s.modChan c f).ifFan c State.fanSawInrush).FanStands loose := by
  have finrush : (f (s.chan c)).st = .inrush := congrArg Prod.fst hf
  have funtripped : ¬ (f (s.chan c)).st.Tripped := ChState.not_tripped (.inr (.inr (.inl finrush)))
  refine h.moved_ifFan hq fun hc => ?_
  have hfit := h.fits c hc
  have hw := h.waits_moved (f := f) hq
  unfold State.fanSawInrush
  split
  · rename_i hx
    have hx : s.fan.st = .starting := hx
    obtain ⟨htarget, hnormal⟩ := hfit.driven (by simp [hx]) (by simp [hx]) (by simp [hx])
    exact State.fanKick_stands (s := s.modChan c f) hc hw htarget hnormal (by simpa using funtripped)
  · rename_i hx
    exact h.modChan (fun hd => absurd hd hq) fun _ => hfit.moved hst funtripped (fun hs => absurd hs hx)
      (congrArg (·.2.1) hf) (congrArg (·.2.2) hf)

/-- The channel has left COOLING or LATCHED for OFF (R167). -/
theorem sawRelease (h : s.FanStands loose) {f : Chan → Chan} (hst : (s.chan c).st.Tripped)
    (hf : (f (s.chan c)).st = .off) : ((s.modChan c f).ifFan c State.fanSawRelease).FanStands loose := by
  have hq := h.unqueued hst.ne_waiting
  refine h.moved_ifFan hq fun hc => ?_
  have hw := h.waits_moved (f := f) hq
  have hoff : ((s.modChan c f).chan c).st = .off := by simpa using hf
  have huntripped : ¬ ((s.modChan c f).chan c).st.Tripped := ChState.not_tripped (.inl hoff)
  unfold State.fanSawRelease
  rw [if_pos (show (s.modChan c f).fan.st = .faulted from (h.fits c hc).faulted.mpr hst)]
  split
  · exact State.fanStop_stands (s := s.modChan c f) hc hw ‹_› huntripped
  · rename_i htarget
    unfold State.cranking
    cases hk : (s.modChan c f).sup.crank with
    | normal => exact State.fanStarting_stands (s := s.modChan c f) hc hw htarget hk (.inl hoff)
    | crank => exact State.fanSuspend_stands (s := s.modChan c f) hc hw htarget hk huntripped

/-! ### Admission -/

theorem admitOne (h : s.FanStands loose) (hc : c ∈ s.queued) : (s.admitOne c).FanStands loose := by
  obtain ⟨hs, hq⟩ := h.dequeue c
  have hst : ¬ ((s.dequeue c).chan c).st.Tripped := ChState.not_tripped (.inr (.inl (h.waits c hc)))
  unfold State.admitOne
  dsimp only
  split
  · exact hs.sawRun hq hst rfl
  · have hjoin : ((s.dequeue c).joinWindow c).FanStands loose := hs.free rfl rfl rfl rfl rfl
    exact hjoin.sawInrush (f := fun ch => { ch with
      st := .inrush, inrushTimer := some (s.inrushTime c), admCount := none, runCount := none }) hq hst rfl

theorem admitLoop (n : Nat) : ∀ {s : State}, s.FanStands loose → (admitLoop n s).FanStands loose := by
  induction n with
  | zero => exact fun h => h
  | succ n ih =>
    intro s h
    unfold Machine.admitLoop
    split
    · exact h
    · rename_i c _ _ hqueue
      split
      · exact ih (h.admitOne (by simp [State.queued, hqueue]))
      · exact h

theorem admitHeads (h : s.FanStands loose) : s.admitHeads.FanStands loose := h.admitLoop _

theorem admitIfNewHead (h : s.FanStands loose) (x : Option (Channel × Urgency)) : (s.admitIfNewHead x).FanStands loose :=
  ClaimInvariant.of_ite (P := fun t : State => t.FanStands loose) (fun _ => h) h.admitHeads

theorem mem_placeUrgent {q : List (Channel × Urgency)} {c d : Channel} (h : d ∈ (placeUrgent q c).map Prod.fst) :
    d = c ∨ d ∈ q.map Prod.fst := by
  obtain ⟨x, hx, rfl⟩ := List.mem_map.mp h
  rcases List.mem_append.mp hx with hx | hx
  · exact .inr (List.mem_map_of_mem ((List.takeWhile_prefix _).subset hx))
  · rcases List.mem_cons.mp hx with rfl | hx
    · exact .inl rfl
    · exact .inr (List.mem_map_of_mem ((List.dropWhile_suffix _).subset hx))

/-- A channel that is not tripped joins the queue (R58). -/
theorem join (h : s.FanStands loose) (hst : ¬ (s.chan c).st.Tripped) : (s.join c).FanStands loose := by
  unfold State.join
  extract_lets q
  refine State.FanStands.admitIfNewHead ?_ _
  have hmem (d : Channel) (hd : d ∈ q.map Prod.fst) : d = c ∨ d ∈ s.queued := by
    unfold q at hd
    split at hd
    · exact mem_placeUrgent hd
    · rw [List.map_append, List.mem_append] at hd
      exact hd.elim .inr fun hd => .inl (by simpa using hd)
  have ht : (s.modChan c fun ch => { ch with st := .waiting }).FanStands loose := h.modChan (fun _ => rfl) fun hc =>
    (h.fits c hc).moved hst (ChState.not_tripped (.inr (.inl rfl))) (fun _ => .inr rfl) rfl rfl
  refine ht.same rfl rfl rfl rfl (fun _ _ => rfl) fun d hd => ?_
  rcases hmem d hd with rfl | hd
  · exact congrArg Chan.st ((s.chan_modChan d d fun ch => { ch with st := .waiting }).trans (if_pos rfl))
  · exact ht.waits d hd

theorem promote (h : s.FanStands loose) (c : Channel) : (s.promote c).FanStands loose := by
  unfold State.promote
  split
  · rename_i hany
    refine State.FanStands.admitIfNewHead (h.setQueue fun d hd => ?_) _
    rcases mem_placeUrgent hd with rfl | hd
    · obtain ⟨x, hx, hxc⟩ := List.any_eq_true.mp hany
      simp only [Bool.and_eq_true, beq_iff_eq] at hxc
      exact List.mem_map.mpr ⟨x, hx, hxc.1⟩
    · obtain ⟨x, hx, rfl⟩ := List.mem_map.mp hd
      exact List.mem_map_of_mem (List.mem_of_mem_filter hx)
  · exact h

/-! ### Trips, releases and timers -/

theorem release (h : s.FanStands loose) (hst : (s.chan c).st = .latched) : (s.release c).FanStands loose :=
  h.sawRelease (.inr hst) rfl

theorem releaseIfDue (h : s.FanStands loose) (c : Channel) : (s.releaseIfDue c).FanStands loose := by
  unfold State.releaseIfDue
  split
  · exact h.release (by rename_i hl; exact hl.1)
  · exact h

theorem raise (h : s.FanStands loose) (k : EventKind) : (s.raise k).FanStands loose :=
  h.free (by simp) (by simp) (by simp) (by simp) (by simp)

theorem abandon (h : s.FanStands loose) (x : Source) : (s.abandon x).FanStands loose :=
  h.free (by simp) (by simp) (by simp) (by simp) (by simp)

/-- A channel in INRUSH or RUN trips (R71, R167). -/
theorem trip (h : s.FanStands loose) (hst : (s.chan c).st.drives = true) (k : TripCause) : (s.trip c k).FanStands loose := by
  have hq : c ∉ s.queued := h.unqueued fun hw => by
    rw [hw] at hst
    cases hst
  have htripped : (s.trippedChan c k).st.Tripped := by
    unfold State.trippedChan
    dsimp only
    split
    · exact .inr rfl
    · exact .inl rfl
  unfold State.trip
  extract_lets t u
  have hu : (t.ifFan c State.fanFault).FanStands loose := by
    have hframe : t.cfg = s.cfg ∧ t.sup = s.sup ∧ t.fan = s.fan ∧ t.queue = s.queue ∧
        t.chans = (s.setChan c (s.trippedChan c k)).chans := by simp [t]
    obtain ⟨hcfg, hsup, hfan, hqueue, hchans⟩ := hframe
    have hchan (d : Channel) : t.chan d = if c = d then s.trippedChan c k else s.chan d := by
      rw [← State.chan_setChan]
      unfold State.chan
      rw [hchans]
    have hw : ∀ d ∈ t.queued, (t.chan d).st = .waiting := fun d hd => by
      have hd' : d ∈ s.queued := by
        unfold State.queued at hd ⊢
        rwa [hqueue] at hd
      rw [hchan, if_neg fun he : c = d => hq (he ▸ hd')]
      exact h.waits d hd'
    by_cases hf : s.fanChannel = some c
    · rw [State.ifFan_fan ((State.isFan_congr hcfg c).trans (State.isFan_iff.mpr hf))]
      refine State.fanFault_stands ((State.fanChannel_congr hcfg).trans hf) hw ?_
      rw [hchan, if_pos rfl]
      exact htripped
    · rw [State.ifFan_notFan ((State.isFan_congr hcfg c).trans (State.isFan_false_iff.mpr hf))]
      refine h.same (State.fanChannel_congr hcfg) (by rw [hcfg]) (by rw [hsup]) (by rw [hfan]) (fun d hd => ?_) hw
      rw [hchan, if_neg fun he : c = d => hf (he ▸ hd)]
  have hv : u.FanStands loose := hu.releaseIfDue c
  exact ClaimInvariant.of_ite (P := fun t : State => t.FanStands loose) (fun _ => hv.admitHeads) hv

theorem inrushExpire (h : s.FanStands loose) (hst : (s.chan c).st = .inrush) : (s.inrushExpire c).FanStands loose := by
  have hs : (s.leaveWindow c).FanStands loose := h.free rfl rfl rfl rfl rfl
  have hq : c ∉ (s.leaveWindow c).queued := hs.unqueued (by rw [show (s.leaveWindow c).chan c = s.chan c from rfl, hst]; decide)
  exact (hs.sawRun (f := fun ch => { ch with
    st := .run, inrushTimer := none, opening := false,
    runCount := if ch.inrushTimer = some 0 then some 0 else none }) hq
    (ChState.not_tripped (.inr (.inr (.inl hst)))) rfl).admitHeads

end State.FanStands
end Sys2Proof.Machine
end

section
/-! SUPPORT. The fan unit against its channel at a take-up (R52 to R58, R163), and a channel's return from its cool-off
(R78). -/

namespace Sys2Proof.Machine
open Sys2Proof

/-! ### What the fan unit and the output stage do to the channels' states -/

/-- The channels' states and the queue stand: all that the fan unit's actions leave of them. -/
def State.FanActs (s t : State) : Prop := t.queue = s.queue ∧ ∀ c : Channel, (t.chan c).st = (s.chan c).st

/-- No channel trips. -/
def State.NoTrip (s t : State) : Prop := ∀ c : Channel, ¬ (s.chan c).st.Tripped → ¬ (t.chan c).st.Tripped

namespace State.FanActs

theorem refl (s : State) : s.FanActs s := ⟨rfl, fun _ => rfl⟩

theorem fanWrite (s : State) (d : Nat) : s.FanActs (s.fanWrite d) := by
  unfold State.fanWrite
  split
  · refine ⟨rfl, fun b => ?_⟩
    rw [State.writeDemand_chan]
    split
    · rename_i hb
      rw [hb]
    · rfl
  · exact refl s

theorem setFan_fanWrite (s : State) (v : Fan) (d : Nat) : s.FanActs ((s.setFan v).fanWrite d) := fanWrite (s.setFan v) d

theorem fanStop (s : State) : s.FanActs s.fanStop := setFan_fanWrite s _ _
theorem fanSuspend (s : State) : s.FanActs s.fanSuspend := setFan_fanWrite s _ _
theorem fanStarting (s : State) : s.FanActs s.fanStarting := setFan_fanWrite s _ _
theorem fanKick (s : State) : s.FanActs s.fanKick := setFan_fanWrite s _ _
theorem fanRamp (s : State) (d : Nat) : s.FanActs (s.fanRamp d) := setFan_fanWrite s _ _
theorem fanFault (s : State) : s.FanActs s.fanFault := setFan_fanWrite s _ _

theorem ite {s t u : State} {p : Prop} [Decidable p] (ht : s.FanActs t) (hu : s.FanActs u) :
    s.FanActs (if p then t else u) := by
  split
  · exact ht
  · exact hu

theorem fanStart (s : State) : s.FanActs s.fanStart := by
  unfold State.fanStart
  split
  · exact refl s
  · split
    · exact fanStarting s
    · exact fanStarting s
    · exact fanKick s
    · exact fanRamp s _
    · exact fanFault s
    · exact fanFault s

theorem fanStartOrSuspend (s : State) : s.FanActs s.fanStartOrSuspend := ite (fanSuspend s) (fanStart s)

theorem fanSawInrush (s : State) : s.FanActs s.fanSawInrush := ite (fanKick s) (refl s)

theorem fanSawRun (s : State) : s.FanActs s.fanSawRun := ite (fanRamp s _) (refl s)

theorem fanSawRelease (s : State) : s.FanActs s.fanSawRelease :=
  ite (ite (fanStop s) (ite (fanSuspend s) (fanStarting s))) (refl s)

theorem fanRampStep (s : State) : s.FanActs s.fanRampStep := by
  unfold State.fanRampStep
  split
  · exact refl s
  · exact ite (ite ⟨rfl, fun _ => rfl⟩ (setFan_fanWrite s _ _)) (refl s)

theorem ifFan {s : State} {f : State → State} (c : Channel) (hf : ∀ t : State, t.FanActs (f t)) :
    s.FanActs (s.ifFan c f) := ite (hf s) (refl s)

end State.FanActs

namespace State.NoTrip

variable {s t u : State}

theorem refl (s : State) : s.NoTrip s := fun _ h => h

theorem trans (h : s.NoTrip t) (k : t.NoTrip u) : s.NoTrip u := fun c hc => k c (h c hc)

/-- The last action first. -/
theorem after (k : t.NoTrip u) (h : s.NoTrip t) : s.NoTrip u := h.trans k

theorem joinWindow (s : State) (c : Channel) : s.NoTrip (s.joinWindow c) := fun _ h => h
theorem setQueue (s : State) (q : List (Channel × Urgency)) : s.NoTrip (s.setQueue q) := fun _ h => h

theorem of_acts (h : s.FanActs t) : s.NoTrip t := fun c hc => by rwa [h.2 c]

theorem foldl {α : Type} {f : State → α → State} (hf : ∀ (v : State) (a : α), v.NoTrip (f v a)) (l : List α) :
    s.NoTrip (l.foldl f s) :=
  List.foldlRecOn l f (refl s) fun v hv a _ => hv.trans (hf v a)

theorem ite {p : Prop} [Decidable p] (ht : s.NoTrip t) (hu : s.NoTrip u) : s.NoTrip (if p then t else u) := by
  split
  · exact ht
  · exact hu

theorem modChan (s : State) (c : Channel) {f : Chan → Chan} (hf : ¬ (s.chan c).st.Tripped → ¬ (f (s.chan c)).st.Tripped) :
    s.NoTrip (s.modChan c f) := fun d hd => by
  rw [State.chan_modChan]
  split
  · rename_i he
    subst he
    exact hf hd
  · exact hd

theorem admitOne (s : State) (c : Channel) : s.NoTrip (s.admitOne c) := by
  unfold State.admitOne
  dsimp only
  refine ite ?_ ?_
  · exact (of_acts (State.FanActs.ifFan c State.FanActs.fanSawRun)).after
      (modChan (s.dequeue c) c fun _ => ChState.not_tripped (.inr (.inr (.inr rfl))))
  · exact (of_acts (State.FanActs.ifFan c State.FanActs.fanSawInrush)).after ((joinWindow _ c).after
      (modChan (s.dequeue c) c fun _ => ChState.not_tripped (.inr (.inr (.inl rfl)))))

theorem admitLoop : ∀ (n : Nat) (s : State), s.NoTrip (admitLoop n s)
  | 0, s => refl s
  | n + 1, s => by
    unfold Machine.admitLoop
    split
    · exact refl s
    · exact ite ((admitOne s _).trans (admitLoop n _)) (refl s)

theorem admitHeads (s : State) : s.NoTrip s.admitHeads := admitLoop _ s

theorem admitIfNewHead (s : State) (x : Option (Channel × Urgency)) : s.NoTrip (s.admitIfNewHead x) :=
  ite (refl s) (admitHeads s)

theorem join (s : State) (c : Channel) : s.NoTrip (s.join c) :=
  (admitIfNewHead _ _).after ((setQueue _ _).after (modChan s c fun _ => ChState.not_tripped (.inr (.inl rfl))))

theorem bypass (s : State) (c : Channel) : s.NoTrip (s.bypass c) := by
  have ht : s.NoTrip ((s.dequeue c).modChan c fun ch => { ch with
      st := if s.inrushTime c = 0 then .run else .inrush, applied := 250, prevDuty := 0, prevEdge := false,
      onEdge := false, inrushTimer := if s.inrushTime c = 0 then none else some (s.inrushTime c),
      opening := decide (s.inrushTime c ≠ 0), admCount := some 0,
      runCount := if s.inrushTime c = 0 then some 0 else none }) := by
    refine modChan (s.dequeue c) c fun _ => ?_
    dsimp only
    split
    · exact ChState.not_tripped (.inr (.inr (.inr rfl)))
    · exact ChState.not_tripped (.inr (.inr (.inl rfl)))
  exact ite ht ht

theorem takeOff (s : State) (c : Channel) : s.NoTrip (s.takeOff c) :=
  modChan s c (f := fun ch => { ch.stopped .off with onEdge := false }) fun _ => ChState.not_tripped (.inl rfl)

theorem takeUp (s : State) (c : Channel) : s.NoTrip (s.takeUp c) := by
  have hset (v : Chan) (hv : ¬ (s.chan c).st.Tripped → ¬ v.st.Tripped) : s.NoTrip (s.setChan c v) :=
    modChan s c (f := fun _ => v) hv
  unfold State.takeUp
  dsimp only
  split
  · refine ite (refl s) ?_
    split
    · exact refl s
    · exact hset _ fun _ => ChState.not_tripped (.inr (.inr (.inr rfl)))
    all_goals exact ite (bypass s c) (refl s)
  · exact ite (takeOff s c) (ite (bypass s c) (refl s))
  · exact ite (takeOff s c) (hset _ id)
  · exact ite (takeOff s c) (hset _ id)
  · exact hset _ id
  · exact hset _ id

end State.NoTrip

/-! ### One channel's take-up -/

/-- A take-up moves its own channel alone. -/
theorem State.takeUp_other (s : State) {c d : Channel} (hd : d ≠ c) : (s.takeUp c).chan d = s.chan d := by
  have hset (v : Chan) : (s.setChan c v).chan d = s.chan d := by rw [State.chan_setChan, if_neg (Ne.symm hd)]
  have hoff : (s.takeOff c).chan d = s.chan d := hset _
  have hby : (s.bypass c).chan d = s.chan d := by
    unfold State.bypass
    dsimp only
    split
    · exact hset _
    · exact hset _
  unfold State.takeUp
  dsimp only
  split
  · split
    · rfl
    · split
      · rfl
      · exact hset _
      all_goals
        split
        · exact hby
        · rfl
  · split
    · exact hoff
    · split
      · exact hby
      · rfl
  · split
    · exact hoff
    · exact hset _
  · split
    · exact hoff
    · exact hset _
  · exact hset _
  · exact hset _

end Sys2Proof.Machine
end

section
/-! SUPPORT. The fan fits its channel after a take-up (R52 to R58, R163) and after a cool-off (R78, R167). -/

namespace Sys2Proof.Machine
open Sys2Proof

namespace State.FanStands

variable {s : State} {loose : Prop} {c : Channel} (h : s.FanStands loose)
include h

/-- A channel's record moves within its state, its demand standing. -/
theorem setChan {v : Chan} (hv : v.stand = (s.chan c).stand) : (s.setChan c v).FanStands loose :=
  h.modChan (f := fun _ => v) (fun hq => (congrArg Prod.fst hv).trans (h.waits c hq)) fun hc => (h.fits c hc).stand rfl hv

/-- A channel goes to OFF (R54, R55). -/
theorem takeOff (hst : ¬ (s.chan c).st.Tripped) : (s.takeOff c).FanStands loose := by
  obtain ⟨hs, hq⟩ := h.dequeue c
  have ht : ((s.dequeue c).modChan c fun ch => { ch.stopped .off with onEdge := false }).FanStands loose :=
    hs.modChan (fun hc => absurd hc hq) fun hc => (h.fits c hc).moved hst (ChState.not_tripped (.inl rfl)) (fun _ => .inl rfl)
      rfl rfl
  exact ht.free rfl rfl rfl rfl rfl

/-- The bypass is for channels with a FLASH demand, which the fan's has not (R64). -/
theorem bypass (hsrc : (s.chan c).source = .flash) : (s.bypass c).FanStands loose := by
  have hfan : s.fanChannel ≠ some c := fun hc => by
    have := (h.fits c hc).source
    rw [hsrc] at this
    cases this
  obtain ⟨hs, hq⟩ := h.dequeue c
  have ht (f : Chan → Chan) : ((s.dequeue c).modChan c f).FanStands loose :=
    hs.modChan (fun hc => absurd hc hq) fun hc => absurd hc hfan
  have hu (f : Chan → Chan) : (((s.dequeue c).modChan c f).joinWindow c).FanStands loose := (ht f).free rfl rfl rfl rfl rfl
  unfold State.bypass
  dsimp only
  split
  · exact ht _
  · exact hu _

theorem takeUp (hm : s.MapChecked) (c : Channel) : (s.takeUp c).FanStands loose := by
  have hunder {q : Prop} (hq : (s.chan c).source = .flash ∧ q) : (s.bypass c).FanStands loose := h.bypass hq.1
  unfold State.takeUp
  dsimp only
  split <;> rename_i hst
  · have hq : c ∉ s.queued := h.unqueued (by rw [hst]; decide)
    split
    · exact h
    · split <;> rename_i hk
      · exact h
      · refine h.modChan (f := fun _ => (s.chan c).startRun) (fun hc => absurd hc hq) fun hc => ?_
        rw [hm.fan_motor hc] at hk
        cases hk
      all_goals
        split
        · exact hunder ‹_›
        · exact h
  · split
    · exact h.takeOff (ChState.not_tripped (.inr (.inl hst)))
    · split
      · exact hunder ‹_›
      · exact h
  · split
    · exact h.takeOff (ChState.not_tripped (.inr (.inr (.inl hst))))
    · exact h.setChan rfl
  · split
    · exact h.takeOff (ChState.not_tripped (.inr (.inr (.inr hst))))
    · exact h.setChan rfl
  · exact h.setChan rfl
  · exact h.setChan rfl

end State.FanStands

/-- A channel in RUN is driven with its demand. -/
def Chan.Taken (ch : Chan) : Prop := ch.st = .run → ch.applied = ch.demand

/-- The fan channel takes its demand up (R55). -/
theorem State.takeUp_taken {s : State} {c : Channel} (hk : (s.chRec c).kind = .motor) (hsrc : (s.chan c).source = .steady) :
    ((s.takeUp c).chan c).Taken := by
  have hoff : ((s.takeOff c).chan c).Taken := by
    have : ((s.takeOff c).chan c).st = .off := congrArg Chan.st
      ((s.chan_modChan c c fun ch => { ch.stopped .off with onEdge := false }).trans (if_pos rfl))
    exact fun hr => absurd (this.symm.trans hr) (by decide)
  have hset (v : Chan) (hv : v.Taken) : ((s.setChan c v).chan c).Taken := by rwa [State.chan_setChan, if_pos rfl]
  have hother (hst : (s.chan c).st ≠ .run) : (s.chan c).Taken := fun hr => absurd hr hst
  have hflash {q : Prop} (hq : (s.chan c).source = .flash ∧ q) : False := by
    rw [hsrc] at hq
    cases hq.1
  unfold State.takeUp
  dsimp only
  rw [hk]
  split <;> rename_i hst
  · split
    · exact hother (by rw [hst]; decide)
    · dsimp only
      split
      · exact (hflash ‹_›).elim
      · exact hother (by rw [hst]; decide)
  · split
    · exact hoff
    · split
      · exact (hflash ‹_›).elim
      · exact hother (by rw [hst]; decide)
  · split
    · exact hoff
    · exact hset _ fun hr => absurd (hst.symm.trans hr) (by decide)
  · split
    · exact hoff
    · exact hset _ fun _ => rfl
  · exact hset _ fun hr => absurd (hst.symm.trans hr) (by decide)
  · exact hset _ fun hr => absurd (hst.symm.trans hr) (by decide)

/-- Channels take up, one after another; the fan channel has taken up where it is among them. -/
theorem State.FanStands.takeUps {loose : Prop} {c : Channel} (l : List Channel) :
    ∀ {s : State}, s.FanStands loose → s.MapChecked → s.fanChannel = some c → (c ∈ l ∨ (s.chan c).Taken) →
      ((l.foldl State.takeUp s).chan c).Taken := by
  induction l with
  | nil => exact fun _ _ _ ht => ht.resolve_left (by simp)
  | cons d l ih =>
    intro s h hm hc ht
    have hcfg : (s.takeUp d).cfg = s.cfg := (State.OutputMoves.takeUp s d).cfg
    have hm' : (s.takeUp d).MapChecked := by
      rw [State.mapChecked_iff, hcfg]
      exact State.mapChecked_iff.mp hm
    refine ih (h.takeUp hm d) hm' ((State.fanChannel_congr hcfg).trans hc) ?_
    by_cases hd : c = d
    · subst hd
      exact .inr (State.takeUp_taken (hm.fan_motor hc) (h.fits c hc).source)
    · rcases ht with ht | ht
      · exact .inl ((List.mem_cons.mp ht).resolve_left hd)
      · refine .inr ?_
        rwa [s.takeUp_other hd]

/-- The ramp step (R163). -/
theorem State.FanStands.fanRampStep {s : State} {loose : Prop} (h : s.FanStands loose)
    (ht : ∀ c : Channel, s.fanChannel = some c → (s.chan c).Taken) : s.fanRampStep.FanStands loose := by
  unfold State.fanRampStep
  cases hc : s.fanChannel with
  | none => exact h
  | some c =>
    dsimp only
    split
    · rename_i hst
      obtain ⟨hramp, hrun⟩ := hst
      have hfit := h.fits c hc
      obtain ⟨htarget, hnormal⟩ := hfit.driven (by simp [hramp]) (by simp [hramp]) (by simp [hramp])
      have hst : ¬ (s.chan c).st.Tripped := ChState.not_tripped (.inr (.inr (.inr hrun)))
      split
      · rename_i hat
        refine ⟨fun hn => absurd (hc.symm.trans hn) (by simp), fun d hd => ?_, h.waits⟩
        obtain rfl : c = d := Option.some.inj (hc.symm.trans hd)
        refine ⟨fun _ => ?_, hfit.source, ⟨fun hf => (nomatch hf), fun hf => absurd hf hst⟩, fun hf => (nomatch hf),
          fun h0 => absurd h0 htarget, fun _ _ => ⟨by simp, by simp⟩, fun _ hcrank => ?_, fun _ => rfl⟩
        · exact ((ht c hc) hrun).symm.trans hat
        · exact absurd (hnormal.symm.trans hcrank) (by decide)
      · exact .wrote hc h.waits fun _ kst kd ks => .drive htarget hnormal (kst ▸ hst)
          (kd.trans (by simp [Fan.demandOf, hramp])) ks (.inr (.inr hramp))
    · exact h

namespace State.FanStands

variable {s : State} {loose : Prop} (h : s.FanStands loose)
include h

theorem takeUpAll (hm : s.MapChecked) : s.takeUpAll.FanStands loose := by
  have hfold : (allChannels.foldl State.takeUp s).FanStands loose ∧ (allChannels.foldl State.takeUp s).cfg = s.cfg := by
    refine List.foldlRecOn (motive := fun t : State => t.FanStands loose ∧ t.cfg = s.cfg) _ State.takeUp ⟨h, rfl⟩
      fun t ht c _ => ⟨ht.1.takeUp ?_ c, (State.OutputMoves.takeUp t c).cfg.trans ht.2⟩
    rw [State.mapChecked_iff, ht.2]
    exact State.mapChecked_iff.mp hm
  obtain ⟨htaken, hcfg⟩ := hfold
  have hramp := htaken.fanRampStep fun c hc =>
    State.FanStands.takeUps allChannels h hm ((State.fanChannel_congr hcfg).symm.trans hc) (.inl (mem_allChannels c))
  unfold State.takeUpAll
  extract_lets joiners t u
  have hu : u.FanStands loose := ClaimInvariant.of_ite (P := fun t : State => t.FanStands loose) (fun _ => hramp) hramp.admitHeads
  have htrip : s.NoTrip u := by
    have ht : s.NoTrip t := (State.NoTrip.of_acts (State.FanActs.fanRampStep _)).after (State.NoTrip.foldl State.NoTrip.takeUp _)
    exact State.NoTrip.ite ht ((State.NoTrip.admitHeads t).after ht)
  have hjoins : (joiners.foldl State.join u).FanStands loose ∧ s.NoTrip (joiners.foldl State.join u) := by
    refine List.foldlRecOn (motive := fun t : State => t.FanStands loose ∧ s.NoTrip t) _ State.join ⟨hu, htrip⟩
      fun t ht c hc => ⟨ht.1.join (ht.2 c ?_), (State.NoTrip.join t c).after ht.2⟩
    have hoff : (s.chan c).st = .off := by
      have hj := (List.mem_filter.mp hc).2
      simp only [State.joins, Bool.and_eq_true, beq_iff_eq] at hj
      exact hj.1.1.1
    exact ChState.not_tripped (.inl hoff)
  exact hjoins.1

/-- A cool-off expires (R78, R167). -/
theorem coolOffExpire {c : Channel} (hst : (s.chan c).st = .cooling) : (s.coolOffExpire c).FanStands loose := by
  have hs : ((s.modChan c fun ch => { ch with st := .off, coolOff := none }).ifFan c State.fanSawRelease).FanStands loose :=
    h.sawRelease (.inl hst) rfl
  have hoff : (((s.modChan c fun ch => { ch with st := .off, coolOff := none }).ifFan c State.fanSawRelease).chan c).st =
      .off := by
    rw [(State.FanActs.ifFan c State.FanActs.fanSawRelease).2 c, State.chan_modChan, if_pos rfl]
  unfold State.coolOffExpire
  dsimp only
  split
  · exact hs.join (ChState.not_tripped (.inl hoff))
  · exact hs

end State.FanStands
end Sys2Proof.Machine
end

section
/-! SUPPORT. The fan fits its channel through changes of T, of the shed level and of the crank state (R159 to R165), and
through recomputations (R36 to R38). -/

namespace Sys2Proof.Machine
open Sys2Proof

/-- T moves, and the fan stands where it may. -/
theorem FanFits.retarget {loose : Prop} {kick : Nat} {cs : CrankState} {x y : Fan} {ch : Chan}
    (h : FanFits loose kick cs x ch) (hst : y.st = x.st) (hramp : y.ramp = x.ramp) (hf : x.st ≠ .faulted)
    (h0 : y.target ≠ 0) (hnormal : cs = .normal → x.st ≠ .stopped ∧ x.st ≠ .suspended)
    (hcrank : cs = .crank → x.st = .suspended) (hrun : x.st = .running → y.target = x.target) :
    FanFits loose kick cs y ch where
  demand hl := by
    rw [h.demand (hst ▸ hl)]
    unfold Fan.demandOf
    rw [hst, hramp]
    cases hx : x.st <;> simp_all
  source := h.source
  faulted := hst ▸ h.faulted
  starting := hst ▸ h.starting
  idle ht := absurd ht h0
  normal _ hc := hst ▸ hnormal hc
  cranking _ hc := .inl (hst ▸ hcrank hc)
  running hr := by
    rw [hst] at hr
    rw [hramp, h.running hr, hrun hr]

/-- What the fan unit does on a change of T, by the fan's state. -/
theorem State.fanRetarget_eq (s : State) :
    s.fanRetarget = match s.fanChannel with
      | none => s.retargeted
      | some _ =>
        match s.fan.st with
        | .stopped =>
          if s.fan.target = 0 ∧ s.retargeted.fan.target ≠ 0 then s.retargeted.fanStartOrSuspend else s.retargeted
        | .starting | .kick | .ramp | .suspended =>
          if s.retargeted.fan.target = 0 then s.retargeted.fanStop else s.retargeted
        | .running =>
          if s.retargeted.fan.target = 0 then s.retargeted.fanStop
          else if s.retargeted.fan.target = s.fan.target then s.retargeted
          else s.retargeted.setFan { s.retargeted.fan with st := .ramp }
        | .faulted => s.retargeted.fanWrite s.retargeted.faultedDemand := rfl

namespace State.FanStands

variable {s t : State} {loose : Prop}

/-- The fan writes what a FAULTED fan writes. -/
theorem faultedWrite {c : Channel} (hc : s.fanChannel = some c) (hw : ∀ c ∈ s.queued, (s.chan c).st = .waiting)
    (hst : (s.chan c).st.Tripped) (hx : s.fan.st = .faulted) : (s.fanWrite s.faultedDemand).FanStands loose :=
  State.FanStands.wrote (v := s.fan) hc hw fun _ kst kd ks => .fault (kst ▸ hst) (kd.trans (s.faultedDemand_eq hx)) ks hx

/-- A fan that stands STOPPED has T at 0. -/
theorem stopped_target {kick : Nat} {cs : CrankState} {x : Fan} {ch : Chan} (h : FanFits loose kick cs x ch)
    (hx : x.st = .stopped) : x.target = 0 := by
  by_contra h0
  cases cs with
  | normal => exact (h.normal h0 rfl).1 hx
  | crank => rcases h.cranking h0 rfl with hc | hc <;> rw [hx] at hc <;> cases hc

/-- A SUSPENDED fan has T above 0, in CRANK. -/
theorem suspended_target {kick : Nat} {cs : CrankState} {x : Fan} {ch : Chan} (h : FanFits loose kick cs x ch)
    (hx : x.st = .suspended) : x.target ≠ 0 ∧ cs = .crank := by
  have h0 : x.target ≠ 0 := fun h0 => by rcases h.idle h0 with hc | hc <;> rw [hx] at hc <;> cases hc
  refine ⟨h0, ?_⟩
  cases cs with
  | normal => exact absurd hx (h.normal h0 rfl).2
  | crank => rfl

theorem untripped {kick : Nat} {cs : CrankState} {x : Fan} {ch : Chan} (h : FanFits loose kick cs x ch)
    (hx : x.st ≠ .faulted) : ¬ ch.st.Tripped := fun ht => hx (h.faulted.mpr ht)

/-- A change of T acts on the fan by its state (R160, R161, R163, R167). -/
theorem fanRetarget (h : s.FanStands loose) : s.fanRetarget.FanStands loose := by
  rw [State.fanRetarget_eq]
  cases hc : s.fanChannel with
  | none => exact ⟨fun _ => h.without hc, fun c hd => absurd (hc.symm.trans hd) (by simp), h.waits⟩
  | some c =>
    have hfit := h.fits c hc
    have hstop (h0 : s.retargeted.fan.target = 0) (hf : s.fan.st ≠ .faulted) : s.retargeted.fanStop.FanStands loose :=
      State.fanStop_stands (s := s.retargeted) hc h.waits h0 (untripped hfit hf)
    have hstay (hx : FanFits loose s.cfg.fan.kickDuty s.sup.crank s.retargeted.fan (s.chan c)) :
        s.retargeted.FanStands loose := by
      refine ⟨fun hn => absurd (hc.symm.trans hn) (by simp), fun d hd => ?_, h.waits⟩
      obtain rfl : c = d := Option.some.inj (hc.symm.trans hd)
      exact hx
    have hdriven (hf : s.fan.st = .starting ∨ s.fan.st = .kick ∨ s.fan.st = .ramp)
        (h0 : s.retargeted.fan.target ≠ 0) : s.retargeted.FanStands loose := by
      obtain ⟨-, hnormal⟩ := hfit.driven (by rintro hx; simp [hx] at hf) (by rintro hx; simp [hx] at hf)
        (by rintro hx; simp [hx] at hf)
      refine hstay (hfit.retarget rfl rfl (by rintro hx; simp [hx] at hf) h0 (fun _ => ⟨?_, ?_⟩) (fun hk => ?_) fun hr => ?_)
      · rintro hx
        simp [hx] at hf
      · rintro hx
        simp [hx] at hf
      · rw [hnormal] at hk
        cases hk
      · simp [hr] at hf
    dsimp only
    cases hst : s.fan.st with
    | stopped =>
      have hold := stopped_target hfit hst
      have hunder := untripped hfit (by rw [hst]; decide)
      by_cases h0 : s.retargeted.fan.target = 0
      · rw [if_neg fun hx => hx.2 h0]
        exact hstay (.stop h0 hunder ((hfit.demand (by simp [hst])).trans (by simp [Fan.demandOf, hst])) hfit.source hst)
      · rw [if_pos ⟨hold, h0⟩]
        exact State.fanStartOrSuspend_stands (s := s.retargeted) hc h.waits h0 hunder
    | starting | kick | ramp =>
      dsimp only
      split
      · exact hstop ‹_› (by rw [hst]; decide)
      · exact hdriven (by simp [hst]) ‹_›
    | suspended =>
      dsimp only
      split
      · exact hstop ‹_› (by rw [hst]; decide)
      · obtain ⟨-, hcrank⟩ := suspended_target hfit hst
        refine hstay (hfit.retarget rfl rfl (by rw [hst]; decide) ‹_› (fun hn => ?_) (fun _ => hst) fun hr => ?_)
        · rw [hcrank] at hn
          cases hn
        · rw [hst] at hr
          cases hr
    | running =>
      obtain ⟨-, hnormal⟩ := hfit.driven (by simp [hst]) (by simp [hst]) (by simp [hst])
      have hk (hk : s.sup.crank = .crank) : s.fan.st = .suspended := by
        rw [hnormal] at hk
        cases hk
      dsimp only
      split
      · exact hstop ‹_› (by rw [hst]; decide)
      · rename_i h0
        split
        · rename_i hsame
          exact hstay (hfit.retarget rfl rfl (by rw [hst]; decide) h0 (fun _ => by simp [hst]) hk fun _ => hsame)
        · refine ⟨fun hn => absurd (hc.symm.trans hn) (by simp), fun d hd => ?_, h.waits⟩
          obtain rfl : c = d := Option.some.inj (hc.symm.trans hd)
          exact .drive h0 hnormal (untripped hfit (by rw [hst]; decide))
            ((hfit.demand (by simp [hst])).trans (by simp [Fan.demandOf, hst]; rfl)) hfit.source (.inr (.inr rfl))
    | faulted => exact faultedWrite (s := s.retargeted) hc h.waits (hfit.faulted.mp hst) hst

/-- The shed level moves in NORMAL, and the fan unit acts on its cap (R164). -/
theorem fanShed (h : s.FanStands loose) (hk : s.sup.crank = .normal) (n : Nat) : (s.fanShed n).FanStands loose := by
  unfold State.fanShed
  have ht := h.fanRetarget
  have hk' : s.fanRetarget.sup.crank = .normal := by
    rw [s.fanRetarget_keep (·.sup) (fun _ _ => rfl) fun _ _ => rfl]
    exact hk
  generalize s.fanRetarget = t at ht hk'
  dsimp only
  split
  · exact ht
  · rename_i c hc
    split
    · rename_i hcut
      have hq : c ∉ t.queued := ht.unqueued (by rw [hcut.1]; decide)
      have hu := State.OutputMoves.cut t c
      have hchans : (t.cut c).chans = (t.modChan c fun ch => ch.stopped .off).chans :=
        State.abandon_keep (·.chans) (fun _ _ => rfl) ..
      have hqueue : (t.cut c).queue = t.queue := State.abandon_keep (·.queue) (fun _ _ => rfl) ..
      have hchan (d : Channel) : ((t.cut c).chan d).st = if c = d then .off else (t.chan d).st := by
        have hd : (t.cut c).chan d = (t.modChan c fun ch => ch.stopped .off).chan d := by
          unfold State.chan
          rw [hchans]
        rw [hd, State.chan_modChan]
        split <;> rfl
      have hw : ∀ d ∈ (t.cut c).queued, ((t.cut c).chan d).st = .waiting := fun d hd => by
        have hd' : d ∈ t.queued := by
          unfold State.queued at hd ⊢
          rwa [hqueue] at hd
        rw [hchan, if_neg fun he : c = d => hq (he ▸ hd')]
        exact ht.waits d hd'
      have hc' : (t.cut c).fanChannel = some c := (State.fanChannel_congr hu.cfg).trans hc
      have hoff : ((t.cut c).chan c).st = .off := by rw [hchan, if_pos rfl]
      split
      · exact State.fanStop_stands hc' hw ‹_› (ChState.not_tripped (.inl hoff))
      · exact State.fanStarting_stands hc' hw ‹_› (by rw [hu.sup]; exact hk') (.inl hoff)
    · exact ht

/-- The crank state becomes CRANK (R165). -/
theorem crankIn (h : s.FanStands loose) (hk : s.sup.crank = .normal) (hcfg : t.cfg = s.cfg) (ht : t.sup.crank = .crank)
    (hfan : t.fan = s.fan) (hc : t.chans = s.chans) (hq : t.queue = s.queue) : t.fanCrankEntry.FanStands loose := by
  have hchan (c : Channel) : t.chan c = s.chan c := by
    unfold State.chan
    rw [hc]
  have hw : ∀ d ∈ t.queued, (t.chan d).st = .waiting := by
    unfold State.queued
    rw [hq]
    exact fun d hd => (hchan d).symm ▸ h.waits d hd
  unfold State.fanCrankEntry
  cases hfc : s.fanChannel with
  | none =>
    have hst : t.fan.st = .stopped := by rw [hfan, h.without hfc]
    rw [hst]
    exact ⟨fun _ => hst, fun c hd => absurd (((State.fanChannel_congr hcfg).trans hfc).symm.trans hd) (by simp), hw⟩
  | some c =>
    have hfc' : t.fanChannel = some c := (State.fanChannel_congr hcfg).trans hfc
    have hfit := h.fits c hfc
    have hstay (hx : FanFits loose t.cfg.fan.kickDuty t.sup.crank t.fan (t.chan c)) : t.FanStands loose := by
      refine ⟨fun hn => absurd (hfc'.symm.trans hn) (by simp), fun d hd => ?_, hw⟩
      obtain rfl : c = d := Option.some.inj (hfc'.symm.trans hd)
      exact hx
    have hsuspend (h1 : s.fan.st ≠ .stopped) (h2 : s.fan.st ≠ .suspended) (h3 : s.fan.st ≠ .faulted) :
        t.fanSuspend.FanStands loose := by
      refine State.fanSuspend_stands hfc' hw ?_ ht ?_
      · rw [hfan]
        exact (hfit.driven h1 h2 h3).1
      · rw [hchan]
        exact untripped hfit h3
    rw [hfan]
    cases hst : s.fan.st with
    | starting | kick | ramp | running => exact hsuspend (by simp [hst]) (by simp [hst]) (by simp [hst])
    | faulted => exact faultedWrite hfc' hw (by rw [hchan]; exact hfit.faulted.mp hst) (by rw [hfan, hst])
    | stopped =>
      refine hstay ?_
      rw [hfan, hchan]
      exact .stop (stopped_target hfit hst) (untripped hfit (by simp [hst]))
        ((hfit.demand (by simp [hst])).trans (by simp [Fan.demandOf, hst])) hfit.source hst
    | suspended =>
      have hcrank := (suspended_target hfit hst).2
      rw [hk] at hcrank
      cases hcrank

/-- The crank state returns to NORMAL (R165, R167). -/
theorem crankOut (h : s.FanStands loose) (hk : s.sup.crank = .crank) (hcfg : t.cfg = s.cfg) (ht : t.sup.crank = .normal)
    (hfan : t.fan = s.fan) (hc : t.chans = s.chans) (hq : t.queue = s.queue) : t.fanCrankExit.FanStands loose := by
  have hchan (c : Channel) : t.chan c = s.chan c := by
    unfold State.chan
    rw [hc]
  have hw : ∀ d ∈ t.queued, (t.chan d).st = .waiting := by
    unfold State.queued
    rw [hq]
    exact fun d hd => (hchan d).symm ▸ h.waits d hd
  unfold State.fanCrankExit
  cases hfc : s.fanChannel with
  | none =>
    have hst : t.fan.st = .stopped := by rw [hfan, h.without hfc]
    rw [hst]
    exact ⟨fun _ => hst, fun c hd => absurd (((State.fanChannel_congr hcfg).trans hfc).symm.trans hd) (by simp), hw⟩
  | some c =>
    have hfc' : t.fanChannel = some c := (State.fanChannel_congr hcfg).trans hfc
    have hfit := h.fits c hfc
    have hnever (h1 : s.fan.st ≠ .stopped) (h2 : s.fan.st ≠ .suspended) (h3 : s.fan.st ≠ .faulted) : False := by
      have hnormal := (hfit.driven h1 h2 h3).2
      rw [hk] at hnormal
      cases hnormal
    rw [hfan]
    cases hst : s.fan.st with
    | starting | kick | ramp | running => exact (hnever (by simp [hst]) (by simp [hst]) (by simp [hst])).elim
    | faulted => exact faultedWrite hfc' hw (by rw [hchan]; exact hfit.faulted.mp hst) (by rw [hfan, hst])
    | stopped =>
      refine ⟨fun hn => absurd (hfc'.symm.trans hn) (by simp), fun d hd => ?_, hw⟩
      obtain rfl : c = d := Option.some.inj (hfc'.symm.trans hd)
      rw [hfan, hchan]
      exact .stop (stopped_target hfit hst) (untripped hfit (by simp [hst]))
        ((hfit.demand (by simp [hst])).trans (by simp [Fan.demandOf, hst])) hfit.source hst
    | suspended =>
      obtain ⟨h0, -⟩ := suspended_target hfit hst
      dsimp only
      rw [if_neg h0]
      exact State.fanStart_stands hfc' hw (by rw [hfan]; exact h0) ht

/-! ### Recomputations -/

/-- A recomputation of the fan channel writes its marks alone (R36). -/
theorem recompute (h : s.FanStands loose) (c : Channel) : (s.recompute c).FanStands loose := by
  have ht : (s.rewritten c).FanStands loose := by
    obtain ⟨e, he⟩ := s.rewritten_only c
    rw [he]
    refine h.modChan (f := fun _ => _) (fun hq => h.waits c hq) fun hc => (h.fits c hc).stand rfl ?_
    simp [Chan.stand, State.rewrites, State.isFan_iff.mpr hc]
  rw [State.recompute_eq]
  dsimp only
  split
  · exact (ht.promote c).releaseIfDue c
  · exact ht.releaseIfDue c

theorem recomputeWhere (h : s.FanStands loose) (q : Channel → Bool) : (s.recomputeWhere q).FanStands loose :=
  ClaimInvariant.foldl (P := fun t : State => t.FanStands loose) h fun _ c ht => ht.recompute c

theorem flashTest (h : s.FanStands loose) : s.flashTest.FanStands loose := by
  have hphase (v : Flash) : (s.setFlash v).FanStands loose := h.free rfl rfl rfl rfl rfl
  unfold State.flashTest
  split
  · split
    · exact hphase _
    all_goals exact h
  · split
    · exact h
    all_goals exact (hphase _).recomputeWhere _

theorem reevaluate (h : s.FanStands loose) (f : Fn) : (s.reevaluate f).FanStands loose := by
  refine ClaimInvariant.of_ite (P := fun t : State => t.FanStands loose) (fun _ => h) ?_
  generalize s.evaluated f = v
  have ht : (s.setResult f v).FanStands loose := h.free rfl rfl rfl rfl rfl
  have hu : (if f = .fan then (s.setResult f v).fanRetarget else s.setResult f v).FanStands loose :=
    ClaimInvariant.of_ite (P := fun t : State => t.FanStands loose) (fun _ => ht.fanRetarget) ht
  exact ClaimInvariant.of_ite (P := fun t : State => t.FanStands loose)
    (fun _ => (hu.recomputeWhere _).flashTest) (hu.recomputeWhere _)

theorem reevaluateAll (h : s.FanStands loose) (l : List Fn) : (s.reevaluateAll l).FanStands loose :=
  ClaimInvariant.foldl (P := fun t : State => t.FanStands loose) h fun _ f ht => ht.reevaluate f

theorem setShed (h : s.FanStands loose) (hk : s.sup.crank = .normal) (n : Nat) : (s.setShed n).FanStands loose := by
  unfold State.setShed
  extract_lets _ t
  have hsup (v : Supervisor) (hv : v.crank = s.sup.crank) : (s.setSup v).FanStands loose := h.free rfl hv rfl rfl rfl
  have ht : t.FanStands loose := (hsup _ (by rfl)).raise _
  refine (ht.reevaluateAll Fn.all).fanShed ?_ _
  rw [show (t.reevaluateAll Fn.all).sup = t.sup by simp]
  simpa [t] using hk

theorem startTick (h : s.FanStands loose) : s.startTick.FanStands loose :=
  ClaimInvariant.of_ite (P := fun t : State => t.FanStands loose) (fun _ => h.free rfl rfl rfl rfl rfl) h

theorem enterOn (h : s.FanStands loose) (early : Bool) : (s.enterOn early).FanStands loose := by
  unfold State.enterOn
  extract_lets v _ t
  have ht : t.FanStands loose := h.free rfl rfl rfl rfl rfl
  have hu : (if v = s.flash.speed then t else t.raise .flashFast).FanStands loose :=
    ClaimInvariant.of_ite (P := fun t : State => t.FanStands loose) (fun _ => ht) (ht.raise _)
  exact hu.startTick.recomputeWhere _

theorem enterOff (h : s.FanStands loose) (cy : Cycle) (early : Bool) : (s.enterOff cy early).FanStands loose := by
  have ht (v : Flash) : (s.setFlash v).FanStands loose := h.free rfl rfl rfl rfl rfl
  exact (ht _).startTick.recomputeWhere _

/-- The gauge unit reaches GAUGE channels alone, and the fan's is a MOTOR channel. -/
theorem gauge (h : s.FanStands loose) (hw : s.Wired) (k : s.GaugeMoves t) : t.FanStands loose := by
  obtain ⟨hfan, hchan⟩ := k.rest hw
  refine h.same (State.fanChannel_congr k.cfg) (by rw [k.cfg]) (by rw [k.sup]) (by rw [hfan]) (fun c hc => ?_) fun c hc => ?_
  · rw [(hchan c).1 (by rw [hw.map.fan_motor hc]; decide)]
  · unfold State.queued at hc
    rw [k.queue] at hc
    exact (hchan c).2 (h.waits c hc)

end State.FanStands
end Sys2Proof.Machine
end

section
/-! SUPPORT. The fan fits its channel through CONFIG and resets (R30, R45, R157), and so through every step. -/

namespace Sys2Proof.Machine
open Sys2Proof

theorem State.boundBusy_false {s : State} {c : Channel} (h : s.boundBusy (some c) = false) : (s.chan c).st = .off := by
  simpa [State.boundBusy, State.isOff] using h

theorem State.checkFan_accepted {s : State} {w r : FanRec} {b : Bool} (h : s.checkFan w = .accepted r b) :
    s.boundBusy s.fanChannel = false := by
  unfold State.checkFan at h
  split at h
  · cases h
  · split at h
    · cases h
    · rename_i hb
      simpa using hb

namespace State.FanStands

variable {s : State} (h : s.FanStands False)
include h

/-- A FAN record comes with the fan channel in OFF: T moves, and the new kick duty is written where the fan writes it. -/
theorem newFan {w r : FanRec} {b : Bool} (hv : s.checkFan w = .accepted r b) : (s.applyFan r).FanStands False := by
  have hs : (s.setCfg { s.cfg with fan := r }).FanStands True := by
    refine ⟨h.without, fun c hc => ?_, h.waits⟩
    have hfit := h.fits c hc
    have hbusy := State.checkFan_accepted hv
    rw [show s.fanChannel = some c from hc] at hbusy
    have hst : s.fan.st ≠ .faulted := fun hx => by
      have ht := hfit.faulted.mp hx
      rw [State.boundBusy_false hbusy] at ht
      rcases ht with ht | ht <;> cases ht
    refine ⟨fun hl => ?_, hfit.source, hfit.faulted, hfit.starting, hfit.idle, hfit.normal, hfit.cranking, hfit.running⟩
    obtain ⟨h1, h2⟩ := hl trivial
    refine (hfit.demand False.elim).trans ?_
    change s.fan.demandOf _ _ = s.fan.demandOf _ _
    unfold Fan.demandOf
    cases hx : s.fan.st <;> simp_all
  have ht := hs.fanRetarget
  have hkick : (s.setCfg { s.cfg with fan := r }).fanRetarget.cfg.fan.kickDuty = r.kickDuty := by
    rw [State.fanRetarget_keep (·.cfg) (fun _ _ => rfl) fun _ _ => rfl]
    rfl
  unfold State.applyFan
  generalize (s.setCfg { s.cfg with fan := r }).fanRetarget = t at ht hkick
  dsimp only
  split
  · rename_i hx
    cases hc : t.fanChannel with
    | none =>
      have hstopped := ht.without hc
      rw [hstopped] at hx
      simp at hx
    | some c =>
      have hfit := ht.fits c hc
      refine State.FanStands.wrote (v := t.fan) hc ht.waits fun ch kst kd ks => ?_
      refine ⟨fun _ => ?_, ks, kst ▸ hfit.faulted, kst ▸ hfit.starting, hfit.idle, hfit.normal, hfit.cranking, hfit.running⟩
      rw [kd, hkick]
      unfold Fan.demandOf
      rcases hx with hx | hx <;> rw [hx]
  · rename_i hx
    refine ⟨ht.without, fun c hc => ?_, ht.waits⟩
    have hfit := ht.fits c hc
    exact ⟨fun _ => hfit.demand fun _ => ⟨fun h1 => hx (.inl h1), fun h2 => hx (.inr h2)⟩, hfit.source, hfit.faulted,
      hfit.starting, hfit.idle, hfit.normal, hfit.cranking, hfit.running⟩

omit h in
theorem resetHealth {t : State} (ht : t.FanStands False) (c : Channel) : (t.resetHealth c).FanStands False := by
  have hu : (t.modChan c fun ch => { ch with trips := 0, bulbOut := false, low := 0, high := 0 }).FanStands False :=
    ht.setChan (v := { t.chan c with trips := 0, bulbOut := false, low := 0, high := 0 }) rfl
  exact ClaimInvariant.of_ite (P := fun u : State => u.FanStands False) (fun _ => hu.raise _) hu

theorem newChannel (x : Channel × ChannelRec) : (s.applyChannel x).FanStands False := by
  have ht : (s.withChannelRec x).FanStands False := h.same rfl rfl rfl rfl (fun _ _ => rfl) h.waits
  rw [State.applyChannel_eq]
  refine resetHealth ?_ _
  split
  · exact ht
  · exact ht.recompute _

theorem newGauge (x : GaugeId × GaugeRec) : (s.applyGauge x).FanStands False := by
  have ht : (s.withGaugeRec x).FanStands False := h.same rfl rfl rfl rfl (fun _ _ => rfl) h.waits
  rw [State.applyGauge_eq]
  split
  · exact ht
  · split
    · exact ht
    · exact ht.recompute _

omit h in
theorem fanChannelChanged_acts (t : State) (old : Option Channel) : t.FanActs (t.fanChannelChanged old) := by
  have hset (v : Fan) : t.FanActs (t.setFan v) := ⟨rfl, fun _ => rfl⟩
  have hif (p : Prop) [Decidable p] (v : Fan) : t.FanActs (if p then t.setFan v else t) := .ite (hset v) (.refl t)
  have htrans {u v : State} (hu : t.FanActs u) (hv : u.FanActs v) : t.FanActs v :=
    ⟨hv.1.trans hu.1, fun c => (hv.2 c).trans (hu.2 c)⟩
  unfold State.fanChannelChanged
  dsimp only
  split
  · exact .refl t
  · exact .ite (hif _ _) (.ite (htrans (hif _ _) (.fanStop _)) (htrans (hif _ _) (.fanStartOrSuspend _)))

/-- A MAP record comes with the channels it reaches in OFF (R30, R36, R160, R161). -/
theorem newMap (hm : s.MapChecked) {w : WMap} {x : Fin 32 × Option MapEntry} {b : Bool}
    (hv : s.checkMap w = .accepted x b) : (s.applyMap x).FanStands False := by
  obtain ⟨hnew, hold⟩ := State.checkMap_accepted hv
  rw [State.applyMap_eq]
  by_cases hc : (s.withEntry x).fanChannel = s.fanChannel
  · have ht : (s.withEntry x).FanStands False := h.same hc rfl rfl rfl (fun _ _ => rfl) h.waits
    have hu := ht.recomputeWhere (s.mapTouches x)
    have hsrc := (s.withEntry x).recomputeWhere_sources (s.mapTouches x)
    unfold State.fanChannelChanged
    rw [if_pos ((State.fanChannel_congr (congrArg Prod.fst hsrc)).trans hc)]
    exact hu
  · have hoff (c : Channel) (hq : s.mapTouches x c = true) : (s.chan c).st = .off := by
      simp only [State.mapTouches, Bool.or_eq_true, beq_iff_eq] at hq
      rcases hq with hq | hq
      · obtain ⟨e, he, rfl⟩ := Option.map_eq_some_iff.mp hq
        exact (hnew e he).2
      · exact hold c hq
    have hstands : (s.withEntry x).StandsAs ((s.withEntry x).recomputeWhere (s.mapTouches x)) :=
      State.recomputeWhere_stands fun c hq => ⟨hoff c hq, h.unqueued (by
        rw [hoff c hq]
        decide)⟩
    generalize (s.withEntry x).recomputeWhere (s.mapTouches x) = u at hstands
    have hcfg : u.cfg = (s.withEntry x).cfg := congrArg Prod.fst hstands.sources
    have hfan : u.fan = s.fan := hstands.fan
    have hsup : u.sup = s.sup := congrArg (·.2.2.2.2.1) hstands.sources
    have hchannel : u.fanChannel = (s.withEntry x).fanChannel := State.fanChannel_congr hcfg
    have hmoves := State.OutputMoves.fanChannelChanged u s.fanChannel
    have hacts := fanChannelChanged_acts u s.fanChannel
    have hw : ∀ d ∈ (u.fanChannelChanged s.fanChannel).queued, ((u.fanChannelChanged s.fanChannel).chan d).st = .waiting := by
      intro d hd
      unfold State.queued at hd
      rw [hacts.1, hstands.queue] at hd
      rw [hacts.2, hstands.st]
      exact h.waits d hd
    refine ⟨fun hn => ?_, fun c hcn => ?_, hw⟩
    · have hnow : u.fanChannel = none := (State.fanChannel_congr hmoves.cfg).symm.trans hn
      rw [State.fanChannelChanged_left hnow fun he => hc (hchannel.symm.trans (hnow.trans he.symm))]
      rfl
    · have hnow : u.fanChannel = some c := (State.fanChannel_congr hmoves.cfg).symm.trans hcn
      have hne : s.fanChannel ≠ some c := fun he => hc (hchannel.symm.trans (hnow.trans he.symm))
      have hcoff : (u.chan c).st = .off := by
        rw [hstands.st]
        obtain ⟨e, he, hef, rfl⟩ := State.fanChannel_entry (hchannel.symm.trans hnow)
        obtain ⟨j, hj⟩ := State.mem_entries.mp he
        have hget : (s.cfg.map.set x.1 x.2)[j] = some e := hj
        by_cases hji : x.1 = j
        · subst hji
          exact (hnew e (by simpa using hget)).2
        · have hval : x.1.val ≠ j.val := fun hx => hji (Fin.ext hx)
          have hsame : s.cfg.map[j] = some e := by simpa [hval] using hget
          exact absurd (hm.fanChannel (State.mem_entries.mpr ⟨j, hsame⟩) hef) hne
      obtain ⟨hst, hdemand, hsource, hoff'⟩ := State.fanChannelChanged_taken hnow hne hcoff
      have htarget : (u.fanChannelChanged s.fanChannel).fan.target = s.fan.target := by
        rw [← hfan]
        exact congrArg (·.2.2) hmoves.aim
      have huntripped : ¬ ((u.fanChannelChanged s.fanChannel).chan c).st.Tripped := ChState.not_tripped (.inl hoff')
      have hsup' : (u.fanChannelChanged s.fanChannel).sup = s.sup := hmoves.sup.trans hsup
      rw [hfan, hsup] at hst hdemand
      by_cases h0 : s.fan.target = 0
      · rw [if_pos h0] at hst
        rw [if_pos (.inl h0)] at hdemand
        exact .stop (htarget.trans h0) huntripped hdemand hsource hst
      · rw [if_neg h0] at hst
        cases hk : s.sup.crank with
        | crank =>
          rw [if_pos hk] at hst
          rw [if_pos (.inr hk)] at hdemand
          exact .suspend (htarget ▸ h0) (hsup' ▸ hk) huntripped hdemand hsource hst
        | normal =>
          rw [if_neg (by simp [hk])] at hst
          rw [if_neg (by simp [h0, hk])] at hdemand
          refine .drive (htarget ▸ h0) (hsup' ▸ hk) huntripped ?_ hsource (.inl ⟨hst, .inl hoff'⟩)
          rw [hdemand, hmoves.cfg, Fan.demandOf, hst]

end State.FanStands

theorem State.FanStands.fresh (pending : List Instr) (cfg : Working) (store : Store) (power : Power) (ev : EventSet) :
    (State.fresh pending cfg store power ev).FanStands False := by
  refine ⟨fun _ => rfl, fun c _ => ?_, fun c hc => (nomatch hc)⟩
  rw [State.fresh_chan]
  exact .stop rfl (ChState.not_tripped (.inl rfl)) rfl rfl rfl

/-- The rules of the map and of the bindings, with the fan fitting its channel. -/
def State.FanHolds (s : State) : Prop := s.Wired ∧ s.FanStands False

namespace State.FanHolds

variable {s t : State}

theorem free (h : s.FanHolds) (hcfg : t.cfg = s.cfg) (hcrank : t.sup.crank = s.sup.crank) (hfan : t.fan.stand = s.fan.stand)
    (hc : t.chans = s.chans) (hq : t.queue = s.queue) : t.FanHolds := by
  have hchan (c : Channel) : t.chan c = s.chan c := by
    unfold State.chan
    rw [hc]
  refine ⟨h.1.congr hcfg, h.2.same (State.fanChannel_congr hcfg) (by rw [hcfg]) hcrank hfan (fun c _ => by rw [hchan])
    fun c hcq => ?_⟩
  unfold State.queued at hcq
  rw [hq] at hcq
  rw [hchan]
  exact h.2.waits c hcq

theorem eq (hcfg : t.cfg = s.cfg) (hcrank : t.sup.crank = s.sup.crank) (hfan : t.fan.stand = s.fan.stand)
    (hc : t.chans = s.chans) (hq : t.queue = s.queue) : t.FanHolds = s.FanHolds :=
  propext ⟨fun h => h.free hcfg.symm hcrank.symm hfan.symm hc.symm hq.symm, fun h => h.free hcfg hcrank hfan hc hq⟩

theorem output (h : s.FanHolds) (k : s.OutputMoves t) (ht : t.FanStands False) : t.FanHolds := ⟨h.1.congr k.cfg, ht⟩

theorem gauge (h : s.FanHolds) (k : s.GaugeMoves t) : t.FanHolds := ⟨h.1.congr k.cfg, h.2.gauge h.1 k⟩

theorem normal_of (hk : s.cranking = false) : s.sup.crank = .normal := by
  unfold State.cranking at hk
  cases hc : s.sup.crank with
  | normal => rfl
  | crank =>
    rw [hc] at hk
    cases hk

theorem crank_of (hk : s.cranking = true) : s.sup.crank = .crank := by
  simpa [State.cranking] using hk

end State.FanHolds

theorem fanHolds_drive : DriveInvariant State.FanHolds where
  pending _ _ := State.FanHolds.eq rfl rfl rfl rfl rfl
  power _ _ := State.FanHolds.eq rfl rfl rfl rfl rfl
  clock _ _ := State.FanHolds.eq rfl rfl rfl rfl rfl
  store _ _ := State.FanHolds.eq rfl rfl rfl rfl rfl
  storeWrite _ _ := State.FanHolds.eq rfl rfl rfl rfl rfl
  ports _ _ := State.FanHolds.eq rfl rfl rfl rfl rfl
  slots _ _ := State.FanHolds.eq rfl rfl rfl rfl rfl
  claims _ _ := State.FanHolds.eq rfl rfl rfl rfl rfl
  window _ _ := State.FanHolds.eq rfl rfl rfl rfl rfl
  gates _ _ := State.FanHolds.eq rfl rfl rfl rfl rfl
  seq _ _ := State.FanHolds.eq rfl rfl rfl rfl rfl
  chan s c f hst hw h := h.output (.modChan s c hw) (h.2.setChan (v := f (s.chan c)) (Prod.ext hst
    (congrArg (fun y : Nat × DemandSource × Bool × Bool => (y.1, y.2.1)) hw)))
  admission s h := h.output (.admitHeads s) h.2.admitHeads
  inrushExpire s c hst h := h.output (.inrushExpire s c) (h.2.inrushExpire hst)
  coolOffExpire s c hst h := h.output (.coolOffExpire s c) (h.2.coolOffExpire hst)
  trip s c k hst h := h.output (.trip s c k) (h.2.trip hst k)
  release s c hst h := h.output (.release s c) (h.2.release hst)
  takeUp s h := h.output (.takeUpAll s) (h.2.takeUpAll h.1.map)
  fanCount s v hv h := h.free rfl rfl (by rw [hv]; rfl) rfl rfl
  reevaluate _ f h := ⟨h.1.congr (by simp), h.2.reevaluate f⟩
  enterOn _ early _ h := ⟨h.1.congr (by simp), h.2.enterOn early⟩
  enterOff _ cy early _ h := ⟨h.1.congr (by simp), h.2.enterOff cy early⟩
  flash _ _ _ h := h.free rfl rfl rfl rfl rfl
  countFlash _ h := h.free rfl rfl rfl rfl rfl
  sup _ _ hv _ _ h := h.free rfl hv rfl rfl rfl
  filter s n h := by
    have ht : (s.setSup { s.sup with vf := some n }).FanHolds := h.free rfl rfl rfl rfl rfl
    exact ht.gauge (.gaugesRecompute _)
  woken _ h := h.free rfl rfl rfl rfl rfl
  shed _ n hk h := ⟨h.1.congr (by simp), h.2.setShed (State.FanHolds.normal_of hk) n⟩
  crankIn s hk h := ⟨h.1.congr (by simp), h.2.crankIn (State.FanHolds.normal_of hk) (by simp) (by simp) (by simp) (by simp)
    (by simp)⟩
  crankOut s hk h := ⟨h.1.congr (by simp), h.2.crankOut (State.FanHolds.crank_of hk) (by simp) (by simp) (by simp) (by simp)
    (by simp)⟩
  gaugeRest s g _ h := h.gauge (.gaugeRest s g)
  gaugeFault s g _ h := h.gauge (.gaugeFault s g)
  gaugeRecover s g _ h := h.gauge (.gaugeRecover s g)
  gaugeEnter s g v _ h := h.gauge (.gaugeEnter s g v)
  gaugeCount s g v _ _ h := h.gauge (.setGauge s g v)
  countFaultHold s g h := h.gauge (.countFaultHold s g)
  gaugeHold s g h := h.gauge (.gaugeHold s g)
  gaugeRelease s g h := h.gauge (.gaugeRelease s g)
  input _ _ _ _ h := h.free rfl rfl rfl rfl rfl
  ign s v l _ h := by
    have ht : (s.setInput .ign v).FanHolds := h.free rfl rfl rfl rfl rfl
    have hu : (s.setInput .ign v).ignitionChanged.FanHolds := ⟨ht.1.congr (by simp), ht.2.reevaluateAll _⟩
    exact hu.gauge (.gaugesIgnition _ l)
  cfg s v hch hmap hg hfan h := by
    have hc : (s.setCfg v).fanChannel = s.fanChannel := by
      unfold State.fanChannel State.entries
      rw [show (s.setCfg v).cfg.map = s.cfg.map from hmap]
    exact ⟨State.Wired.congr' (s := s) hch hmap (fun g => by simp [State.gaugeRec, hg]) h.1,
      h.2.same hc (congrArg FanRec.kickDuty hfan) rfl rfl (fun _ _ => rfl) h.2.waits⟩
  retarget s cls _ h := ⟨State.Wired.congr' (s := s) rfl rfl (fun g => by cases g <;> rfl) h.1,
    h.2.same rfl rfl rfl rfl (fun _ _ => rfl) h.2.waits⟩
  newChannel s _ x _ hv h := ⟨(h.1.withChannelRec hv).congr (s.applyChannel_cfg x), h.2.newChannel x⟩
  newMap s _ x _ hv h := ⟨(h.1.withEntry hv).congr (s.applyMap_cfg x), h.2.newMap h.1.map hv⟩
  newGauge s _ x _ _ hv h :=
    ⟨(h.1.withGaugeRec hv).congr (congrArg Prod.fst (s.applyGauge_sources x)), h.2.newGauge x⟩
  newFan s _ r _ hv h := ⟨h.1.congr' (by rw [s.applyFan_cfg]) (by rw [s.applyFan_cfg])
    (fun g => by unfold State.gaugeRec; rw [s.applyFan_cfg]), h.2.newFan hv⟩
  begin s k := ⟨s.begin_wired k, .fresh ..⟩
  brownOut s h := ⟨State.Wired.congr (s := s) rfl h.1, .fresh ..⟩

end Sys2Proof.Machine
end

section
/-! O12. Every step keeps the map's kinds, the composed demands, the gauges, the fan and the generator. -/

namespace Sys2Proof.Machine
open Sys2Proof

/-- What one step keeps of the composed demands, the fan, the generator and the gauges, from a part whose map and
bindings are checked. -/
theorem step_keeps_demands {s t : State} (ht : step s = .next t) (hw : s.Wired) :
    t.Wired ∧ (s.DemandsComposed → t.DemandsComposed) ∧ (s.FanTargetComputed → t.FanTargetComputed) ∧
      (s.QueueIsWaiting → s.FanFollowsChannel → t.FanFollowsChannel) ∧
      (s.FlashFollowsDemand → t.FlashFollowsDemand) ∧ (s.GaugesComputed → t.GaugesComputed) := by
  have htw : t.Wired := (wired_drive.step ht ⟨hw, trivial⟩).1
  refine ⟨htw, fun h => (demandsComposed_composer.drive.step ht ⟨hw, h⟩).2,
    fun h => (fanTarget_composer.drive.step ht ⟨hw, h⟩).2, fun hq h => ?_,
    fun h => (flashFollows_composer.drive.step ht ⟨hw, h⟩).2, fun h => ?_⟩
  · have hs : s.FanStands False := (State.fanFollows_iff fun c hc => (hq.2.1 c).mp hc).mp h
    have htf : t.FanStands False := (fanHolds_drive.step ht ⟨hw, hs⟩).2
    exact (State.fanFollows_iff htf.waits).mpr htf
  · exact (State.gaugesComputed_iff htw).mpr (gaugesStand_drive.step ht ((State.gaugesComputed_iff hw).mp h))

theorem State.gives_iff {s : State} {c : Channel} {e : MapEntry} :
    s.Gives c e ↔ (∃ i : Fin 32, s.cfg.map[i] = some e) ∧ e.chan = c ∧ s.entryActive e = true := by
  rw [State.Gives, State.mem_entriesOn, State.mem_entries, and_assoc]

end Sys2Proof.Machine

open Sys2Proof Sys2Proof.Machine

/-- Settles O12: each part of the invariant goes through every effect of a step, and what the active entries give is
read off the composition. -/
theorem demandsStayComposed : Obligations.DemandsStayComposed := by
  unfold Obligations.DemandsStayComposed
  refine ⟨fun s t ht hbound hmap => ?_, fun c s => ?_⟩
  · obtain ⟨hw, hdemands, htarget, hfan, hflash, hgauges⟩ := step_keeps_demands ht ⟨hbound, hmap⟩
    exact ⟨hw.bound, hw.map, hdemands, htarget, hfan, hflash, fun _ => hgauges⟩
  · intro left right active on duty
    have hon (e : MapEntry) : on e ↔ s.Gives c e := by
      rw [State.gives_iff, State.entryActive_iff]
    have hduty (e : MapEntry) : duty e = s.steadyDuty e := by
      unfold duty State.steadyDuty
      cases e.contrib <;> rfl
    simp only [hon, hduty]
    refine ⟨State.follows_iff, fun h hp => ?_, fun h hp => ?_, fun h => ?_, State.stopActive_iff, State.anyActive_iff⟩
    · rw [State.composed_follows h, if_pos (s.onPhase_iff.mpr hp)]
    · rw [State.composed_follows h, if_neg fun hph => hp (s.onPhase_iff.mp hph)]
    · rw [State.composed_steady h]
      exact ⟨rfl, s.steadyDemand_largest c⟩

end

section
/-! SUPPORT. What the admission test does (R58 to R63): the heads it admits, and what it leaves of every other channel. -/

namespace Sys2Proof.Machine
open Sys2Proof

/-! ### Places and the in-window set -/

/-- What a channel is driven with: the on-time of this period and of the one before (R48, R49). -/
def Chan.drive (ch : Chan) : Nat × Nat := (ch.applied, ch.prevDuty)

/-- The channels of the in-window set. -/
def State.windowed (s : State) : List Channel := s.window.map Prod.fst

theorem State.inWindow_iff {s : State} {c : Channel} : s.inWindow c = true ↔ c ∈ s.windowed := by
  simp [State.inWindow, State.windowed]

theorem State.mem_dequeue {s : State} {c d : Channel} : d ∈ (s.dequeue c).queued ↔ d ∈ s.queued ∧ d ≠ c := by
  simp only [State.dequeue, State.setQueue, State.queued, List.mem_map, List.mem_filter, bne_iff_ne, ne_eq]
  constructor
  · rintro ⟨x, ⟨hx, hne⟩, rfl⟩
    exact ⟨⟨x, hx, rfl⟩, hne⟩
  · rintro ⟨⟨x, hx, rfl⟩, hne⟩
    exact ⟨x, ⟨hx, hne⟩, rfl⟩

theorem State.inrushTime_congr {s t : State} (h : t.cfg = s.cfg) (c : Channel) : t.inrushTime c = s.inrushTime c := by
  unfold State.inrushTime
  rw [State.isFan_congr h, State.chRec_congr h, h]

theorem State.chan_congr {s t : State} (h : t.chans = s.chans) (c : Channel) : t.chan c = s.chan c := by
  unfold State.chan
  rw [h]

/-! ### One admission -/

/-- The state an admitted channel enters (R63). -/
def State.admittedSt (s : State) (c : Channel) : ChState := if s.inrushTime c = 0 then .run else .inrush

/-- The record of an admitted channel, the fan unit not having been told yet (R63, R82). -/
def State.admittedChan (s : State) (c : Channel) : Chan :=
  { s.chan c with
    st := s.admittedSt c, inrushTimer := if s.inrushTime c = 0 then none else some (s.inrushTime c), admCount := none,
    runCount := if s.inrushTime c = 0 ∧ s.clock = .started then some 0 else none }

/-- The head admitted, the fan unit not having been told yet (R63). -/
def State.admitted (s : State) (c : Channel) : State :=
  let t := (s.dequeue c).setChan c (s.admittedChan c)
  if s.inrushTime c = 0 then t else t.joinWindow c

/-- What the fan unit does as its channel is admitted (R162). -/
def State.fanAdmitted (s : State) (c : Channel) : State → State :=
  if s.inrushTime c = 0 then State.fanSawRun else State.fanSawInrush

theorem State.admitOne_eq (s : State) (c : Channel) : s.admitOne c = (s.admitted c).ifFan c (s.fanAdmitted c) := by
  unfold State.admitOne State.admitted State.fanAdmitted State.modChan State.admittedChan State.admittedSt
  by_cases h : s.inrushTime c = 0
  · simp only [h, if_true, true_and]
    rfl
  · simp only [h, if_false, false_and]
    rfl

theorem State.admitted_cfg (s : State) (c : Channel) : (s.admitted c).cfg = s.cfg := by
  unfold State.admitted
  dsimp only
  split <;> rfl

theorem State.admitted_queue (s : State) (c : Channel) : (s.admitted c).queue = (s.dequeue c).queue := by
  unfold State.admitted
  dsimp only
  split <;> rfl

theorem State.admitted_window (s : State) (c : Channel) :
    (s.admitted c).window = s.window ++ if s.inrushTime c = 0 then [] else [(c, s.expected c)] := by
  unfold State.admitted
  dsimp only
  split
  · exact (List.append_nil _).symm
  · rfl

theorem State.admitted_chan (s : State) (c d : Channel) :
    (s.admitted c).chan d = if c = d then s.admittedChan c else s.chan d := by
  have h : (s.admitted c).chan d = (s.setChan c (s.admittedChan c)).chan d := by
    unfold State.admitted
    dsimp only
    split <;> rfl
  rw [h, State.chan_setChan]

theorem State.admitted_fan (s : State) (c : Channel) : (s.admitted c).fan = s.fan := by
  unfold State.admitted
  dsimp only
  split <;> rfl

/-! ### What the fan unit leaves as it is told of its channel -/

/-- The channels' records stand but for the demand of the fan channel: all that the fan unit's writes leave. -/
structure State.FanWrites (s t : State) : Prop where
  others : ∀ d : Channel, s.fanChannel ≠ some d → t.chan d = s.chan d
  own : ∀ d : Channel, ∃ n src e, t.chan d = { s.chan d with demand := n, source := src, onEdge := e }
  cfg : t.cfg = s.cfg
  queue : t.queue = s.queue
  window : t.window = s.window
  gates : t.gates = s.gates

namespace State.FanWrites

variable {s t : State}

theorem of_fan (s : State) (v : Fan) : s.FanWrites (s.setFan v) :=
  ⟨fun _ _ => rfl, fun _ => ⟨_, _, _, rfl⟩, rfl, rfl, rfl, rfl⟩

theorem refl (s : State) : s.FanWrites s := of_fan s s.fan

theorem wrote (s : State) (v : Fan) (n : Nat) : s.FanWrites ((s.setFan v).fanWrite n) := by
  unfold State.fanWrite
  cases h : (s.setFan v).fanChannel with
  | none => exact of_fan s v
  | some c =>
    have hc : s.fanChannel = some c := h
    refine ⟨fun d hd => ?_, fun d => ?_, rfl, rfl, rfl, rfl⟩
    · have hne : c ≠ d := fun he => hd (he ▸ hc)
      simp only [State.writeDemand_chan, hne, if_false]
      rfl
    · rw [State.writeDemand_chan]
      split
      · rename_i he
        subst he
        exact ⟨_, _, _, rfl⟩
      · exact ⟨_, _, _, rfl⟩

theorem ite {p : Prop} [Decidable p] {u : State} (ht : s.FanWrites t) (hu : s.FanWrites u) :
    s.FanWrites (if p then t else u) := by
  split
  · exact ht
  · exact hu

theorem fanSawRun (s : State) : s.FanWrites s.fanSawRun := ite (wrote s _ _) (refl s)
theorem fanSawInrush (s : State) : s.FanWrites s.fanSawInrush := ite (wrote s _ _) (refl s)

theorem fanSawRelease (s : State) : s.FanWrites s.fanSawRelease :=
  ite (ite (wrote s _ _) (ite (wrote s _ _) (wrote s _ _))) (refl s)

theorem fanRampStep (s : State) : s.FanWrites s.fanRampStep := by
  unfold State.fanRampStep
  split
  · exact refl s
  · exact ite (ite (of_fan s _) (wrote s _ _)) (refl s)

/-- The fan channel's record with a demand moves in the demand alone. -/
theorem same (h : s.FanWrites t) (d : Channel) : (t.chan d).st = (s.chan d).st ∧ (t.chan d).drive = (s.chan d).drive ∧
    (t.chan d).stop = (s.chan d).stop := by
  obtain ⟨n, src, e, hd⟩ := h.own d
  rw [hd]
  exact ⟨rfl, rfl, rfl⟩

end State.FanWrites

theorem State.fanAdmitted_writes (s t : State) (c : Channel) : t.FanWrites (s.fanAdmitted c t) := by
  unfold State.fanAdmitted
  split
  · exact .fanSawRun t
  · exact .fanSawInrush t

/-! ### Admissions -/

/-- `t` is `s` after admissions of heads (R62, R63). -/
structure State.Admits (s t : State) : Prop where
  cfg : t.cfg = s.cfg
  gates : t.gates = s.gates
  queue : t.queue.Sublist s.queue
  stays : ∀ d : Channel, (d ∈ s.queued → d ∈ t.queued) → t.chan d = s.chan d
  moves : ∀ d ∈ s.queued, d ∉ t.queued → (t.chan d).st = s.admittedSt d ∧ (t.chan d).drive = (s.chan d).drive
  window : ∃ l : List (Channel × Nat), t.window = s.window ++ l ∧ (l.map Prod.fst).Nodup ∧
    ∀ d : Channel, d ∈ l.map Prod.fst ↔ d ∈ s.queued ∧ d ∉ t.queued ∧ s.inrushTime d ≠ 0
  fan : (∀ c : Channel, s.fanChannel = some c → c ∈ s.queued → c ∈ t.queued) → t.fan = s.fan

namespace State.Admits

variable {s t u : State}

theorem refl (s : State) : s.Admits s :=
  ⟨rfl, rfl, .refl _, fun _ _ => rfl, fun _ h hn => absurd h hn,
    ⟨[], (List.append_nil _).symm, List.nodup_nil, fun d => by simpa using fun h hn => absurd h hn⟩, fun _ => rfl⟩

theorem queued (h : s.Admits t) {d : Channel} (hd : d ∈ t.queued) : d ∈ s.queued :=
  (h.queue.map Prod.fst).subset hd

theorem admittedSt_congr (h : t.cfg = s.cfg) (d : Channel) : t.admittedSt d = s.admittedSt d := by
  unfold State.admittedSt
  rw [State.inrushTime_congr h]

theorem trans (h : s.Admits t) (k : t.Admits u) : s.Admits u := by
  obtain ⟨l, hl, hnodup, hmem⟩ := h.window
  obtain ⟨m, hm, knodup, kmem⟩ := k.window
  refine ⟨k.cfg.trans h.cfg, k.gates.trans h.gates, k.queue.trans h.queue, fun d hd => ?_, fun d hd hn => ?_,
    ⟨l ++ m, by rw [hm, hl, List.append_assoc], ?_, fun d => ?_⟩, fun hc => ?_⟩
  · have hst : d ∈ s.queued → d ∈ t.queued := fun hs => k.queued (hd hs)
    rw [k.stays d fun ht => hd (h.queued ht), h.stays d hst]
  · by_cases ht : d ∈ t.queued
    · obtain ⟨hst, hdrive⟩ := k.moves d ht hn
      rw [hst, hdrive, h.stays d fun _ => ht, admittedSt_congr h.cfg]
      exact ⟨rfl, rfl⟩
    · rw [k.stays d fun hmem => absurd hmem ht]
      exact h.moves d hd ht
  · rw [List.map_append, List.nodup_append]
    refine ⟨hnodup, knodup, fun a ha b hb he => ?_⟩
    subst he
    exact ((hmem a).mp ha).2.1 ((kmem a).mp hb).1
  · rw [List.map_append, List.mem_append, hmem, kmem, State.inrushTime_congr h.cfg]
    have hsub : d ∈ u.queued → d ∈ t.queued := k.queued
    have hsub' : d ∈ t.queued → d ∈ s.queued := h.queued
    tauto
  · rw [k.fan fun c hfc ht => hc c ((State.fanChannel_congr h.cfg).symm.trans hfc) (h.queued ht),
      h.fan fun c hfc hs => k.queued (hc c hfc hs)]

/-- A place of the queue admitted, before the fan unit is told. -/
theorem admitted {c : Channel} (hc : c ∈ s.queued) : s.Admits (s.admitted c) := by
  have hmem (d : Channel) : d ∈ (s.admitted c).queued ↔ d ∈ s.queued ∧ d ≠ c := by
    rw [← State.mem_dequeue]
    unfold State.queued
    rw [State.admitted_queue]
  have hgates : (s.admitted c).gates = s.gates := by
    unfold State.admitted
    dsimp only
    split <;> rfl
  refine ⟨s.admitted_cfg c, hgates, ?_, fun d hd => ?_, fun d hd hn => ?_, ⟨_, s.admitted_window c, ?_, fun d => ?_⟩,
    fun _ => s.admitted_fan c⟩
  · rw [State.admitted_queue]
    exact List.filter_sublist
  · rw [State.admitted_chan, if_neg]
    rintro rfl
    exact ((hmem c).mp (hd hc)).2 rfl
  · obtain rfl : c = d := by
      by_contra hne
      exact hn ((hmem d).mpr ⟨hd, Ne.symm hne⟩)
    rw [State.admitted_chan, if_pos rfl]
    exact ⟨rfl, rfl⟩
  · split <;> simp
  · have : d ∈ s.queued ∧ d ∉ (s.admitted c).queued ↔ d = c := by
      rw [hmem]
      constructor
      · rintro ⟨hd, hn⟩
        by_contra hne
        exact hn ⟨hd, hne⟩
      · rintro rfl
        exact ⟨hc, fun hn => hn.2 rfl⟩
    rw [← and_assoc, this]
    by_cases h0 : s.inrushTime c = 0
    · simp only [h0, if_true, List.map_nil, List.not_mem_nil, false_iff, not_and]
      rintro rfl h
      exact h h0
    · simp only [h0, if_false, List.map_cons, List.map_nil, List.mem_singleton]
      exact ⟨fun hd => ⟨hd, hd ▸ h0⟩, fun hd => hd.1⟩

theorem admitOne {c : Channel} (hc : c ∈ s.queued) : s.Admits (s.admitOne c) := by
  rw [State.admitOne_eq]
  have ha := admitted hc
  have hout : c ∉ (s.admitted c).queued := by
    unfold State.queued
    rw [State.admitted_queue]
    exact fun h => (State.mem_dequeue.mp h).2 rfl
  by_cases hf : s.fanChannel = some c
  · rw [State.ifFan_fan ((State.isFan_congr ha.cfg c).trans (State.isFan_iff.mpr hf))]
    have hw := s.fanAdmitted_writes (s.admitted c) c
    have hqueued : (s.fanAdmitted c (s.admitted c)).queued = (s.admitted c).queued := congrArg (List.map Prod.fst) hw.queue
    refine ⟨hw.cfg.trans ha.cfg, hw.gates.trans ha.gates, hw.queue ▸ ha.queue, fun d hd => ?_, fun d hd hn => ?_, ?_, fun hk => ?_⟩
    · rw [hqueued] at hd
      rw [hw.others d, ha.stays d hd]
      rw [State.fanChannel_congr ha.cfg, hf]
      rintro he
      cases he
      exact hout (hd hc)
    · rw [hqueued] at hn
      obtain ⟨hst, hdrive, -⟩ := hw.same d
      rw [hst, hdrive]
      exact ha.moves d hd hn
    · rw [hw.window, hqueued]
      exact ha.window
    · rw [hqueued] at hk
      exact absurd (hk c hf hc) hout
  · rw [State.ifFan_notFan ((State.isFan_congr ha.cfg c).trans (State.isFan_false_iff.mpr hf))]
    exact ha

theorem admitLoop : ∀ (n : Nat) (s : State), s.Admits (admitLoop n s)
  | 0, s => refl s
  | n + 1, s => by
    unfold Machine.admitLoop
    split
    · exact refl s
    · rename_i c _ _ hq
      split
      · exact (admitOne (by simp [State.queued, hq])).trans (admitLoop n _)
      · exact refl s

theorem admitHeads (s : State) : s.Admits s.admitHeads := admitLoop _ s

theorem admitIfNewHead (s : State) (x : Option (Channel × Urgency)) : s.Admits (s.admitIfNewHead x) := by
  unfold State.admitIfNewHead
  split
  · exact refl s
  · exact admitHeads s

/-- A channel without a place stands. -/
theorem outside (h : s.Admits t) {d : Channel} (hd : d ∉ s.queued) : t.chan d = s.chan d ∧ d ∉ t.queued :=
  ⟨h.stays d fun hs => absurd hs hd, fun ht => hd (h.queued ht)⟩

/-- No channel's on-time moves. -/
theorem drive (h : s.Admits t) (d : Channel) : (t.chan d).drive = (s.chan d).drive := by
  by_cases hd : d ∈ s.queued → d ∈ t.queued
  · rw [h.stays d hd]
  · obtain ⟨hs, ht⟩ := Classical.not_imp.mp hd
    exact (h.moves d hs ht).2

/-- A channel's state stands, or the channel is admitted. -/
theorem st (h : s.Admits t) (d : Channel) : (t.chan d).st = (s.chan d).st ∨ (t.chan d).st = s.admittedSt d := by
  by_cases hd : d ∈ s.queued → d ∈ t.queued
  · exact .inl (by rw [h.stays d hd])
  · obtain ⟨hs, ht⟩ := Classical.not_imp.mp hd
    exact .inr (h.moves d hs ht).1

/-- A channel is in the set that was, or is admitted with an inrush time. -/
theorem windowed (h : s.Admits t) (d : Channel) :
    d ∈ t.windowed ↔ d ∈ s.windowed ∨ d ∈ s.queued ∧ d ∉ t.queued ∧ s.inrushTime d ≠ 0 := by
  obtain ⟨l, hl, -, hmem⟩ := h.window
  unfold State.windowed
  rw [hl, List.map_append, List.mem_append, hmem]

end State.Admits

theorem State.admittedSt_drives (s : State) (c : Channel) : (s.admittedSt c).drives = true := by
  unfold State.admittedSt
  split <;> rfl

theorem State.admittedSt_ne_waiting (s : State) (c : Channel) : s.admittedSt c ≠ .waiting := by
  unfold State.admittedSt
  split <;> decide

end Sys2Proof.Machine
end

section
/-! SUPPORT. The gates of a drive step (R48, R51), and the moments of an inrush expiry (R65). -/

namespace Sys2Proof.Machine
open Sys2Proof

/-! ### A drive step -/

theorem State.stepAllowed_iff (s : State) (n : Fin 250) :
    s.stepAllowed n.val = true ↔ s.clock = .started ∧ n.val = 0 ∨
      ∃ m : Nat, m < 250 ∧ s.clock = .step m ∧ n.val = m + 1 ∧ s.conversionDue = false := by
  have hn := n.isLt
  unfold State.stepAllowed
  cases s.clock with
  | awaiting => simp
  | started => simp
  | step m =>
    simp only [Bool.and_eq_true, beq_iff_eq, Bool.not_eq_true', reduceCtorEq, false_and, false_or, Clock.step.injEq]
    constructor
    · rintro ⟨h, hc⟩
      exact ⟨m, by omega, rfl, h, hc⟩
    · rintro ⟨_, -, rfl, h, hc⟩
      exact ⟨h, hc⟩

theorem State.gatesAt_out (s : State) (n : Nat) (c : Channel) : (s.gatesAt n).out[c] = s.gateAt c n := by
  have h : allChannels[c.val]'c.isLt = c := by
    revert c
    decide
  exact (List.getElem_map _).trans (congrArg (s.gateAt · n) h)

theorem State.gateAt_other {s : State} {c : Channel} (h : s.fanChannel ≠ some c) (n : Nat) :
    s.gateAt c n = true ↔ ((s.chRec c).phase ≤ n ∧ n < (s.chRec c).phase + (s.chan c).applied) ∨
      n + 250 < (s.chRec c).phase + (s.chan c).prevDuty := by
  unfold State.gateAt gateOn
  rw [if_neg (by simp [State.isFan_false_iff.mpr h])]
  simp

theorem State.gateAt_fan {s : State} {c : Channel} (h : s.fanChannel = some c) (n : Nat) :
    s.gateAt c n = true ↔ if n % 2 = 0 then 0 < (s.chan c).applied else 125 < (s.chan c).applied := by
  unfold State.gateAt fanGateOn
  rw [if_pos (State.isFan_iff.mpr h)]
  split <;> simp

theorem execDriveStep_running {x : StepStart} {s : State} (hr : s.settle.running = true) :
    execDriveStep x s = .next (if s.settle.stepAllowed x.n.val then s.settle.beginStep x.n.val x.sense else s) := by
  unfold execDriveStep
  rw [if_pos hr]

end Sys2Proof.Machine

open Sys2Proof Sys2Proof.Machine

/-- Settles O19: a step that is allowed sets the gates of `gatesAt`, channel by channel. -/
theorem driveStepSetsGates : Obligations.DriveStepSetsGates := by
  unfold Obligations.DriveStepSetsGates
  intro n sense s u hu hr follows
  have hexec : exec (.driveStep ⟨n, sense⟩) s = .next (if u.stepAllowed n.val then u.beginStep n.val sense else s) := by
    rw [← hu] at hr ⊢
    exact execDriveStep_running hr
  refine ⟨fun h => ?_, fun h => ⟨u.beginStep n.val sense, ?_, rfl, rfl, ?_, fun c hc => ?_, fun c hc => ⟨?_, ?_⟩⟩⟩
  · rw [hexec, if_neg fun ha => h ((u.stepAllowed_iff n).mp ha)]
  · rw [hexec, if_pos ((u.stepAllowed_iff n).mpr h)]
  · cases hf : u.fanChannel <;> simp [State.beginStep, hf]
  · exact (Bool.eq_iff_iff.mp (u.gatesAt_out n.val c)).trans (State.gateAt_other hc n.val)
  · simp [State.beginStep, State.gatesAt, hc, fanTicksAt]
  · exact (Bool.eq_iff_iff.mp (u.gatesAt_out n.val c)).trans (State.gateAt_fan hc n.val)

end

section
/-! SUPPORT. An inrush expiry (R65): when it comes, and what it does to the channel, the queue and the fan. -/

namespace Sys2Proof.Machine
open Sys2Proof

/-! ### The head that the admission test leaves -/

/-- The head of the queue, if there is one, fails the admission test (R62). -/
def State.HeadFails (s : State) : Prop :=
  ∀ d : Channel, s.queued.head? = some d → s.window ≠ [] ∧
    s.cfg.supply.allowance < s.windowSum + (s.chRec d).rated * (s.chRec d).inrushFactor

theorem State.admissible_false_iff (s : State) (d : Channel) : s.admissible d = false ↔
    s.window ≠ [] ∧ s.cfg.supply.allowance < s.windowSum + (s.chRec d).rated * (s.chRec d).inrushFactor := by
  unfold State.admissible State.expected
  rw [Bool.or_eq_false_iff, decide_eq_false_iff_not, Nat.not_le]
  simp

theorem State.admitHeads_headFails (s : State) : s.admitHeads.HeadFails := by
  intro d hd
  refine (State.admissible_false_iff _ d).mp ?_
  unfold State.queued at hd
  cases hq : s.admitHeads.queue with
  | nil => simp [hq] at hd
  | cons x rest =>
    obtain rfl : x.1 = d := by simpa [hq] using hd
    exact s.admit_head x.1 x.2 rest hq

/-! ### When an inrush timer expires -/

theorem State.inrushDue_iff (s : State) (c : Channel) :
    s.inrushDue c = true ↔ s.running = true ∧ (s.chan c).st = .inrush ∧ (s.chan c).inrushTimer = some 0 := by
  simp [State.inrushDue, and_assoc]

theorem State.inrushEarly_iff (s : State) (c : Channel) :
    s.inrushEarly c = true ↔
      s.running = true ∧ (s.clock = .awaiting ∨ s.clock = .step 249 ∧ s.conversionDue = false) ∧
        (s.chan c).st = .inrush ∧ (s.chan c).inrushTimer = some 1 ∧ (s.chan c).admCount ≠ none ∧
        s.fanChannel ≠ some c := by
  simp [State.inrushEarly, ← State.boundary_iff, ← State.isFan_false_iff, and_assoc, Option.isSome_iff_ne_none]

/-! ### What it does -/

/-- The record of a channel whose inrush timer has expired (R65, R82). -/
def Chan.expired (ch : Chan) : Chan :=
  { ch with
    st := .run, inrushTimer := none, opening := false, runCount := if ch.inrushTimer = some 0 then some 0 else none }

/-- The channel in RUN and out of the in-window set, the fan unit not having been told yet. -/
def State.expired (s : State) (c : Channel) : State := (s.modChan c Chan.expired).leaveWindow c

theorem State.inrushExpire_eq (s : State) (c : Channel) :
    s.inrushExpire c = ((s.expired c).ifFan c State.fanSawRun).admitHeads := rfl

theorem State.expired_chan (s : State) (c d : Channel) :
    (s.expired c).chan d = if c = d then (s.chan c).expired else s.chan d := s.chan_modChan c d Chan.expired

theorem State.leaveWindow_inWindow (s : State) (c d : Channel) :
    (s.leaveWindow c).inWindow d = true ↔ d ≠ c ∧ s.inWindow d = true := by
  simp only [State.leaveWindow, State.inWindow, State.setWindow, List.any_filter, List.any_eq_true, beq_iff_eq,
    Bool.and_eq_true, bne_iff_ne]
  constructor
  · rintro ⟨w, hw, hne, rfl⟩
    exact ⟨hne, w, hw, rfl⟩
  · rintro ⟨hne, w, hw, rfl⟩
    exact ⟨w, hw, hne, rfl⟩

theorem State.FanWrites.ifFan {s : State} {f : State → State} (c : Channel) (h : s.FanWrites (f s)) :
    s.FanWrites (s.ifFan c f) := .ite h (.refl s)

theorem State.FanWrites.queued {s t : State} (h : s.FanWrites t) : t.queued = s.queued :=
  congrArg (List.map Prod.fst) h.queue

/-- The fan unit told that its channel, whose kick ends, has entered RUN (R162). -/
theorem State.fanSawRun_ramps {s : State} {c : Channel} (hc : s.fanChannel = some c)
    (hst : s.fan.st = .kick ∨ s.fan.st = .starting) :
    let d := min s.cfg.fan.kickDuty s.capDuty
    s.fanSawRun.fan = { s.fan with st := .ramp, ramp := d } ∧ (s.fanSawRun.chan c).demand = d ∧
      (s.fanSawRun.chan c).source = .steady := by
  unfold State.fanSawRun State.fanRamp State.fanWrite
  rw [if_pos hst, show ∀ v : Fan, (s.setFan v).fanChannel = some c from fun _ => hc]
  simp

/-- An expiry, from a queue of the WAITING channels (R57): what stands before the admission test follows. -/
structure State.Expires (s : State) (c : Channel) (u t : State) : Prop where
  unqueued : c ∉ u.queued
  writes : (s.expired c).FanWrites u
  told : u = (s.expired c).ifFan c State.fanSawRun
  admits : u.Admits t
  head : t.HeadFails

theorem State.inrushExpire_expires {s : State} {c : Channel} (hq : s.QueueIsWaiting) (hst : (s.chan c).st = .inrush) :
    ∃ u, s.Expires c u (s.inrushExpire c) := by
  have hw : (s.expired c).FanWrites ((s.expired c).ifFan c State.fanSawRun) := .ifFan c (.fanSawRun _)
  refine ⟨_, ?_, hw, rfl, .admitHeads _, State.admitHeads_headFails _⟩
  rw [hw.queued]
  exact fun hc => absurd (hst.symm.trans ((hq.2.1 c).mp hc)) (by decide)

namespace State.Expires

variable {s u t : State} {c : Channel} (h : s.Expires c u t)
include h

theorem cfg : u.cfg = s.cfg := h.writes.cfg

theorem queued : u.queued = s.queued := h.writes.queued

/-- The channel's own record; a fan may have written its demand. -/
theorem record : (t.chan c).st = .run ∧ (t.chan c).inrushTimer = none ∧ (t.chan c).opening = false ∧
    (t.chan c).runCount = (if (s.chan c).inrushTimer = some 0 then some 0 else none) ∧
    (t.chan c).applied = (s.chan c).applied ∧ (t.chan c).trips = (s.chan c).trips := by
  obtain ⟨n, src, e, hc⟩ := h.writes.own c
  rw [(h.admits.outside h.unqueued).1, hc, State.expired_chan, if_pos rfl]
  exact ⟨rfl, rfl, rfl, rfl, rfl, rfl⟩

theorem left : t.inWindow c = false := by
  refine Bool.eq_false_iff.mpr fun hin => ?_
  rcases (h.admits.windowed c).mp (State.inWindow_iff.mp hin) with hin | ⟨hin, -⟩
  · have hu : u.inWindow c = (s.expired c).inWindow c := by
      unfold State.inWindow
      rw [h.writes.window]
    rw [← State.inWindow_iff, hu] at hin
    exact ((State.leaveWindow_inWindow _ c c).mp hin).1 rfl
  · exact h.unqueued hin

/-- A channel that is neither queued nor the fan's stands. -/
theorem stands {d : Channel} (hd : d ≠ c) (hf : s.fanChannel ≠ some d) (hw : d ∉ s.queued) : t.chan d = s.chan d := by
  rw [(h.admits.outside (h.queued ▸ hw)).1, h.writes.others d hf, State.expired_chan, if_neg hd.symm]

/-- A queued channel keeps its place or is admitted. -/
theorem waits {d : Channel} (hd : d ≠ c) (hw : d ∈ s.queued) :
    ((t.chan d).st = (s.chan d).st ∧ d ∈ t.queued) ∨ (t.chan d).st = s.admittedSt d ∧ d ∉ t.queued := by
  rw [← h.queued] at hw
  by_cases ht : d ∈ t.queued
  · refine .inl ⟨?_, ht⟩
    rw [h.admits.stays d fun _ => ht, (h.writes.same d).1, State.expired_chan, if_neg hd.symm]
  · exact .inr ⟨(h.admits.moves d hw ht).1.trans (State.Admits.admittedSt_congr h.cfg d), ht⟩

/-- The fan whose kick ends (R162). -/
theorem ramps (hc : s.fanChannel = some c) (hst : s.fan.st = .kick ∨ s.fan.st = .starting) :
    let d := min s.cfg.fan.kickDuty s.capDuty
    t.fan = { s.fan with st := .ramp, ramp := d } ∧ (t.chan c).demand = d ∧ (t.chan c).source = .steady := by
  have hchannel : u.fanChannel = some c := (State.fanChannel_congr h.cfg).trans hc
  have hu : u = (s.expired c).fanSawRun := h.told.trans (State.ifFan_fan (s := s.expired c) (State.isFan_iff.mpr hc) _)
  rw [(h.admits.outside h.unqueued).1, h.admits.fan fun d hd hq => ?_, hu]
  · exact State.fanSawRun_ramps (s := s.expired c) hc hst
  · obtain rfl : c = d := Option.some.inj (hchannel.symm.trans hd)
    exact absurd hq h.unqueued

end State.Expires

theorem State.inrushExpire_only (s : State) (c : Channel) :
    s.inrushExpire c = { s with
      chans := (s.inrushExpire c).chans, queue := (s.inrushExpire c).queue, window := (s.inrushExpire c).window,
      fan := (s.inrushExpire c).fan } :=
  s.inrushExpire_keep (fun y => { y with
    chans := (s.inrushExpire c).chans, queue := (s.inrushExpire c).queue, window := (s.inrushExpire c).window,
    fan := (s.inrushExpire c).fan }) (fun _ _ => rfl) (fun _ _ => rfl) (fun _ _ => rfl) (fun _ _ => rfl) c

end Sys2Proof.Machine

open Sys2Proof Sys2Proof.Machine

/-- Settles O20: the moments by `inrushDue` and `inrushEarly`, the effects by `State.Expires`. -/
theorem inrushExpires : Obligations.InrushExpires := by
  unfold Obligations.InrushExpires
  intro c s expired expires
  have hdue : (s.inrushDue c || s.inrushEarly c) = true ↔ expired ∨ expires := by
    rw [Bool.or_eq_true, State.inrushDue_iff, State.inrushEarly_iff]
  have hexec : exec (.inrushExpiry c) s = .next (if s.inrushDue c || s.inrushEarly c then s.inrushExpire c else s) := rfl
  refine ⟨fun h1 h2 => ?_, fun h hq => ⟨s.inrushExpire c, ?_, s.inrushExpire_only c, ?_⟩⟩
  · rw [hexec, if_neg fun hd => (hdue.mp hd).elim h1 h2]
  · rw [hexec, if_pos (hdue.mpr h)]
  have hst : (s.chan c).st = .inrush := h.elim (fun h => h.2.1) fun h => h.2.2.1
  obtain ⟨u, hu⟩ := s.inrushExpire_expires hq hst
  obtain ⟨hrun, htimer, hopening, hcount, happlied, htrips⟩ := hu.record
  refine ⟨hrun, htimer, hopening, hcount, happlied, htrips, hu.left, fun d hd hf hw => ?_, fun d hd hw => ?_, hu.ramps,
    hu.head⟩
  · exact hu.stands hd hf fun hm => hw ((hq.2.1 d).mp hm)
  · have hwaits := hu.waits hd ((hq.2.1 d).mpr hw)
    rwa [hw] at hwaits

end

section
/-! SUPPORT. One principle for the invariants of the output stage and of the records, first part: what it takes for a
property to pass through the actions of the fan unit and of the admission queue (R57 to R66, R78 to R81, R159 to R167). -/

namespace Sys2Proof.Machine
open Sys2Proof

/-! ### Duties in range -/

/-- A duty is at most 250 in every state whose values and duties are in range: a property that says nothing about
duties may ignore it. -/
def State.Bounds (s : State) (d : Nat) : Prop := s.ValuesOfKind → s.DutiesInRange → d ≤ 250

namespace State.Bounds

variable (s : State) {d e : Nat}

theorem zero : s.Bounds 0 := fun _ _ => Nat.zero_le _

theorem applied (c : Channel) : s.Bounds (s.chan c).applied := fun _ h => (h.1 c).2.1

theorem target : s.Bounds s.fan.target := fun _ h => h.2.2.1

theorem ramp : s.Bounds s.fan.ramp := fun _ h => h.2.2.2.1

theorem kick : s.Bounds s.cfg.fan.kickDuty := fun _ h => h.2.2.2.2.1.2.2.2

theorem stepDuty (n : Nat) : s.Bounds (s.cfg.fan.stepDuty n) := fun _ h => by
  obtain ⟨h1, h2, h3, -⟩ := h.2.2.2.2.1
  unfold FanRec.stepDuty
  split
  · exact Nat.zero_le _
  · exact h1
  · exact h2
  · exact h3

theorem faulted : s.Bounds s.faultedDemand := fun hv hd => by
  unfold State.faultedDemand
  split
  · exact kick s hv hd
  · exact Nat.zero_le _

variable {s}

theorem min_left (h : s.Bounds d) : s.Bounds (min d e) := fun hv hd => (Nat.min_le_left d e).trans (h hv hd)

/-- A duty moved toward a target lies between the two (R163). -/
theorem moved (h : s.Bounds d) (k : s.Bounds e) (rate : Nat) : s.Bounds (moveToward d e rate) := fun hv hd => by
  have hd' := h hv hd
  have he := k hv hd
  unfold moveToward
  split <;> omega

end State.Bounds

/-! ### The principle for the output stage and the fan unit -/

/-- The channel in WAITING with its place in the queue, no admission having followed yet (R58). -/
def State.joined (s : State) (c : Channel) : State :=
  (s.modChan c fun ch => { ch with st := .waiting }).setQueue
    (if (s.chan c).stop then placeUrgent s.queue c else s.queue ++ [(c, .normal)])

theorem State.join_eq (s : State) (c : Channel) : s.join c = (s.joined c).admitIfNewHead s.queue.head? := rfl

/-- What it takes for a property to pass through the fan unit's actions, admissions, joins and releases: fields that it
does not read, and the actions on the others. -/
structure OutputInvariant (P : State → Prop) : Prop where
  pending : Free_pending P
  power : Free_power P
  clock : Free_clock P
  ports : Free_ports P
  slots : Free_slots P
  inputs : Free_inputs P
  flash : Free_flash P
  sup : Free_sup P
  seq : Free_seq P
  /-- A channel's record moves, but for its state, its demand, its marks and its on-times. -/
  chan : ∀ (s : State) (c : Channel) (f : Chan → Chan), (f (s.chan c)).st = (s.chan c).st →
    (f (s.chan c)).written = (s.chan c).written → (f (s.chan c)).drive = (s.chan c).drive → P s → P (s.modChan c f)
  fan : ∀ (s : State) (v : Fan), s.Bounds v.target → s.Bounds v.ramp → P s → P (s.setFan v)
  fanDemand : ∀ (s : State) (c : Channel) (d : Nat), s.fanChannel = some c → s.Bounds d → P s →
    P (s.writeDemand c d .steady)
  admitted : ∀ (s : State) (c : Channel), c ∈ s.queued → P s → P (s.admitted c)
  join : ∀ (s : State) (c : Channel), (s.chan c).st = .off → P s → P (s.joined c)
  /-- A tripped channel goes to OFF (R78, R81). -/
  freed : ∀ (s : State) (c : Channel) (f : Chan → Chan), (s.chan c).st.Tripped → (f (s.chan c)).st = .off →
    (f (s.chan c)).written = (s.chan c).written → (f (s.chan c)).drive = (s.chan c).drive → P s → P (s.modChan c f)
  /-- The cut of R164. -/
  cut : ∀ (s : State) (c : Channel), (s.chan c).st = .run → P s → P ((s.modChan c fun ch => ch.stopped .off).negateGate c)
  expired : ∀ (s : State) (c : Channel), (s.chan c).st = .inrush → P s → P (s.expired c)

namespace OutputInvariant

open ClaimInvariant (of_ite)

variable {P : State → Prop} (h : OutputInvariant P) {s : State}
include h

/-! ### The fan unit -/

theorem fanWrite {d : Nat} (hd : s.Bounds d) (hs : P s) : P (s.fanWrite d) := by
  unfold State.fanWrite
  split
  · exact h.fanDemand s _ d ‹_› hd hs
  · exact hs

theorem setFan_fanWrite {v : Fan} {d : Nat} (ht : s.Bounds v.target) (hr : s.Bounds v.ramp) (hd : (s.setFan v).Bounds d)
    (hs : P s) : P ((s.setFan v).fanWrite d) := h.fanWrite hd (h.fan s v ht hr hs)

theorem fanStop (hs : P s) : P s.fanStop := h.setFan_fanWrite (.target s) (.zero s) (.zero _) hs

theorem fanSuspend (hs : P s) : P s.fanSuspend := h.setFan_fanWrite (.target s) (.zero s) (.zero _) hs

theorem fanStarting (hs : P s) : P s.fanStarting := h.setFan_fanWrite (.target s) (.ramp s) (.kick (s.setFan _)) hs

theorem fanKick (hs : P s) : P s.fanKick := h.setFan_fanWrite (.target s) (.ramp s) (.kick (s.setFan _)) hs

theorem fanRamp {d : Nat} (hd : s.Bounds d) (hs : P s) : P (s.fanRamp d) :=
  h.setFan_fanWrite (.target s) hd (.ramp (s.setFan { s.fan with st := .ramp, ramp := d })) hs

theorem fanFault (hs : P s) : P s.fanFault := h.setFan_fanWrite (.target s) (.zero s) (.faulted _) hs

theorem fanStart (hs : P s) : P s.fanStart := by
  unfold State.fanStart
  split
  · exact hs
  · split
    · exact h.fanStarting hs
    · exact h.fanStarting hs
    · exact h.fanKick hs
    · exact h.fanRamp ((State.Bounds.applied s _).moved (.target s) _) hs
    · exact h.fanFault hs
    · exact h.fanFault hs

theorem fanStartOrSuspend (hs : P s) : P s.fanStartOrSuspend := of_ite (fun _ => h.fanSuspend hs) (h.fanStart hs)

theorem fanRetarget (hs : P s) : P s.fanRetarget := by
  unfold State.fanRetarget
  extract_lets requested capped target old _ t
  have ht : P t := h.fan s _ (.stepDuty s capped) (.ramp s) hs
  split
  · exact ht
  · split
    · exact of_ite (fun _ => h.fanStartOrSuspend ht) ht
    iterate 4 exact of_ite (fun _ => h.fanStop ht) ht
    · exact of_ite (fun _ => h.fanStop ht) (of_ite (fun _ => ht) (h.fan t _ (.target t) (.ramp t) ht))
    · exact h.fanWrite (.faulted t) ht

theorem fanSawInrush (hs : P s) : P s.fanSawInrush := of_ite (fun _ => h.fanKick hs) hs

theorem fanSawRun (hs : P s) : P s.fanSawRun := of_ite (fun _ => h.fanRamp (State.Bounds.kick s).min_left hs) hs

theorem fanSawRelease (hs : P s) : P s.fanSawRelease :=
  of_ite (fun _ => of_ite (fun _ => h.fanStop hs) (of_ite (fun _ => h.fanSuspend hs) (h.fanStarting hs))) hs

theorem fanCrankEntry (hs : P s) : P s.fanCrankEntry := by
  unfold State.fanCrankEntry
  cases s.fan.st with
  | starting | kick | ramp | running => exact h.fanSuspend hs
  | faulted => exact h.fanWrite (.faulted s) hs
  | stopped | suspended => exact hs

theorem fanCrankExit (hs : P s) : P s.fanCrankExit := by
  unfold State.fanCrankExit
  cases s.fan.st with
  | suspended => exact of_ite (fun _ => hs) (h.fanStart hs)
  | faulted => exact h.fanWrite (.faulted s) hs
  | stopped | starting | kick | ramp | running => exact hs

theorem fanRampStep (hs : P s) : P s.fanRampStep := by
  unfold State.fanRampStep
  split
  · exact hs
  · rename_i c _
    have hd : s.Bounds (moveToward (s.chan c).applied s.fan.target s.cfg.fan.rampRate) :=
      (State.Bounds.applied s c).moved (.target s) _
    refine of_ite (fun _ => of_ite (fun _ => h.fan s _ (.target s) (.target s) hs) ?_) hs
    exact h.setFan_fanWrite (.target s) hd (.ramp (s.setFan { s.fan with ramp := _ })) hs

theorem fanCount {v : Fan} (hv : v = { s.fan with stallRun := v.stallRun, report := v.report }) (hs : P s) :
    P (s.setFan v) := by
  rw [hv]
  exact h.fan s _ (.target s) (.ramp s) hs

theorem fanSample (hs : P s) (c : Channel) (n : Nat) : P (s.fanSample c n) := by
  refine of_ite (fun _ => h.fanCount ?_ hs) hs
  unfold Fan.countStall
  split
  · rfl
  · split <;> rfl

theorem fanChannelChanged (hs : P s) (old : Option Channel) : P (s.fanChannelChanged old) := by
  unfold State.fanChannelChanged
  have ht : P (if old.isSome then s.setFan { s.fan with st := .stopped, ramp := 0, stallRun := 0 } else s) :=
    of_ite (fun _ => h.fan s _ (.target s) (.zero s) hs) hs
  exact of_ite (fun _ => hs) (of_ite (fun _ => ht) (of_ite (fun _ => h.fanStop ht) (h.fanStartOrSuspend ht)))

omit h in
theorem ifFan {c : Channel} {f : State → State} (hf : P s → P (f s)) (hs : P s) : P (s.ifFan c f) := of_ite (fun _ => hf hs) hs

/-! ### Admission -/

theorem admitOne {c : Channel} (hc : c ∈ s.queued) (hs : P s) : P (s.admitOne c) := by
  rw [State.admitOne_eq]
  refine ifFan (fun ht => ?_) (h.admitted s c hc hs)
  unfold State.fanAdmitted
  split
  · exact h.fanSawRun ht
  · exact h.fanSawInrush ht

theorem admitLoop : ∀ (n : Nat) {s : State}, P s → P (admitLoop n s)
  | 0, _, hs => hs
  | n + 1, s, hs => by
    unfold Machine.admitLoop
    split
    · exact hs
    · rename_i c _ _ hq
      exact of_ite (fun _ => admitLoop n (h.admitOne (by simp [State.queued, hq]) hs)) hs

theorem admitHeads (hs : P s) : P s.admitHeads := h.admitLoop _ hs

theorem admitIfNewHead (hs : P s) (x : Option (Channel × Urgency)) : P (s.admitIfNewHead x) :=
  of_ite (fun _ => hs) (h.admitHeads hs)

theorem joinQueue {c : Channel} (hc : (s.chan c).st = .off) (hs : P s) : P (s.join c) :=
  h.admitIfNewHead (h.join s c hc hs) _

/-! ### Events, requests and health counters -/

theorem raise (hs : P s) (k : EventKind) : P (s.raise k) := (s.raise_keep P h.slots k).mpr hs

theorem abandon (hs : P s) (x : Source) : P (s.abandon x) := (s.abandon_keep P h.seq x).mpr hs

theorem runCountReach (hs : P s) (c : Channel) : P (s.runCountReach c) := h.chan s c _ rfl rfl rfl hs

theorem bulbSet (hs : P s) (c : Channel) : P (s.bulbSet c) := h.raise (h.chan s c _ rfl rfl rfl hs) _

theorem bulbClear (hs : P s) (c : Channel) : P (s.bulbClear c) := h.raise (h.chan s c _ rfl rfl rfl hs) _

theorem resetHealth (hs : P s) (c : Channel) : P (s.resetHealth c) := by
  have ht := h.chan s c Chan.healed rfl rfl rfl hs
  exact of_ite (fun _ => h.raise ht _) ht

theorem openLoad (hs : P s) (c : Channel) (n : Nat) : P (s.openLoad c n) := by
  refine of_ite (fun _ => h.chan s c _ ?_ ?_ ?_ hs) hs
  all_goals
    unfold Chan.sampled
    split <;> rfl

/-! ### Releases, cuts and expiries -/

theorem release {c : Channel} (hc : (s.chan c).st = .latched) (hs : P s) : P (s.release c) :=
  ifFan (fun ht => h.fanSawRelease ht) (h.freed s c _ (.inr hc) rfl rfl rfl hs)

theorem releaseIfDue (hs : P s) (c : Channel) : P (s.releaseIfDue c) := of_ite (fun hc => h.release hc.1 hs) hs

theorem cutFan {c : Channel} (hc : (s.chan c).st = .run) (hs : P s) : P (s.cut c) := h.abandon (h.cut s c hc hs) _

theorem fanShed (hs : P s) (n : Nat) : P (s.fanShed n) := by
  unfold State.fanShed
  have ht := h.fanRetarget hs
  extract_lets t
  split
  · exact ht
  · rename_i c _
    refine of_ite (fun hc => ?_) ht
    have hu := h.cutFan hc.1 ht
    exact of_ite (fun _ => h.fanStop hu) (h.fanStarting hu)

theorem inrushExpire {c : Channel} (hc : (s.chan c).st = .inrush) (hs : P s) : P (s.inrushExpire c) := by
  rw [State.inrushExpire_eq]
  exact h.admitHeads (ifFan (fun ht => h.fanSawRun ht) (h.expired s c hc hs))

theorem coolOffExpire {c : Channel} (hc : (s.chan c).st = .cooling) (hs : P s) : P (s.coolOffExpire c) := by
  unfold State.coolOffExpire
  extract_lets ch t rejoins
  have ht : P (t.ifFan c State.fanSawRelease) :=
    ifFan (fun ht => h.fanSawRelease ht) (h.freed s c _ (.inl hc) rfl rfl rfl hs)
  have hoff : ((t.ifFan c State.fanSawRelease).chan c).st = .off := by
    rw [((State.FanWrites.fanSawRelease t).ifFan c).same c |>.1]
    exact congrArg Chan.st ((s.chan_modChan c c _).trans (if_pos rfl))
  exact of_ite (fun _ => h.joinQueue hoff ht) ht

end OutputInvariant
end Sys2Proof.Machine
end

section
/-! SUPPORT. One principle for the invariants of the output stage and of the records, second part: what it takes for a
property to be kept by the composer, the arbiter, the gauge unit, the supervisor and the drive period. -/

namespace Sys2Proof.Machine
open Sys2Proof

/-- The computed duty is at most 250 (R150). -/
theorem gaugeDuty_le (vt vf : Nat) : gaugeDuty vt vf ≤ 250 := by
  unfold gaugeDuty
  split
  · exact le_rfl
  · have hsq : vt ^ 2 + 1 ≤ vf ^ 2 := by
      have : (vt + 1) ^ 2 ≤ vf ^ 2 := Nat.pow_le_pow_left (by omega) 2
      nlinarith
    exact Nat.lt_succ_iff.mp ((Nat.div_lt_iff_lt_mul (by omega)).mpr (by omega))

theorem one_le_fnTop (f : Fn) : 1 ≤ fnTop f := by
  unfold fnTop
  split
  · omega
  · split <;> omega

/-- What it takes for a property to be kept by every step, beside the actions of the fan unit and the queue. -/
structure StageInvariant (P : State → Prop) : Prop where
  out : OutputInvariant P
  trip : ∀ (s : State) (c : Channel) (k : TripCause), (s.chan c).st.drives = true → P s → P (s.trip c k)
  recompute : ∀ (s : State) (c : Channel), P s → P (s.recompute c)
  takeUp : ∀ s : State, P s → P s.takeUpAll
  gauge : ∀ (s : State) (g : GaugeId) (v : GaugeSlot), s.Bounds v.duty → P s → P (s.setGauge g v)
  gaugeWrite : ∀ (s : State) (g : GaugeId) (d : Nat), d ≤ 250 → P s → P (s.gaugeWrite g d)
  /-- The gates move; one of a channel that is not driven stands negated. -/
  gates : ∀ (s : State) (v : Gates),
    (∀ c : Channel, (s.chRec c).phase ≤ 249 → (s.chan c).drive = (0, 0) → v.out[c] = false) → P s → P (s.setGates v)
  claim : ∀ (s : State) (f : Fn) (k : Claimant) (v : Option Claim),
    (∀ c : Claim, v = some c → s.ValuesOfKind → c.value ≤ fnTop f) → P s → P (s.setCell f k v)
  result : ∀ (s : State) (f : Fn) (v : Nat), (s.ValuesOfKind → v ≤ fnTop f) → P s → P (s.setResult f v)
  /-- A record other than a CHANNEL, MAP or FAN record is replaced. -/
  cfg : ∀ (s : State) (v : Working), v.channels = s.cfg.channels → v.map = s.cfg.map → v.fan = s.cfg.fan → P s →
    P (s.setCfg v)
  newChannel : ∀ (s : State) (w : WChannel) (x : Channel × ChannelRec) (b : Bool), s.checkChannel w = .accepted x b →
    P s → P (s.withChannelRec x)
  newMap : ∀ (s : State) (w : WMap) (x : Fin 32 × Option MapEntry) (b : Bool), s.checkMap w = .accepted x b →
    P s → P (s.withEntry x)
  newFan : ∀ (s : State) (w r : FanRec) (b : Bool), s.checkFan w = .accepted r b → P s →
    P (s.setCfg { s.cfg with fan := r })
  /-- A store write begins, of a record whose numbers are in their ranges. -/
  storeWrite : ∀ (s : State) (r : ConfigRecord), r.InRange →
    (∀ (c : Channel) (x : ChannelRec), r = .channel c x → x.phase ≤ 249) → P s → P (s.setStoreWrite (some r))
  stored : ∀ (s : State) (r : ConfigRecord), s.storeWrite = some r → P s →
    P ((s.setStore (s.store.write r true)).setStoreWrite none)
  begin : ∀ (s : State) (k : ResetKind), P s → P (s.begin k)
  brownOut : ∀ s : State, P s → P s.brownOut

namespace StageInvariant

open ClaimInvariant (of_ite whenDue foldl)

variable {P : State → Prop} (h : StageInvariant P) {s : State}
include h

/-! ### The composer and the arbiter -/

theorem recomputeWhere (hs : P s) (p : Channel → Bool) : P (s.recomputeWhere p) :=
  foldl hs fun t c ht => h.recompute t c ht

theorem flash (hs : P s) (v : Flash) : P (s.setFlash v) := (s.setFlash_keep P h.out.flash v).mpr hs

theorem flashTest (hs : P s) : P s.flashTest := by
  unfold State.flashTest
  split
  · split
    · exact h.flash hs _
    · exact hs
    · exact hs
    · exact hs
  · split
    · exact hs
    · exact h.recomputeWhere (h.flash hs _) _
    · exact h.recomputeWhere (h.flash hs _) _
    · exact h.recomputeWhere (h.flash hs _) _

theorem handOn (hs : P s) (f : Fn) (side : Bool) : P (s.handOn f side) := by
  have ht : P ((if f = .fan then s.fanRetarget else s).composeFor f side) :=
    h.recomputeWhere (of_ite (fun _ => h.out.fanRetarget hs) hs) _
  exact of_ite (fun _ => h.flashTest ht) ht

theorem reevaluate (hs : P s) (f : Fn) : P (s.reevaluate f) :=
  of_ite (fun _ => hs) (h.handOn (h.result s f _ (fun hv => State.evaluated_le_fnTop (hv.1 f)) hs) f _)

theorem reevaluateAll (hs : P s) (l : List Fn) : P (s.reevaluateAll l) := foldl hs fun _ f ht => h.reevaluate ht f

theorem writeCell (hs : P s) (f : Fn) (k : Claimant) (v : Option Claim)
    (hv : ∀ c : Claim, v = some c → s.ValuesOfKind → c.value ≤ fnTop f) : P (s.writeCell f k v) :=
  of_ite (fun _ => hs) (h.reevaluate (h.claim s f k v hv hs) f)

theorem withdraw (hs : P s) (f : Fn) (k : Claimant) : P (s.writeCell f k none) :=
  h.writeCell hs f k none fun _ hc => nomatch hc

theorem localClaim (hs : P s) (f : Fn) (l : Bool) : P (s.localClaim f l) := by
  refine h.writeCell hs f _ _ fun c hc _ => ?_
  cases l <;> cases hc
  exact one_le_fnTop f

/-- The slots are the events' and the silence's alone. -/
theorem slotFree : SlotFree P where
  slots := h.out.slots
  records s v := propext ⟨h.cfg (s.setCfg { s.cfg with slots := v }) s.cfg rfl rfl rfl, h.cfg s _ rfl rfl rfl⟩
  write s f k v hv hs := h.writeCell hs f k v fun c hc hk => by
    obtain ⟨d, hd, he⟩ := hv c hc
    exact he ▸ hk.1 f k d hd

theorem claimPairs (hs : P s) (m : SlotId) (l : List (Byte × Byte)) : P (s.claimPairs m l) := by
  refine foldl hs fun t q ht => ?_
  unfold State.claimPair
  split
  · exact ht
  · refine h.writeCell ht _ _ _ fun c hc _ => ?_
    obtain ⟨n, hn, rfl⟩ := Option.map_eq_some_iff.mp hc
    exact reduceWire_le_fnTop hn

theorem claimColumn (hs : P s) (m : SlotId) (l : List (Byte × Byte)) : P (s.claimColumn m l) :=
  h.claimPairs (foldl hs fun _ f ht => h.withdraw ht f _) m _

theorem countSlot (hs : P s) (m : SlotId) : P (s.countSlot m) := by
  refine h.slotFree.setSlot (of_ite (fun _ => hs) (foldl hs fun t f ht => ?_)) m _
  split
  · rename_i v o n hcell
    refine h.claim t f _ _ (fun c hc hk => ?_) ht
    cases hc
    exact hk.1 f _ { value := v, orphaned := o, hold := some n } hcell
  · exact ht

/-! ### The gauge unit -/

theorem setGauge (hs : P s) (g : GaugeId) (v : GaugeSlot) (hd : v.duty = (s.gauge g).duty) : P (s.setGauge g v) :=
  h.gauge s g v (fun _ hr => hd ▸ hr.2.1 g) hs

theorem gaugeRecompute (hs : P s) (g : GaugeId) : P (s.gaugeRecompute g) := by
  unfold State.gaugeRecompute
  split
  · rename_i vt vf _ _
    have ht := h.gaugeWrite _ g _ (gaugeDuty_le vt vf)
      (h.setGauge hs g { s.gauge g with vt := some vt, under := gaugeUnder vt vf } rfl)
    exact of_ite (fun _ => of_ite (fun _ => ht) (h.out.raise ht _)) hs
  · exact hs

theorem gaugesRecompute (hs : P s) : P s.gaugesRecompute := foldl hs fun _ g ht => h.gaugeRecompute ht g

theorem gaugeRest (hs : P s) (g : GaugeId) : P (s.gaugeRest g) :=
  h.out.raise (h.gaugeWrite _ g 0 (by omega) (h.setGauge hs g _ (by rfl))) _

theorem gaugeFault (hs : P s) (g : GaugeId) : P (s.gaugeFault g) := by
  have ht : P ((s.setGauge g { s.gauge g with
      st := .faultHold, recoveryRun := 0, timer := some (s.gaugeRec g).faultHold }).raise .gauge) :=
    h.out.raise (h.setGauge hs g _ (by rfl)) _
  exact of_ite (fun _ => h.gaugeRest ht g) ht

theorem gaugeRecover (hs : P s) (g : GaugeId) : P (s.gaugeRecover g) :=
  h.out.raise (h.gaugeRecompute (h.setGauge hs g _ (by rfl)) g) _

theorem gaugeFinishReading (hs : P s) (g : GaugeId) : P (s.gaugeFinishReading g) :=
  of_ite (fun _ => h.gaugeFault hs g) (of_ite (fun _ => h.gaugeRecover hs g) hs)

theorem gaugeReading (hs : P s) (g : GaugeId) (v : Nat) : P (s.gaugeReading g v) := by
  refine of_ite (fun _ => hs) ?_
  cases (s.gauge g).st with
  | off | held => exact hs
  | active => exact of_ite (fun _ => h.gaugeRecompute (h.setGauge hs g _ (by rfl)) g) (h.setGauge hs g _ (by rfl))
  | faultHold | faultRest => exact h.setGauge hs g _ (by rfl)

theorem gaugeStart (hs : P s) (g : GaugeId) : P (s.gaugeStart g) :=
  of_ite (fun _ => of_ite (fun _ => h.setGauge hs g _ (by rfl)) (h.gaugeRecompute (h.setGauge hs g _ (by rfl)) g)) hs

theorem gaugeStop (hs : P s) (g : GaugeId) : P (s.gaugeStop g) := by
  unfold State.gaugeStop
  have ht := h.gaugeFinishReading hs g
  extract_lets t _ u
  have hu : P u := h.gaugeWrite _ g 0 (by omega) (h.setGauge ht g _ (by rfl))
  exact of_ite (fun _ => ht) (of_ite (fun _ => h.out.raise hu _) hu)

theorem gaugesIgnition (hs : P s) (b : Bool) : P (s.gaugesIgnition b) :=
  foldl hs fun _ g ht => of_ite (fun _ => h.gaugeStart ht g) (h.gaugeStop ht g)

theorem gaugeHold (hs : P s) (g : GaugeId) : P (s.gaugeHold g) := of_ite (fun _ => h.setGauge hs g _ (by rfl)) hs

theorem gaugeRelease (hs : P s) (g : GaugeId) : P (s.gaugeRelease g) :=
  of_ite (fun _ => h.gaugeRecompute (h.setGauge hs g _ (by rfl)) g) hs

theorem settleGauge (hs : P s) (g : GaugeId) : P (s.settleGauge g) :=
  h.gaugeFinishReading (whenDue hs fun _ => h.gaugeRest hs g) g

/-! ### The supply supervisor -/

theorem sup (hs : P s) (v : Supervisor) : P (s.setSup v) := (s.setSup_keep P h.out.sup v).mpr hs

theorem setShed (hs : P s) (n : Nat) : P (s.setShed n) := by
  unfold State.setShed
  exact h.out.fanShed (h.reevaluateAll (h.out.raise (h.sup hs _) _) _) _

theorem finishShed (hs : P s) : P s.finishShed :=
  of_ite (fun _ => h.setShed hs _) (of_ite (fun _ => h.setShed hs _) hs)

theorem filterSample (hs : P s) (v : Nat) : P (s.filterSample v) := by
  unfold State.filterSample
  have ht := h.sup hs { s.sup with vf := some (filterStep s.sup.vf v) }
  extract_lets vf _ t u _
  have hu : P u := of_ite (fun _ => ht) (h.gaugesRecompute ht)
  exact h.sup hu _

theorem countSample (hs : P s) (v : Nat) : P (s.countSample v) := by
  unfold State.countSample
  split
  · exact h.sup hs _
  · exact of_ite (fun _ => h.sup hs _) (h.filterSample (h.sup hs _) v)

theorem crankEnter (hs : P s) : P s.crankEnter := by
  unfold State.crankEnter
  have hx : P (allGauges.foldl State.gaugeFinishReading s) := foldl hs fun _ g ht => h.gaugeFinishReading ht g
  exact h.flash (foldl (h.out.fanCrankEntry (h.out.raise (h.sup hx _) _)) fun _ g ht => h.gaugeHold ht g) _

theorem crankLeave (hs : P s) : P s.crankLeave := by
  unfold State.crankLeave
  extract_lets _ t u
  have hu : P u := foldl (h.out.fanCrankExit (h.out.raise (h.sup hs _) _)) fun _ g ht => h.gaugeRelease ht g
  split
  · exact hu
  · exact h.filterSample hu _

theorem settleCrank (hs : P s) : P s.settleCrank := by
  have hx : P (s.whenDue s.crankExitDue State.crankLeave) := whenDue hs fun _ => h.crankLeave hs
  exact whenDue hx fun _ => h.crankEnter hx

theorem settleSupply (hs : P s) : P s.settleSupply := h.finishShed (h.settleCrank hs)

theorem busSample (hs : P s) (v : Nat) : P (s.busSample v) :=
  of_ite (fun _ => h.brownOut s hs) (h.settleSupply (h.countSample (h.settleSupply hs) v))

theorem applySupply (hs : P s) (r : SupplyRec) : P (s.applySupply r) :=
  h.out.admitHeads (h.sup (h.cfg s { s.cfg with supply := r } rfl rfl rfl hs) _)

/-! ### The local inputs -/

theorem input (hs : P s) (i : InputId) (v : Input) : P (s.setInput i v) := (s.setInput_keep P h.out.inputs i v).mpr hs

theorem setLevel (hs : P s) (i : InputId) (l early : Bool) : P (s.setLevel i l early) := by
  unfold State.setLevel
  have ht : P (s.whenDue (i == .start) State.settleSupply) := whenDue hs fun _ => h.settleSupply hs
  extract_lets t
  have hu := h.input ht i { raw := l, filtered := some l, run := 0, sampledNow := early }
  cases i with
  | ign => exact h.gaugesIgnition (h.reevaluateAll hu _) l
  | brake => exact h.localClaim hu .stop l
  | hazard => exact h.localClaim hu .hazard l
  | start => exact h.settleCrank hu

theorem settleInput (hs : P s) (i : InputId) : P (s.settleInput i) := by
  refine of_ite (fun _ => h.setLevel hs i _ _) ?_
  split
  · exact h.setLevel hs i _ _
  · exact hs

theorem startingDone (hs : P s) : P s.startingDone := (State.startingDone_keep P h.out.power s).mpr hs

theorem settleInputsOf (hs : P s) (ids : List InputId) : P (s.settleInputsOf ids) :=
  foldl (whenDue hs fun _ => h.startingDone hs) fun _ i ht => h.settleInput ht i

/-! ### The flash generator and the protection unit -/

theorem startTick (hs : P s) : P s.startTick := of_ite (fun _ => h.flash hs _) hs

theorem enterOn (hs : P s) (early : Bool) : P (s.enterOn early) :=
  h.recomputeWhere (h.startTick (of_ite (fun _ => h.flash hs _) (h.out.raise (h.flash hs _) _))) _

theorem enterOff (hs : P s) (cy : Cycle) (early : Bool) : P (s.enterOff cy early) :=
  h.recomputeWhere (h.startTick (h.flash hs _)) _

theorem stallReport (hs : P s) : P s.stallReport := by
  unfold State.stallReport
  have ht : P (s.setFan { s.fan with report := none }) := h.out.fan s _ (.target s) (.ramp s) hs
  generalize hv : s.setFan { s.fan with report := none } = t at ht ⊢
  have hchan (c : Channel) : t.chan c = s.chan c := hv ▸ rfl
  dsimp only
  cases s.fan.report with
  | none => exact ht
  | some c =>
    refine of_ite (fun hc => ?_) ht
    have hrun : ((t.whenDue (s.runCountDue c) fun u => u.runCountReach c).chan c).st = .run := by
      unfold State.whenDue State.runCountReach
      split <;> simp [hchan, hc.2]
    exact h.trip _ c _ (by rw [hrun]; rfl) (whenDue ht fun _ => h.out.runCountReach ht c)

/-! ### Steps that have fallen due -/

theorem settleSlot (hs : P s) (m : SlotId) : P (s.settleSlot m) :=
  foldl (whenDue hs fun _ => h.slotFree.fallSilent hs m false) fun _ f ht => whenDue ht fun _ => h.withdraw ht f _

theorem settleFlash (hs : P s) : P s.settleFlash := by
  unfold State.settleFlash
  have ht : P (s.whenDue s.flashStartDue fun t => t.enterOn false) := whenDue hs fun _ => h.enterOn hs false
  extract_lets t u
  have hu : P u := by
    change P (match t.offDue with | some cy => t.enterOff cy false | none => t)
    split
    · exact h.enterOff ht _ _
    · exact ht
  exact whenDue hu fun _ => h.enterOn hu false

theorem settleChannel (hs : P s) (c : Channel) : P (s.settleChannel c) := by
  unfold State.settleChannel
  extract_lets t u v w
  have ht : P t := whenDue hs fun hd => h.out.inrushExpire (DriveInvariant.inrush_of_due (by rw [hd]; rfl)) hs
  have hu : P u := whenDue ht fun hd => h.out.coolOffExpire (DriveInvariant.cooling_of_due (by rw [hd]; rfl)) ht
  have hv : P v := whenDue hu fun _ => h.out.runCountReach hu c
  have hw : P w := whenDue hv fun _ => h.out.bulbSet hv c
  exact whenDue hw fun _ => h.out.bulbClear hw c

theorem settleStepsOf (hs : P s) (ids : List InputId) : P (s.settleStepsOf ids) := by
  unfold State.settleStepsOf
  extract_lets a c e
  have ha : P a := foldl (h.settleInputsOf hs ids) fun _ m ht => h.settleSlot ht m
  have hb : P (allGauges.foldl State.settleGauge a.settleFlash) :=
    foldl (h.settleFlash ha) fun _ g ht => h.settleGauge ht g
  have hd : P (allChannels.foldl State.settleChannel c) := foldl (h.settleSupply hb) fun _ x ht => h.settleChannel ht x
  have he : P e := whenDue hd fun _ => h.stallReport hd
  exact whenDue he fun _ => (State.abandonUnservable_keep P h.out.seq e).mpr he

theorem settleSteps (hs : P s) : P s.settleSteps := h.settleStepsOf hs allInputs

theorem sleep (hs : P s) : P s.sleep := by
  have ht := (State.setPower_keep P h.out.power _ { s.abandonAll.power with part := .dormant }).mpr
    ((s.abandonAll_keep P h.out.seq).mpr hs)
  exact foldl (h.gates _ ⟨Vector.replicate 16 false, 0⟩ (fun c _ _ => by simp) ht) fun t p hu =>
    (State.watchLine_keep P h.out.ports t p).mpr hu

theorem settle (hs : P s) : P s.settle := of_ite (fun _ => h.sleep (h.settleSteps hs)) (h.settleStepsOf hs _)

/-! ### Drive steps, wake and drive period starts -/

omit h in
/-- At a drive step the gate of a channel that is not driven is negated (R48, R51). -/
theorem gatesAt_dark {c : Channel} (hp : (s.chRec c).phase ≤ 249) (hd : (s.chan c).drive = (0, 0)) (n : Nat) :
    (s.gatesAt n).out[c] = false := by
  obtain ⟨happlied, hprev⟩ := Prod.ext_iff.mp hd
  rw [State.gatesAt_out, Bool.eq_false_iff]
  by_cases hf : s.fanChannel = some c
  · rw [Ne, State.gateAt_fan hf, show (s.chan c).applied = 0 from happlied]
    split <;> omega
  · rw [Ne, State.gateAt_other hf, show (s.chan c).applied = 0 from happlied, show (s.chan c).prevDuty = 0 from hprev]
    omega

theorem beginStep (hs : P s) (n sense : Nat) : P (s.beginStep n sense) :=
  (State.setSeq_keep P h.out.seq ..).mpr (h.gates _ _ (fun _ hp hd => gatesAt_dark hp hd n)
    ((s.setClock_keep P h.out.clock (.step n)).mpr hs))

theorem rawEvent (hs : P s) (k : WakeCause) : P (s.rawEvent k) := by
  unfold State.rawEvent
  split
  · exact hs
  · exact h.input hs _ _

theorem wakeUp (hs : P s) : P s.wakeUp := by
  unfold State.wakeUp
  extract_lets _ a b c d
  have hb : P b := h.sup ((State.setClock_keep P h.out.clock ..).mpr ((State.setPower_keep P h.out.power ..).mpr hs)) _
  have hc : P c := foldl hb fun _ i ht => h.input ht i _
  have hd : P d := foldl hc fun _ m ht => h.slotFree.setSlot ht m _
  exact foldl hd fun t p ht => (State.hunt_keep P h.out.ports t p 0).mpr ht

theorem startPeriod (hs : P s) (lines : PerInput Bool) : P (s.startPeriod lines) := by
  unfold State.startPeriod
  extract_lets a b x c
  have ha : P a := foldl ((s.abandonAll_keep P h.out.seq).mpr hs) fun _ i ht =>
    of_ite (fun _ => h.input ht i _) (h.input ht i _)
  have hb : P b := h.flash (foldl (foldl ha fun _ m ht => h.countSlot ht m) fun _ g ht => h.setGauge ht g _ (by rfl)) _
  have hc : P c := by
    rwa [State.setClock_keep P h.out.clock, State.setPower_keep P h.out.power, State.setSeq_keep P h.out.seq]
  exact (State.postRequests_keep P h.out.seq _).mpr (h.takeUp c hc)

end StageInvariant
end Sys2Proof.Machine
end

section
/-! SUPPORT. One principle for the invariants of the output stage and of the records, third part: frames, items and
commands, and with them every step. -/

namespace Sys2Proof.Machine
open Sys2Proof

/-! ### The numbers of an accepted record -/

theorem clampTo_le (lo hi n : Nat) : clampTo lo hi n ≤ hi := Nat.min_le_left ..

/-- An accepted CHANNEL record's phase is clamped (R43, R44). -/
theorem State.checkChannel_phase {s : State} {w : WChannel} {x : Channel × ChannelRec} {b : Bool}
    (h : s.checkChannel w = .accepted x b) : x.2.phase ≤ 249 := by
  unfold State.checkChannel at h
  split at h
  · cases h
  · split at h
    · split at h
      · cases h
      · split at h
        · cases h
        · cases h
          exact Nat.min_le_left ..
    · cases h

/-- An accepted MAP record's DIM level is clamped (R26, R29). -/
theorem State.checkMap_inRange {s : State} {w : WMap} {x : Fin 32 × Option MapEntry} {b : Bool}
    (h : s.checkMap w = .accepted x b) : ∀ e : MapEntry, x.2 = some e → e.InRange := by
  unfold State.checkMap at h
  split at h
  · cases h
  · split at h
    · split at h
      · cases h
      · cases h
        exact fun _ he => nomatch he
    · split at h
      · split at h
        · cases h
        · rename_i k _
          dsimp only at h
          split at h
          · cases h
          · split at h
            · cases h
            · cases h
              rintro _ ⟨rfl⟩
              cases k with
              | dim => exact clampTo_le ..
              | full | level | flash => trivial
      · cases h

/-- An accepted FAN record's duties are clamped (R156, R157). -/
theorem State.checkFan_inRange {s : State} {w r : FanRec} {b : Bool} (h : s.checkFan w = .accepted r b) : r.InRange := by
  unfold State.checkFan at h
  split at h
  · cases h
  · split at h
    · cases h
    · cases h
      exact ⟨clampTo_le .., clampTo_le .., clampTo_le .., clampTo_le ..⟩

namespace StageInvariant

open ClaimInvariant (of_ite whenDue foldl Reached reached_next)

variable {P : State → Prop} (h : StageInvariant P) {s : State}
include h

/-! ### Frames and replies -/

theorem setPort (hs : P s) (p : Port) (v : PortState) : P (s.setPort p v) := (s.setPort_keep P h.out.ports p v).mpr hs

theorem power (hs : P s) (v : Power) : P (s.setPower v) := (s.setPower_keep P h.out.power v).mpr hs

theorem hunt (hs : P s) (p : Port) (n : Nat) : P (s.hunt p n) := h.setPort hs p _

theorem applyRates (hs : P s) : P s.applyRates := (s.applyRates_keep P h.out.ports).mpr hs

theorem judge (hs : P s) (p : Port) (f : RawFrame) : P (s.judge p f) := by
  unfold State.judge
  have ht := h.hunt hs p 0
  extract_lets t
  refine of_ite (fun _ => ?_) ht
  split
  · exact of_ite (fun _ => h.power (h.slotFree.hear (h.setPort ht p _) _) _) (h.setPort ht p _)
  · exact ht

theorem afterFrame (hs : P s) (rate reset : Bool) : P (s.afterFrame rate reset) :=
  of_ite (fun _ => h.begin s _ hs) (of_ite (fun _ => h.applyRates hs) hs)

theorem leaveQueue (hs : P s) (p : Port) : P (s.leaveQueue p) := h.setPort hs p _

theorem finishFrame (hs : P s) (p : Port) : P (s.finishFrame p) := by
  unfold State.finishFrame
  split
  · exact of_ite (fun _ => h.setPort hs p _) (h.afterFrame (h.leaveQueue hs p) _ _)
  · exact hs

theorem answer (hs : P s) (p : Port) (a : Option Answer) (k : Option Status) : P (s.answer p a k) := by
  unfold State.answer
  split
  · exact hs
  · exact of_ite (fun _ => h.finishFrame (h.setPort hs p _) p) (h.setPort hs p _)

theorem answerStatus (hs : P s) (p : Port) (k : Status) : P (s.answerStatus p k) := h.answer hs p _ _

theorem abandonReply (hs : P s) (p : Port) (r : Reply) : P (s.abandonReply p r) :=
  h.afterFrame (h.hunt (h.leaveQueue hs p) p 0) _ _

theorem lineActive (hs : P s) (p : Port) : P (s.lineActive p) := by
  unfold State.lineActive
  split
  · exact h.abandonReply hs p _
  · exact of_ite (fun _ => h.hunt (h.setPort hs p _) p 0) hs
  · exact hs
  · exact hs

theorem beginFrame (hs : P s) (p : Port) (items : List Item) : P (s.beginFrame p items) :=
  of_ite (fun _ => h.finishFrame (h.setPort hs p _) p) (h.setPort hs p _)

/-! ### Items -/

theorem readOf (hs : P s) (p : Port) (isKind : ReadKind → Bool) : P (s.readOf p isKind) := by
  unfold State.readOf
  split
  · refine of_ite (fun _ => of_ite (fun _ => ?_) (h.answer hs p _ _)) hs
    split
    · exact h.answerStatus hs p _
    · split
      · exact h.answer hs p _ _
      · exact h.answerStatus hs p _
  · exact hs

theorem clearChannel (hs : P s) (b : Byte) : P (s.clearChannel b) := by
  unfold State.clearChannel
  split
  · exact hs
  · split
    · rename_i hc
      exact h.out.release hc hs
    · exact hs

theorem clearChannelsItem (hs : P s) (p : Port) (m : SlotId) (l : List Byte) : P (s.clearChannelsItem p m l) :=
  of_ite (fun _ => h.answerStatus hs p _)
    (of_ite (fun _ => h.answerStatus (foldl hs fun _ b ht => h.clearChannel ht b) p _) (h.answerStatus hs p _))

theorem clearEventsItem (hs : P s) (p : Port) (m : SlotId) (low high : Byte) : P (s.clearEventsItem p m low high) :=
  of_ite (fun _ => h.answerStatus (h.slotFree.setSlot hs m _) p _) (h.answerStatus hs p _)

theorem resetItem (hs : P s) (p : Port) (m : SlotId) : P (s.resetItem p m) :=
  of_ite (fun _ => h.answerStatus hs p _) (of_ite (fun _ => h.answerStatus hs p _)
    (h.answer (h.setPort (h.power hs _) p _) p _ _))

theorem rowlessItem (hs : P s) (p : Port) (f : Frame) (i : Item) : P (s.rowlessItem p f i) := by
  unfold State.rowlessItem
  split
  · exact of_ite (fun _ => h.answerStatus hs p _) (h.answer hs p _ _)
  · split <;> exact h.answerStatus hs p _
  · exact h.answerStatus hs p _
  · exact hs

theorem configLength (hs : P s) (p : Port) (m : SlotId) : P (s.configLength p m) := by
  unfold State.configLength
  split <;> exact h.answerStatus hs p _

/-- A CONFIG item applies a record that its checks have accepted, and begins its store write. -/
theorem configItem {α : Type} {apply : State → α → State} {v : Verdict α} {record : α → ConfigRecord}
    (ha : ∀ (r : α) (b : Bool), v = .accepted r b → P (apply s r) ∧ (record r).InRange ∧
      ∀ (c : Channel) (x : ChannelRec), record r = .channel c x → x.phase ≤ 249)
    (hs : P s) (p : Port) (m : SlotId) (skip : α → Option Status) : P (s.configItem p m v apply record skip) := by
  unfold State.configItem
  split
  · exact h.answerStatus hs p _
  · cases v with
    | refused st => exact h.answerStatus hs p _
    | accepted r b =>
      obtain ⟨ht, hrange, hphase⟩ := ha r b rfl
      exact h.answer (h.storeWrite _ _ hrange hphase ht) p _ _

/-! ### Records applied -/

theorem newCfg (hs : P s) (v : Working) (hc : v.channels = s.cfg.channels) (hm : v.map = s.cfg.map)
    (hf : v.fan = s.cfg.fan) : P (s.setCfg v) := h.cfg s v hc hm hf hs

theorem changeClass (hs : P s) (cls : VClass) : P (s.changeClass cls) :=
  of_ite (fun _ => hs) (h.applySupply (h.newCfg (h.settleSupply hs) _ (by rfl) (by rfl) (by rfl)) _)

theorem applyUnit (hs : P s) (p : Port) (answered : Bool) (r : UnitRec) : P (s.applyUnit p answered r) := by
  unfold State.applyUnit
  extract_lets old t _ u
  have hu : P u := h.newCfg (h.changeClass hs _) _ (by rfl) (by rfl) (by rfl)
  exact of_ite (fun _ => h.setPort hu p _) (h.applyRates hu)

theorem applyInputs (hs : P s) (r : PerInput InputRec) : P (s.applyInputs r) :=
  foldl (h.newCfg (h.settleInputsOf hs allInputs) _ (by rfl) (by rfl) (by rfl)) fun _ i ht => h.input ht i _

theorem applyFunction (hs : P s) (x : Fn × FunctionRec) : P (s.applyFunction x) := by
  refine h.reevaluate (foldl (h.newCfg hs _ (by rfl) (by rfl) (by rfl)) fun t k ht => ?_) x.1
  refine h.claim t x.1 k _ (fun c hc hv => ?_) ht
  obtain ⟨d, hd, hc⟩ := Option.bind_eq_some_iff.mp hc
  exact repolicied_value hc ▸ hv.1 x.1 k d hd

theorem applyChannel {w : WChannel} {x : Channel × ChannelRec} {b : Bool} (hv : s.checkChannel w = .accepted x b)
    (hs : P s) : P (s.applyChannel x) := by
  have ht := h.newChannel s w x b hv hs
  rw [State.applyChannel_eq]
  exact h.out.resetHealth (of_ite (fun _ => ht) (h.recompute _ _ ht)) _

theorem applyMap {w : WMap} {x : Fin 32 × Option MapEntry} {b : Bool} (hv : s.checkMap w = .accepted x b) (hs : P s) :
    P (s.applyMap x) := by
  rw [State.applyMap_eq]
  exact h.out.fanChannelChanged (h.recomputeWhere (h.newMap s w x b hv hs) _) _

theorem applyGauge (hs : P s) (x : GaugeId × GaugeRec) : P (s.applyGauge x) := by
  have ht : P (s.withGaugeRec x) := h.newCfg hs _ (by rfl) (by rfl) (by rfl)
  rw [State.applyGauge_eq]
  split
  · exact ht
  · exact of_ite (fun _ => ht) (h.recompute _ _ ht)

theorem newSupply (hs : P s) (r : SupplyRec) : P (s.newSupply r) := h.applySupply (h.settleSupply hs) r

theorem applyFan {w r : FanRec} {b : Bool} (hv : s.checkFan w = .accepted r b) (hs : P s) : P (s.applyFan r) := by
  have ht : P (s.setCfg { s.cfg with fan := r }).fanRetarget := h.out.fanRetarget (h.newFan s w r b hv hs)
  exact of_ite (fun _ => h.out.fanWrite (fun _ _ => (State.checkFan_inRange hv).2.2.2) ht) ht

/-- Every CONFIG command applies a record that its checks have accepted. -/
theorem execConfig (hs : P s) (k : ConfigKind) (p : Port) : Reached P (exec (configCommand k p) s) := by
  cases k with
  | unit =>
    refine reached_next ?_
    split
    · refine h.configItem (fun r _ _ => ⟨h.applyUnit hs p _ r, ?_⟩) hs p _ _
      exact ⟨trivial, nofun⟩
    · exact h.configLength hs p _
    · exact hs
  | inputs =>
    refine reached_next ?_
    split
    · refine of_ite (fun _ => hs) (h.configItem (fun r _ _ => ⟨h.applyInputs hs r, ?_⟩) hs p _ _)
      exact ⟨trivial, nofun⟩
    · exact h.configLength hs p _
    · exact hs
  | slot =>
    refine reached_next ?_
    split
    · refine h.configItem (fun x _ _ => ⟨h.slotFree.applySlot hs x, ?_⟩) hs p _ _
      exact ⟨trivial, nofun⟩
    · exact h.configLength hs p _
    · exact hs
  | function =>
    refine reached_next ?_
    split
    · refine h.configItem (fun x _ _ => ⟨h.applyFunction hs x, ?_⟩) hs p _ _
      exact ⟨trivial, nofun⟩
    · exact h.configLength hs p _
    · exact hs
  | channel =>
    refine reached_next ?_
    split
    · refine h.configItem (fun x b hv => ⟨h.applyChannel hv hs, ?_⟩) hs p _ _
      exact ⟨trivial, fun _ _ he => by cases he; exact State.checkChannel_phase hv⟩
    · exact h.configLength hs p _
    · exact hs
  | map =>
    refine reached_next ?_
    split
    · refine h.configItem (fun x b hv => ⟨h.applyMap hv hs, ?_⟩) hs p _ _
      exact ⟨State.checkMap_inRange hv, nofun⟩
    · exact h.configLength hs p _
    · exact hs
  | gauge =>
    refine reached_next ?_
    split
    · refine h.configItem (fun x _ _ => ⟨h.applyGauge hs x, ?_⟩) hs p _ _
      exact ⟨trivial, nofun⟩
    · exact h.configLength hs p _
    · exact hs
  | flasher =>
    refine reached_next ?_
    split
    · refine h.configItem (fun r _ _ => ⟨h.newCfg hs { s.cfg with flasher := r } rfl rfl rfl, ?_⟩) hs p _ _
      exact ⟨trivial, nofun⟩
    · exact h.configLength hs p _
    · exact hs
  | supply =>
    refine reached_next ?_
    split
    · refine h.configItem (fun r _ _ => ⟨h.newSupply hs r, ?_⟩) hs p _ _
      exact ⟨trivial, nofun⟩
    · exact h.configLength hs p _
    · exact hs
  | fan =>
    refine reached_next ?_
    split
    · refine h.configItem (fun r b hv => ⟨h.applyFan hv hs, ?_⟩) hs p _ _
      exact ⟨State.checkFan_inRange hv, nofun⟩
    · exact h.configLength hs p _
    · exact hs

/-! ### Commands -/

theorem execFlashStart (hs : P s) : Reached P (execFlashStart s) :=
  reached_next (of_ite (fun _ => h.enterOn hs _) (of_ite (fun _ => h.enterOn hs _) hs))

theorem execOffPhaseEntry (hs : P s) : Reached P (execOffPhaseEntry s) := by
  refine reached_next ?_
  split
  · exact h.enterOff hs _ _
  · split
    · exact h.enterOff hs _ _
    · exact hs

theorem execTickEnd (hs : P s) : Reached P (execTickEnd s) := by
  refine reached_next ?_
  split
  · exact of_ite (fun _ => h.flash hs _) hs
  · exact hs

theorem execToneHalfPeriod (hs : P s) : Reached P (execToneHalfPeriod s) := by
  refine reached_next ?_
  split
  · exact of_ite (fun _ => h.flash hs _) hs
  · exact hs

theorem consume (hs : P s) (r : Request) (v : Nat) : P (s.consume r v) := by
  unfold State.consume
  split
  · exact h.busSample hs v
  · exact h.out.fanSample (h.out.openLoad hs _ v) _ v
  · exact foldl hs fun _ g ht => h.gaugeReading ht g v

theorem execConversionDone (hs : P s) (src : Source) (n : Nat) : Reached P (execConversionDone src n s) := by
  refine reached_next ?_
  split
  · exact hs
  · exact of_ite (fun _ => h.consume ((State.serve_keep P h.out.seq s src _).mpr hs) _ _) hs

theorem execRequestAbandon (hs : P s) (src : Source) : Reached P (execRequestAbandon src s) := by
  refine reached_next ?_
  split
  · exact hs
  · exact of_ite (fun _ => h.out.abandon hs src) hs

theorem execFilteredLevelChange (hs : P s) (i : InputId) : Reached P (execFilteredLevelChange i s) := by
  refine reached_next ?_
  split
  · exact h.setLevel hs i _ _
  · split
    · exact h.setLevel hs i _ _
    · exact hs

theorem execFrameReceived (hs : P s) (p : Port) (octets : List Byte) : Reached P (execFrameReceived p octets s) := by
  unfold Machine.execFrameReceived
  split
  · exact fun t ht => nomatch ht
  · exact reached_next (of_ite (fun _ => h.lineActive (h.judge hs p _) p) hs)

theorem execFramingFault (hs : P s) (p : Port) (k : FramingFault) : Reached P (execFramingFault p k s) := by
  refine reached_next (of_ite (fun _ => ?_) hs)
  split
  · exact h.lineActive (h.hunt hs p 0) p
  · exact hs
  · exact of_ite (fun _ => h.lineActive (h.hunt hs p 0) p) hs
  · exact hs

theorem execFrameExecute (hs : P s) (p : Port) : Reached P (execFrameExecute p s) := by
  refine reached_next ?_
  split
  · exact h.rowlessItem hs p _ _
  · split
    · split
      · exact of_ite (fun _ => h.beginFrame hs p _) hs
      · exact hs
    · exact hs

theorem execFrameError (hs : P s) (p : Port) : Reached P (execFrameError p s) := by
  refine reached_next ?_
  split
  · exact of_ite (fun _ => h.finishFrame (h.setPort hs p _) p) hs
  · exact hs

theorem execClaim (hs : P s) (p : Port) : Reached P (execClaim p s) ∧ Reached P (execClaimAll p s) := by
  refine ⟨reached_next ?_, reached_next ?_⟩ <;> split
  · exact of_ite (fun _ => h.answerStatus (h.claimPairs hs _ _) p _) (h.answerStatus hs p _)
  · exact hs
  · exact of_ite (fun _ => h.answerStatus (h.claimColumn hs _ _) p _) (h.answerStatus hs p _)
  · exact hs

theorem execStoreWriteDone (hs : P s) : Reached P (execStoreWriteDone s) := by
  refine reached_next ?_
  split
  · exact hs
  · rename_i r hr
    exact h.stored s r hr hs

theorem execClear (hs : P s) (p : Port) :
    Reached P (execClearChannels p s) ∧ Reached P (execClearEvents p s) ∧ Reached P (execReset p s) := by
  refine ⟨reached_next ?_, reached_next ?_, reached_next ?_⟩ <;> split
  · exact h.clearChannelsItem hs p _ _
  · exact hs
  · exact h.clearEventsItem hs p _ _ _
  · exact hs
  · exact h.resetItem hs p _
  · exact hs

theorem execReplyStart (hs : P s) (p : Port) (d : Nat) : Reached P (execReplyStart p d s) := by
  refine reached_next ?_
  split
  · exact of_ite (fun _ => h.setPort hs p _) hs
  · exact hs
  · exact hs

theorem execReplySent (hs : P s) (p : Port) : Reached P (execReplySent p s) := by
  refine reached_next ?_
  have ht : P ((s.leaveQueue p).hunt p 0) := h.hunt (h.leaveQueue hs p) p 0
  split
  · exact of_ite (fun _ => h.afterFrame (of_ite (fun _ => h.setPort ht p _) ht) _ _) hs
  · exact hs
  · exact hs

theorem execReplyAbandon (hs : P s) (p : Port) (k : AbandonCause) : Reached P (execReplyAbandon p k s) := by
  refine reached_next (of_ite (fun _ => ?_) hs)
  split
  · exact h.lineActive hs p
  · exact of_ite (fun _ => hs) (h.abandonReply hs p _)
  · exact hs

theorem execSync (hs : P s) (p : Port) (octet : Byte) (idle : Nat) : Reached P (execSync p octet idle s) := by
  refine reached_next (of_ite (fun _ => of_ite (fun _ => h.lineActive hs p) ?_) hs)
  split
  · exact hs
  · exact of_ite (fun _ => h.setPort hs p _) (h.hunt hs p 0)
  · exact of_ite (fun _ => h.setPort hs p _) (h.hunt hs p 0)

/-- The property holds in the next state of every command. -/
theorem exec_reached (hs : P s) (c : Instr) : Reached P (exec c s) := by
  cases c with
  | powerOn => exact reached_next (h.begin s _ hs)
  | brownOutRestart => exact reached_next (of_ite (fun _ => h.begin s _ hs) hs)
  | startingComplete => exact reached_next (of_ite (fun _ => h.startingDone hs) hs)
  | drivePeriodStart lines =>
    exact reached_next (of_ite (fun _ => of_ite (fun _ => h.startPeriod (h.settle hs) lines) hs) (h.settle hs))
  | inrushExpiry c =>
    exact reached_next (of_ite (fun hd => h.out.inrushExpire (DriveInvariant.inrush_of_due hd) hs) hs)
  | runCountReached c => exact reached_next (of_ite (fun _ => h.out.runCountReach hs c) hs)
  | overcurrentTrip c n =>
    exact reached_next (of_ite (fun hd => h.trip s c _ (DriveInvariant.drives_of_overcurrent hd.2) hs) hs)
  | coolOffExpiry c =>
    exact reached_next (of_ite (fun hd => h.out.coolOffExpire (DriveInvariant.cooling_of_due hd) hs) hs)
  | bulbOutSet c => exact reached_next (of_ite (fun _ => h.out.bulbSet hs c) hs)
  | bulbOutClear c => exact reached_next (of_ite (fun _ => h.out.bulbClear hs c) hs)
  | flashStart => exact h.execFlashStart hs
  | offPhaseEntry => exact h.execOffPhaseEntry hs
  | onPhaseEntry => exact reached_next (of_ite (fun _ => h.enterOn hs _) (of_ite (fun _ => h.enterOn hs _) hs))
  | tickEnd => exact h.execTickEnd hs
  | conversionDone src quantity => exact h.execConversionDone hs src quantity
  | requestAbandon src => exact h.execRequestAbandon hs src
  | crankEntry => exact reached_next (of_ite (fun _ => h.crankEnter hs) hs)
  | crankExit => exact reached_next (of_ite (fun _ => h.crankLeave hs) hs)
  | shedRise => exact reached_next (of_ite (fun _ => h.setShed hs _) hs)
  | shedFall => exact reached_next (of_ite (fun _ => h.setShed hs _) hs)
  | stallReport => exact reached_next (of_ite (fun _ => h.stallReport hs) hs)
  | faultHoldEntry g => exact reached_next (of_ite (fun _ => h.gaugeFault hs g) hs)
  | faultHoldExpiry g => exact reached_next (of_ite (fun _ => h.gaugeRest hs g) hs)
  | gaugeRecovery g => exact reached_next (of_ite (fun _ => h.gaugeRecover hs g) hs)
  | inputSeed i => exact reached_next (of_ite (fun _ => h.setLevel hs i _ _) (of_ite (fun _ => h.setLevel hs i _ _) hs))
  | filteredLevelChange i => exact h.execFilteredLevelChange hs i
  | silenceExpiry m =>
    exact reached_next (of_ite (fun _ => h.slotFree.fallSilent hs m _)
      (of_ite (fun _ => h.slotFree.fallSilent hs m _) hs))
  | holdExpiry m f => exact reached_next (of_ite (fun _ => h.withdraw hs f _) hs)
  | frameReceived p octets => exact h.execFrameReceived hs p octets
  | frameAbandonIdle p idle => exact reached_next (of_ite (fun _ => h.lineActive (h.hunt hs p idle) p) hs)
  | framingFault p fault => exact h.execFramingFault hs p fault
  | frameExecute p => exact h.execFrameExecute hs p
  | frameError p => exact h.execFrameError hs p
  | claim p => exact (h.execClaim hs p).1
  | claimAll p => exact (h.execClaim hs p).2
  | readChannel p | readTrip p | readFunction p | readSlots p | readGauge p | readSupply p | readFlasher p | readFan p
  | readInputs p | readResetCause p | readConfigurationRecord p => exact reached_next (h.readOf hs p _)
  | configUnit p => exact h.execConfig hs .unit p
  | configInputs p => exact h.execConfig hs .inputs p
  | configSlot p => exact h.execConfig hs .slot p
  | configFunction p => exact h.execConfig hs .function p
  | configChannel p => exact h.execConfig hs .channel p
  | configMap p => exact h.execConfig hs .map p
  | configGauge p => exact h.execConfig hs .gauge p
  | configFlasher p => exact h.execConfig hs .flasher p
  | configSupply p => exact h.execConfig hs .supply p
  | configFan p => exact h.execConfig hs .fan p
  | storeWriteDone => exact h.execStoreWriteDone hs
  | clearChannels p => exact (h.execClear hs p).1
  | clearEvents p => exact (h.execClear hs p).2.1
  | reset p => exact (h.execClear hs p).2.2
  | replyStart p delay => exact h.execReplyStart hs p delay
  | replySent p => exact h.execReplySent hs p
  | replyAbandon p cause => exact h.execReplyAbandon hs p cause
  | dormantEntry => exact reached_next (of_ite (fun _ => h.sleep (h.settleSteps hs)) hs)
  | wake cause =>
    exact reached_next (of_ite (fun _ => of_ite (fun _ => h.wakeUp (h.rawEvent hs cause)) (h.rawEvent hs cause)) hs)
  | sync p octet idle => exact h.execSync hs p octet idle
  | driveStep x =>
    exact reached_next (of_ite (fun _ => of_ite (fun _ => h.beginStep (h.settle hs) _ _) hs) (h.settle hs))
  | toneHalfPeriod => exact h.execToneHalfPeriod hs

/-- The property is kept by every step. -/
theorem step {t : State} (ht : step s = .next t) (hs : P s) : P t := by
  unfold Machine.step at ht
  split at ht
  · cases ht
    exact hs
  · rename_i rest _
    exact h.exec_reached ((h.out.pending s rest).mpr hs) _ t ht

end StageInvariant
end Sys2Proof.Machine
end

section
/-! SUPPORT. The actions that the invariants share: a trip, a recomputation, and the take-up of a drive period start
(R52 to R59, R71, R79). -/

namespace Sys2Proof.Machine
open Sys2Proof

/-! ### Trips, promotions and gauge writes -/

/-- A tripped channel's drive stopped and its record written, before the fan unit and the queue take the trip (R71). -/
def State.tripped (s : State) (c : Channel) (k : TripCause) : State :=
  ((s.setChan c (s.trippedChan c k)).negateGate c).leaveWindow c

/-- The trip with its event, its request and the fan unit's part, before a release that is due. -/
def State.tripTold (s : State) (c : Channel) (k : TripCause) : State :=
  (((s.tripped c k).raise .trip).abandon (.channel c)).ifFan c State.fanFault

theorem State.trip_eq (s : State) (c : Channel) (k : TripCause) :
    s.trip c k = let u := (s.tripTold c k).releaseIfDue c; if (s.chan c).st = .inrush then u.admitHeads else u := rfl

/-- The channel's place taken from the queue and put behind the last URGENT place (R59). -/
def State.promoted (s : State) (c : Channel) : State := s.setQueue (placeUrgent (s.queue.filter fun q => q.1 != c) c)

theorem State.promote_eq (s : State) (c : Channel) :
    s.promote c = if (c, Urgency.normal) ∈ s.queue then (s.promoted c).admitIfNewHead s.queue.head? else s := by
  have h : (s.queue.any fun q => q.1 == c && q.2 == .normal) = true ↔ (c, Urgency.normal) ∈ s.queue := by
    simp only [List.any_eq_true, Bool.and_eq_true, beq_iff_eq]
    constructor
    · rintro ⟨⟨d, u⟩, hx, rfl, rfl⟩
      exact hx
    · exact fun hx => ⟨_, hx, rfl, rfl⟩
  unfold State.promote
  by_cases hx : (c, Urgency.normal) ∈ s.queue
  · rw [if_pos (h.mpr hx), if_pos hx]
    rfl
  · rw [if_neg (mt h.mp hx), if_neg hx]

/-- The channel written anew, and promoted where its stop mark comes to be set on a NORMAL place (R38, R59). -/
def State.rewrittenPlaced (s : State) (c : Channel) : State :=
  if (s.rewrites c).2.2.1 && !(s.chan c).stop then (s.rewritten c).promote c else s.rewritten c

theorem State.recompute_placed (s : State) (c : Channel) : s.recompute c = (s.rewrittenPlaced c).releaseIfDue c :=
  s.recompute_eq c

/-- A GAUGE channel's demand written, with its marks clear (R152). -/
def State.gaugeWritten (s : State) (c : Channel) (d : Nat) : State :=
  (s.writeDemand c d .steady).modChan c fun ch => { ch with stop := false, present := false }

theorem State.gaugeWrite_eq (s : State) (g : GaugeId) (d : Nat) :
    s.gaugeWrite g d = match (s.gaugeRec g).bound with
      | none => s.setGauge g { s.gauge g with duty := d }
      | some c => ((s.setGauge g { s.gauge g with duty := d }).gaugeWritten c d).releaseIfDue c := rfl

/-! ### One channel's take-up -/

/-- A take-up leaves the channel, or drives it, or stops it, by its state (R52 to R56, R64, R77). -/
theorem State.takeUp_cases {Q : State → Prop} (s : State) (c : Channel)
    (stand : (s.chan c).st = .off ∨ (s.chan c).st = .waiting → Q s)
    (start : (s.chan c).st = .off → Q (s.setChan c (s.chan c).startRun))
    (bypass : (s.chan c).st = .off ∨ (s.chan c).st = .waiting → Q (s.bypass c))
    (off : ¬ (s.chan c).st.Tripped → Q (s.takeOff c))
    (inrush : (s.chan c).st = .inrush → Q (s.setChan c (s.chan c).takeInrush))
    (run : (s.chan c).st = .run → Q (s.setChan c (s.chan c).takeRun))
    (tripped : (s.chan c).st.Tripped → ∀ n, Q (s.setChan c { s.chan c with onEdge := false, coolOff := n })) :
    Q (s.takeUp c) := by
  unfold State.takeUp
  dsimp only
  split
  next hst =>
    split
    · exact stand (.inl hst)
    · split
      · exact stand (.inl hst)
      · exact start hst
      all_goals
        split
        · exact bypass (.inl hst)
        · exact stand (.inl hst)
  next hst =>
    split
    · exact off (ChState.not_tripped (.inr (.inl hst)))
    · split
      · exact bypass (.inr hst)
      · exact stand (.inr hst)
  next hst =>
    split
    · exact off (ChState.not_tripped (.inr (.inr (.inl hst))))
    · exact inrush hst
  next hst =>
    split
    · exact off (ChState.not_tripped (.inr (.inr (.inr hst))))
    · exact run hst
  next hst => exact tripped (.inl hst) _
  next hst => exact tripped (.inr hst) (s.chan c).coolOff

theorem State.bypass_chan (s : State) (c d : Channel) :
    (s.bypass c).chan d = if c = d then
      { s.chan c with
        st := s.admittedSt c, applied := 250, prevDuty := 0, prevEdge := false, onEdge := false,
        inrushTimer := if s.inrushTime c = 0 then none else some (s.inrushTime c),
        opening := decide (s.inrushTime c ≠ 0), admCount := some 0,
        runCount := if s.inrushTime c = 0 then some 0 else none } else s.chan d := by
  rw [← State.chan_setChan]
  unfold State.bypass State.admittedSt
  by_cases h : s.inrushTime c = 0
  · simp only [h, if_true]
    rfl
  · simp only [h, if_false]
    rfl

theorem State.takeOff_chan (s : State) (c d : Channel) :
    (s.takeOff c).chan d = if c = d then { (s.chan c).stopped .off with onEdge := false } else s.chan d :=
  s.chan_modChan c d fun ch => { ch.stopped .off with onEdge := false }

/-! ### The take-up of a period start -/

/-- Every channel has taken its demand up, and the fan unit its ramp step (R47, R163). -/
def State.takenUp (s : State) : State := (allChannels.foldl State.takeUp s).fanRampStep

/-- The admission test of a start, `t` after the take-ups of `s`: where the head changed or a channel left the in-window
set (R61, R62). -/
def State.tested (s t : State) : State :=
  if t.queue.head? = s.queue.head? ∧ (s.window.all fun w => t.inWindow w.1) = true then t else t.admitHeads

/-- The channels that are to join the queue, in their order (R53, R58). -/
def State.joiners (s : State) : List Channel := allChannels.filter s.joins

theorem State.takeUpAll_eq (s : State) : s.takeUpAll = s.joiners.foldl State.join (s.tested s.takenUp) := rfl

theorem State.tested_admits (s t : State) : t.Admits (s.tested t) := by
  unfold State.tested
  split
  · exact .refl t
  · exact .admitHeads t

/-- A channel that is to join is left in OFF until the joins (R53). -/
theorem State.takeUp_joins {s : State} {c : Channel} (h : s.joins c = true) : s.takeUp c = s := by
  simp only [State.joins, Bool.and_eq_true, Bool.or_eq_true, beq_iff_eq, bne_iff_ne] at h
  obtain ⟨⟨⟨hst, hd⟩, hsrc⟩, hk⟩ := h
  have hno : ¬ ((s.chan c).source = .flash ∧ (s.chan c).onEdge = true) := by simp [hsrc]
  unfold State.takeUp
  rcases hk with hk | hk <;> simp only [hst, hd, hk, hno, if_false]

theorem State.joins_congr {s t : State} {c : Channel} (hc : t.chan c = s.chan c) (hcfg : t.cfg = s.cfg) :
    t.joins c = s.joins c := by
  unfold State.joins
  rw [hc, State.chRec_congr hcfg]

theorem State.takeUp_cfg (s : State) (c : Channel) : (s.takeUp c).cfg = s.cfg := (State.OutputMoves.takeUp s c).cfg

theorem State.takeUps_cfg (s : State) (l : List Channel) : (l.foldl State.takeUp s).cfg = s.cfg :=
  foldl_keep (·.cfg) _ State.takeUp_cfg _ s

/-- What a channel that is to join keeps through the take-ups of the others. -/
theorem State.takeUps_joins {β : Type} {s : State} {c : Channel} {rd : State → β}
    (hrd : ∀ (t : State) (d : Channel), d ≠ c → rd (t.takeUp d) = rd t) (h : s.joins c = true) (l : List Channel) :
    rd (l.foldl State.takeUp s) = rd s := by
  have hkeep : (l.foldl State.takeUp s).joins c = true ∧ rd (l.foldl State.takeUp s) = rd s := by
    refine List.foldlRecOn (motive := fun t : State => t.joins c = true ∧ rd t = rd s) l State.takeUp ⟨h, rfl⟩
      fun t ht d _ => ?_
    by_cases hd : d = c
    · subst hd
      rwa [State.takeUp_joins ht.1]
    · exact ⟨(State.joins_congr (t.takeUp_other (Ne.symm hd)) (t.takeUp_cfg d)).trans ht.1, (hrd t d hd).trans ht.2⟩
  exact hkeep.2

theorem State.takenUp_joiner {s : State} {c : Channel} (h : c ∈ s.joiners) :
    (s.takenUp.chan c).st = .off ∧ (s.takenUp.chan c).drive = (s.chan c).drive := by
  have hj : s.joins c = true := (List.mem_filter.mp h).2
  have hc : (allChannels.foldl State.takeUp s).chan c = s.chan c :=
    State.takeUps_joins (rd := fun t => t.chan c) (fun t d hd => t.takeUp_other (Ne.symm hd)) hj _
  obtain ⟨hst, hdrive, -⟩ := (State.FanWrites.fanRampStep (allChannels.foldl State.takeUp s)).same c
  unfold State.takenUp
  rw [hst, hdrive, hc]
  refine ⟨?_, rfl⟩
  simp only [State.joins, Bool.and_eq_true, beq_iff_eq] at hj
  exact hj.1.1.1

theorem State.joiners_nodup (s : State) : s.joiners.Nodup := (List.nodup_finRange 16).filter _

namespace OutputInvariant

variable {P : State → Prop} (h : OutputInvariant P) {s : State}
include h

theorem tripTold {c : Channel} {k : TripCause} (hs : P (s.tripped c k)) : P (s.tripTold c k) :=
  ifFan (fun ht => h.fanFault ht) (h.abandon (h.raise hs _) _)

/-- A trip that keeps the property as the channel's drive stops keeps it. -/
theorem trip_of {c : Channel} {k : TripCause} (hs : P (s.tripped c k)) : P (s.trip c k) := by
  have ht := h.releaseIfDue (h.tripTold hs) c
  rw [State.trip_eq]
  exact ClaimInvariant.of_ite (fun _ => h.admitHeads ht) ht

/-- A recomputation that keeps the property as the channel is written, and promoted, keeps it. -/
theorem placed_of {c : Channel} (hs : P (s.rewritten c)) (hp : P ((s.rewritten c).promoted c)) :
    P (s.rewrittenPlaced c) := by
  refine ClaimInvariant.of_ite (fun _ => ?_) hs
  rw [State.promote_eq]
  exact ClaimInvariant.of_ite (fun _ => h.admitIfNewHead hp _) hs

theorem recompute_of {c : Channel} (hs : P (s.rewrittenPlaced c)) : P (s.recompute c) := by
  rw [State.recompute_placed]
  exact h.releaseIfDue hs c

theorem gaugeWrite_of {g : GaugeId} {d : Nat} (hs : P (s.setGauge g { s.gauge g with duty := d }))
    (hw : ∀ c : Channel, P ((s.setGauge g { s.gauge g with duty := d }).gaugeWritten c d)) : P (s.gaugeWrite g d) := by
  rw [State.gaugeWrite_eq]
  split
  · exact hs
  · exact h.releaseIfDue (hw _) _

/-- The take-up of a start, from the take-up of one channel and a condition `R` on the joining channels, which the joins
of the others keep. -/
theorem takeUpAll_of {R : State → Channel → Prop} (htake : ∀ (t : State) (c : Channel), P t → P (t.takeUp c))
    (hready : P s.takenUp → ∀ c ∈ s.joiners, R (s.tested s.takenUp) c)
    (hjoin : ∀ (t : State) (c : Channel), R t c → P t → P (t.joined c))
    (hstay : ∀ (t : State) (c d : Channel), c ≠ d → R t c → R t d → P t → R (t.join c) d) (hs : P s) : P s.takeUpAll := by
  have ht : P s.takenUp := h.fanRampStep (ClaimInvariant.foldl hs htake)
  have hu : P (s.tested s.takenUp) := ClaimInvariant.of_ite (fun _ => ht) (h.admitHeads ht)
  replace hready := hready ht
  rw [State.takeUpAll_eq]
  have hnodup := s.joiners_nodup
  revert hready hnodup
  generalize s.joiners = l
  generalize s.tested s.takenUp = u at hu
  intro hready hnodup
  induction l generalizing u with
  | nil => exact hu
  | cons c l ih =>
    obtain ⟨hc, hnodup⟩ := List.nodup_cons.mp hnodup
    refine ih (u.join c) (h.admitIfNewHead (hjoin u c (hready c List.mem_cons_self) hu) _) (fun d hd => ?_) hnodup
    exact hstay u c d (fun he => hc (he ▸ hd)) (hready c List.mem_cons_self) (hready d (List.mem_cons_of_mem _ hd)) hu

end OutputInvariant
end Sys2Proof.Machine
end

section
/-! SUPPORT. Idle channels are dark and phases are in range (R43, R44, R48, R49, R52): the property of the principle. -/

namespace Sys2Proof.Machine
open Sys2Proof

/-! ### Records and gates -/

theorem State.PhasesInRange.congr {s t : State} (h : s.PhasesInRange) (hc : t.cfg.channels = s.cfg.channels)
    (hs : t.store = s.store) (hw : t.storeWrite = s.storeWrite) : t.PhasesInRange := by
  unfold State.PhasesInRange State.chRec
  rw [hc, hs, hw]
  exact h

/-- The CHANNEL records of the store after a write of a record. -/
theorem Store.write_channel {st : Store} {r : ConfigRecord} {good : Bool} {c : Channel} {x : ChannelRec}
    (h : (st.write r good).channels[c] = some x) : st.channels[c] = some x ∨ good = true ∧ r = .channel c x := by
  cases r with
  | channel d y =>
    replace h : (st.channels.set d (if good then some y else none))[c] = some x := h
    by_cases hd : d = c
    · subst hd
      cases good <;> simp_all
    · exact .inl (by simpa [Vector.getElem_set, Fin.ext_iff.not.mp hd] using h)
  | unit | inputs | slot | function | map | gauge | flasher | supply | fan => exact .inl h

theorem State.storeAfterReset_channel {s : State} {c : Channel} {x : ChannelRec}
    (h : s.storeAfterReset.channels[c] = some x) : s.store.channels[c] = some x := by
  unfold State.storeAfterReset at h
  split at h
  · exact h
  · exact (Store.write_channel h).resolve_right fun hg => nomatch hg.1

theorem ChannelRec.default_phase (c : Channel) : (ChannelRec.default c).phase ≤ 249 := by
  revert c
  decide

theorem Loading.foldl_keep {α β : Type} (rd : Loading → β) {f : Loading → α → Loading} (hf : ∀ l a, rd (f l a) = rd l)
    (xs : List α) (l : Loading) : rd (xs.foldl f l) = rd l :=
  List.foldlRecOn (motive := fun k : Loading => rd k = rd l) xs f rfl fun k hk a _ => (hf k a).trans hk

/-- What the slots, the map, the gauge slots and the supervisor do not load is loaded first (R186). -/
theorem loadStore_plain {β : Type} (rd : Working → β) (hslots : ∀ (w : Working) v, rd { w with slots := v } = rd w)
    (hmap : ∀ (w : Working) v, rd { w with map := v } = rd w) (hgauges : ∀ (w : Working) v, rd { w with gauges := v } = rd w)
    (hsupply : ∀ (w : Working) v, rd { w with supply := v } = rd w) (st : Store) :
    rd (loadStore st).cfg = rd (Loading.plain st).cfg := by
  have hs (l : Loading) : rd (Loading.slots st l).cfg = rd l.cfg := hslots ..
  have hm (l : Loading) (i : Fin 32) : rd (Loading.map st l i).cfg = rd l.cfg := hmap ..
  have hg (l : Loading) (g : GaugeId) : rd (Loading.gauge st l g).cfg = rd l.cfg := hgauges ..
  have hp (l : Loading) : rd (Loading.supply st l).cfg = rd l.cfg := hsupply ..
  unfold loadStore
  rw [hp, Loading.foldl_keep (fun l => rd l.cfg) hg, Loading.foldl_keep (fun l => rd l.cfg) hm, hs]

theorem allChannels_getElem (c : Channel) : allChannels[c.val]'c.isLt = c := by
  revert c
  decide

theorem Vector.getElem_ofList {α : Type} {n : Nat} (l : List α) (h : l.toArray.size = n) (c : Fin n) (hc : c.val < l.length) :
    (⟨l.toArray, h⟩ : Vector α n)[c] = l[c.val]'hc := rfl

/-- A loaded CHANNEL record is the stored one, or its default (R186). -/
theorem loadStore_channels (st : Store) (c : Channel) :
    (loadStore st).cfg.channels[c] = (st.channels[c]).getD (ChannelRec.default c) := by
  have hload (d : Channel) (hd : d = c) :
      (loadOne st.channels[d] (fun _ => false) (ChannelRec.default d)).1 = (st.channels[c]).getD (ChannelRec.default c) := by
    subst hd
    unfold loadOne
    cases st.channels[d] <;> rfl
  rw [loadStore_plain (·.channels) (fun _ _ => rfl) (fun _ _ => rfl) (fun _ _ => rfl) fun _ _ => rfl]
  refine (Vector.getElem_ofList _ _ c (by simp [loadedChannels, allChannels])).trans ?_
  simp only [loadedChannels, List.getElem_map]
  exact hload _ (allChannels_getElem c)

theorem State.negateGate_out (s : State) (c d : Channel) :
    (s.negateGate c).gates.out[d] = if c = d then false else s.gates.out[d] := by
  simp [State.negateGate, State.setGates, Vector.getElem_set, Fin.ext_iff]

theorem State.takeUp_gate (s : State) {c d : Channel} (hd : d ≠ c) : (s.takeUp d).gates.out[c] = s.gates.out[c] := by
  refine State.takeUp_cases (Q := fun t => t.gates.out[c] = s.gates.out[c]) s d (fun _ => rfl) (fun _ => rfl) (fun _ => ?_)
    (fun _ => ?_) (fun _ => rfl) (fun _ => rfl) (fun _ _ => rfl)
  · unfold State.bypass
    dsimp only
    split <;> rfl
  · exact (State.negateGate_out _ d c).trans (if_neg hd)

/-! ### The property -/

/-- Phases are in range, and, if `b`, idle channels are dark. -/
def State.StaysDark (b : Prop) (s : State) : Prop := s.PhasesInRange ∧ (b → s.IdleChannelsDark)

/-- A channel that is not driven, its gate negated. -/
def State.Unlit (s : State) (c : Channel) : Prop := (s.chan c).drive = (0, 0) ∧ s.gates.out[c] = false

theorem State.idleChannelsDark_iff {s : State} :
    s.IdleChannelsDark ↔ ∀ c : Channel, (s.chan c).st.drives = false → s.Unlit c := by
  simp only [State.IdleChannelsDark, State.Unlit, Chan.drive, Prod.mk.injEq, and_assoc]

namespace State.StaysDark

variable {b : Prop} {s t : State} (h : s.StaysDark b)
include h

theorem phases : s.PhasesInRange := h.1

theorem dark (hb : b) : s.IdleChannelsDark := h.2 hb

/-- Every channel's gate and on-times stand where the channel is idle, unless it is dark. -/
theorem of_channels (hc : t.cfg.channels = s.cfg.channels) (hst : t.store = s.store) (hw : t.storeWrite = s.storeWrite)
    (hch : ∀ c : Channel, (t.chan c).st.drives = false → t.Unlit c ∨
      (t.chan c).drive = (s.chan c).drive ∧ t.gates.out[c] = s.gates.out[c] ∧ (s.chan c).st.drives = false) :
    t.StaysDark b := by
  refine ⟨h.phases.congr hc hst hw, fun hb => State.idleChannelsDark_iff.mpr fun c hi => ?_⟩
  rcases hch c hi with hu | ⟨hd, hg, hs⟩
  · exact hu
  · obtain ⟨hdrive, hgate⟩ := State.idleChannelsDark_iff.mp (h.dark hb) c hs
    exact ⟨hd.trans hdrive, hg.trans hgate⟩

/-- No channel's record moves. -/
theorem of_same (hc : t.cfg.channels = s.cfg.channels) (hst : t.store = s.store) (hw : t.storeWrite = s.storeWrite)
    (hg : t.gates = s.gates) (hch : t.chans = s.chans) : t.StaysDark b :=
  h.of_channels hc hst hw fun c hi => .inr (by rw [State.chan_congr hch] at hi ⊢; exact ⟨rfl, by rw [hg], hi⟩)

/-- One channel's record moves, but for its on-times; it does not stop. -/
theorem setChan {c : Channel} {v : Chan} (hd : v.drive = (s.chan c).drive)
    (hst : v.st.drives = false → (s.chan c).st.drives = false) : (s.setChan c v).StaysDark b := by
  refine h.of_channels rfl rfl rfl fun d hi => ?_
  rw [State.chan_setChan] at hi ⊢
  split at hi
  · rename_i he
    subst he
    exact .inr ⟨by simpa using hd, rfl, hst hi⟩
  · rename_i he
    exact .inr ⟨by rw [if_neg he], rfl, hi⟩

/-- A channel's record moves and its on-times are those of a driven channel. -/
theorem setDriven {c : Channel} {v : Chan} (hst : v.st.drives = true) : (s.setChan c v).StaysDark b := by
  refine h.of_channels rfl rfl rfl fun d hi => ?_
  rw [State.chan_setChan] at hi ⊢
  split at hi
  · rw [hst] at hi
    cases hi
  · rename_i he
    exact .inr ⟨by rw [if_neg he], rfl, hi⟩

/-- A channel's drive stops and its gate is negated (R49, R71, R164). -/
theorem stopped {c : Channel} {v : Chan} (hd : v.drive = (0, 0)) : ((s.setChan c v).negateGate c).StaysDark b := by
  refine h.of_channels rfl rfl rfl fun d hi => ?_
  have hchan : ((s.setChan c v).negateGate c).chan d = if c = d then v else s.chan d := State.chan_setChan s c d v
  rw [State.Unlit, State.negateGate_out, hchan]
  rw [hchan] at hi
  by_cases he : c = d
  · exact .inl ⟨by rw [if_pos he, hd], if_pos he⟩
  · rw [if_neg he] at hi ⊢
    exact .inr ⟨rfl, if_neg he, hi⟩

theorem admitted (c : Channel) : (s.admitted c).StaysDark b := by
  have ht := h.setDriven (c := c) (v := s.admittedChan c) (s.admittedSt_drives c)
  unfold State.admitted
  dsimp only
  split <;> exact ht.of_same rfl rfl rfl rfl rfl

theorem joined {c : Channel} (hc : s.Unlit c ∨ (s.chan c).st.drives = false) : (s.joined c).StaysDark b := by
  refine h.of_channels rfl rfl rfl fun d hi => ?_
  have hchan : (s.joined c).chan d = if c = d then { s.chan c with st := .waiting } else s.chan d :=
    s.chan_modChan c d fun ch => { ch with st := .waiting }
  unfold State.Unlit
  rw [hchan] at hi ⊢
  by_cases he : c = d
  · subst he
    rw [if_pos rfl]
    exact hc.imp id fun hs => ⟨rfl, rfl, hs⟩
  · rw [if_neg he] at hi ⊢
    exact .inr ⟨rfl, rfl, hi⟩

theorem takeUp (c : Channel) : (s.takeUp c).StaysDark b := by
  refine State.takeUp_cases (Q := State.StaysDark b) s c (fun _ => h) (fun _ => h.setDriven rfl) (fun _ => ?_) (fun _ => ?_)
    (fun hst => h.setDriven (by rw [show (s.chan c).takeInrush.st = (s.chan c).st from rfl, hst]; rfl))
    (fun hst => h.setDriven (by rw [show (s.chan c).takeRun.st = (s.chan c).st from rfl, hst]; rfl))
    (fun _ n => h.setChan rfl id)
  · refine (h.setDriven (c := c) (v := (s.bypass c).chan c) ?_).of_same ?_ ?_ ?_ ?_ ?_
    · rw [State.bypass_chan, if_pos rfl]
      exact s.admittedSt_drives c
    all_goals
      rw [State.bypass_chan, if_pos rfl]
      unfold State.bypass State.admittedSt
      by_cases hw : s.inrushTime c = 0
      · simp only [hw, if_true]
        rfl
      · simp only [hw, if_false]
        rfl
  · exact (h.stopped (c := c) (v := { (s.chan c).stopped .off with onEdge := false }) rfl).of_same rfl rfl rfl rfl rfl

end State.StaysDark

theorem State.staysDark_output (b : Prop) : OutputInvariant (State.StaysDark b) where
  pending _ _ := rfl
  power _ _ := rfl
  clock _ _ := rfl
  ports _ _ := rfl
  slots _ _ := rfl
  inputs _ _ := rfl
  flash _ _ := rfl
  sup _ _ := rfl
  seq _ _ := rfl
  chan s c f hst _ hd h := h.setChan hd (hst ▸ id)
  fan s v _ _ h := h.of_same rfl rfl rfl rfl rfl
  fanDemand s c d _ _ h := h.setChan rfl id
  admitted s c _ h := h.admitted c
  join s c hc h := h.joined (.inr (by rw [hc]; rfl))
  freed s c f ht _ _ hd h := h.setChan hd fun _ => by rcases ht with ht | ht <;> rw [ht] <;> rfl
  cut s c _ h := h.stopped rfl
  expired s c _ h := (h.setDriven (c := c) (v := (s.chan c).expired) rfl).of_same rfl rfl rfl rfl rfl

theorem State.StaysDark.takeUpAll {b : Prop} {s : State} (h : s.StaysDark b) : s.takeUpAll.StaysDark b := by
  by_cases hb : b
  · refine (State.staysDark_output b).takeUpAll_of (R := State.Unlit) (fun t c ht => ht.takeUp c) (fun _ c hc => ?_)
      (fun t c hc ht => ht.joined (.inl hc)) (fun t c d hne _ hd _ => ?_) h
    · have hj : s.joins c = true := (List.mem_filter.mp hc).2
      obtain ⟨-, hdrive⟩ := State.takenUp_joiner hc
      have hgate : s.takenUp.gates.out[c] = s.gates.out[c] := by
        unfold State.takenUp
        rw [(State.FanWrites.fanRampStep _).gates]
        exact State.takeUps_joins (rd := fun t => t.gates.out[c]) (fun t d hd => t.takeUp_gate hd) hj _
      have hadmits := s.tested_admits s.takenUp
      have hoff : (s.chan c).st.drives = false := by
        simp only [State.joins, Bool.and_eq_true, beq_iff_eq] at hj
        rw [hj.1.1.1]
        rfl
      obtain ⟨hd0, hg0⟩ := State.idleChannelsDark_iff.mp (h.dark hb) c hoff
      exact ⟨(hadmits.drive c).trans (hdrive.trans hd0), by rw [hadmits.gates, hgate, hg0]⟩
    · rw [State.join_eq]
      have hadmits := State.Admits.admitIfNewHead (t.joined c) t.queue.head?
      refine ⟨(hadmits.drive d).trans (Eq.trans ?_ hd.1), by rw [hadmits.gates]; exact hd.2⟩
      exact congrArg Chan.drive ((t.chan_modChan c d fun ch => { ch with st := .waiting }).trans (if_neg hne))
  · have hno : ∀ {t : State}, t.StaysDark b ↔ t.PhasesInRange := ⟨fun ht => ht.phases, fun ht => ⟨ht, fun hb' => absurd hb' hb⟩⟩
    exact hno.mpr (h.phases.congr (by simp) (by simp) (by simp))

theorem State.StaysDark.fresh {b : Prop} {cfg : Working} {st : Store} (hc : ∀ c : Channel, (cfg.channels[c]).phase ≤ 249)
    (hst : ∀ (c : Channel) (r : ChannelRec), st.channels[c] = some r → r.phase ≤ 249) (q : List Instr) (w : Power)
    (ev : EventSet) : (State.fresh q cfg st w ev).StaysDark b := by
  refine ⟨⟨hc, hst, fun _ _ he => nomatch he⟩, fun _ => State.idleChannelsDark_iff.mpr fun c _ => ⟨?_, ?_⟩⟩
  · rw [State.fresh_chan]
    rfl
  · simp [State.fresh]

/-- Every step keeps the phases in range and idle channels dark. -/
theorem State.staysDark_stage (b : Prop) : StageInvariant (State.StaysDark b) where
  out := State.staysDark_output b
  trip s c k _ h := (State.staysDark_output b).trip_of ((h.stopped rfl).of_same rfl rfl rfl rfl rfl)
  recompute s c h := by
    obtain ⟨e, he⟩ := s.rewritten_only c
    have ht : (s.rewritten c).StaysDark b := by
      rw [he]
      exact h.setChan rfl id
    exact (State.staysDark_output b).recompute_of ((State.staysDark_output b).placed_of ht (ht.of_same rfl rfl rfl rfl rfl))
  takeUp s h := h.takeUpAll
  gauge s g v _ h := h.of_same rfl rfl rfl rfl rfl
  gaugeWrite s g d _ h := by
    have ht : (s.setGauge g { s.gauge g with duty := d }).StaysDark b := h.of_same rfl rfl rfl rfl rfl
    refine (State.staysDark_output b).gaugeWrite_of ht fun c => ?_
    have hu : ((s.setGauge g { s.gauge g with duty := d }).writeDemand c d .steady).StaysDark b := ht.setChan rfl id
    exact hu.setChan rfl id
  gates s v hv h := ⟨h.phases, fun hb => State.idleChannelsDark_iff.mpr fun c hi =>
    have hu := State.idleChannelsDark_iff.mp (h.dark hb) c hi
    ⟨hu.1, hv c (h.phases.1 c) hu.1⟩⟩
  claim s f k v _ h := h.of_same rfl rfl rfl rfl rfl
  result s f v _ h := h.of_same rfl rfl rfl rfl rfl
  cfg s v hc _ _ h := h.of_same hc rfl rfl rfl rfl
  newChannel s w x b' hv h := by
    refine ⟨⟨fun c => ?_, h.phases.2.1, h.phases.2.2⟩, h.dark⟩
    rw [State.withChannelRec_chRec]
    split
    · exact State.checkChannel_phase hv
    · exact h.phases.1 c
  newMap s w x b' _ h := h.of_same rfl rfl rfl rfl rfl
  newFan s w r b' _ h := h.of_same rfl rfl rfl rfl rfl
  storeWrite s r _ hr h := ⟨⟨h.phases.1, h.phases.2.1, fun c x he => hr c x (Option.some.inj he)⟩, h.dark⟩
  stored s r hr h := by
    refine ⟨⟨h.phases.1, fun c x hx => ?_, fun _ _ he => nomatch he⟩, h.dark⟩
    rcases Store.write_channel hx with hx | ⟨-, rfl⟩
    · exact h.phases.2.1 c x hx
    · exact h.phases.2.2 c x hr
  begin s k h := by
    have hst (c : Channel) (x : ChannelRec) (hx : s.storeAfterReset.channels[c] = some x) : x.phase ≤ 249 :=
      h.phases.2.1 c x (State.storeAfterReset_channel hx)
    refine State.StaysDark.fresh (fun c => ?_) hst _ _ _
    rw [loadStore_channels]
    cases hx : s.storeAfterReset.channels[c] with
    | none => exact ChannelRec.default_phase c
    | some x => exact hst c x hx
  brownOut s h := State.StaysDark.fresh h.phases.1 (fun c x hx => h.phases.2.1 c x (State.storeAfterReset_channel hx)) _ _ _

end Sys2Proof.Machine
end

section
/-! SUPPORT. No LATCHED channel's release condition holds (R79, R81): the property of the principle. -/

namespace Sys2Proof.Machine
open Sys2Proof

/-! ### The rules of the map -/

theorem State.MapChecked.congr' {s t : State} (h : s.MapChecked) (hc : t.cfg.channels = s.cfg.channels)
    (hm : t.cfg.map = s.cfg.map) : t.MapChecked := by
  unfold State.MapChecked State.entries State.chRec at h ⊢
  rwa [hc, hm]

theorem State.MapChecked.withChannelRec {s : State} (h : s.MapChecked) {w : WChannel} {x : Channel × ChannelRec} {b : Bool}
    (hv : s.checkChannel w = .accepted x b) : (s.withChannelRec x).MapChecked := by
  obtain ⟨hbreaks, -, -⟩ := State.checkChannel_accepted hv
  have hfits (e : MapEntry) (he : e ∈ s.entries) (hc : e.chan = x.1) :
      (x.2.kind = .lamp ∨ x.2.kind = .motor) ∧ (e.fn = .fan → x.2.kind = .motor) := by
    have hno := mt (kindBreaksMap_iff s.cfg x.1 x.2.kind).mpr (Bool.eq_false_iff.mp hbreaks)
    have hold := h.1 e he
    have hfan := h.2.1 e he
    rw [hc] at hold hfan
    by_cases hsame : x.2.kind = (s.chRec x.1).kind
    · rw [hsame]
      exact ⟨hold, hfan⟩
    · have hgauge : ¬ (x.2.kind = .gauge ∨ x.2.kind = .none) := fun hk => hno ⟨e, he, hc, .inl ⟨hk, hsame⟩⟩
      have hlamp (hf : e.fn = .fan) : x.2.kind ≠ .lamp := fun hk => hno ⟨e, he, hc, .inr ⟨hk, hf⟩⟩
      cases hx : x.2.kind <;> simp_all
  refine ⟨fun e he => ?_, fun e he hf => ?_, h.2.2⟩
  · rw [State.withChannelRec_chRec]
    split
    · exact (hfits e he ‹_›).1
    · exact h.1 e he
  · rw [State.withChannelRec_chRec]
    split
    · exact (hfits e he ‹_›).2 hf
    · exact h.2.1 e he hf

theorem State.MapChecked.withEntry {s : State} (h : s.MapChecked) {w : WMap} {x : Fin 32 × Option MapEntry} {b : Bool}
    (hv : s.checkMap w = .accepted x b) : (s.withEntry x).MapChecked := by
  classical
  refine State.mapChecked_iff.mpr ((State.mapChecked_iff.mp h).set fun e he hbad => ?_)
  have hnone := ((State.checkMap_accepted hv).1 e he).1
  rw [mapRefusal_eq, if_pos hbad] at hnone
  cases hnone

/-! ### The property -/

/-- What keeps a channel LATCHED: an entry's presence, or a GAUGE channel's demand (R79). -/
def State.LatchHeld (s : State) (c : Channel) : Prop :=
  if (s.chRec c).kind = .gauge then (s.chan c).demand ≠ 0 else (s.chan c).present = true

theorem State.releasable_iff (s : State) (c : Channel) : s.releasable c = true ↔ ¬ s.LatchHeld c := by
  unfold State.releasable State.LatchHeld
  cases (s.chRec c).kind <;> simp

/-- The map meets R27, and every LATCHED channel but `x` is held so. -/
def State.LatchesHeld (x : Option Channel) (s : State) : Prop :=
  s.MapChecked ∧ ∀ c : Channel, x ≠ some c → (s.chan c).st = .latched → s.LatchHeld c

namespace State.LatchesHeld

variable {x : Option Channel} {s t : State} (h : s.LatchesHeld x)
include h

theorem map : s.MapChecked := h.1

theorem held {c : Channel} (hx : x ≠ some c) (hl : (s.chan c).st = .latched) : s.LatchHeld c := h.2 c hx hl

/-- Every channel that is LATCHED was so, and what holds it stands. -/
theorem of_channels (hc : t.cfg.channels = s.cfg.channels) (hm : t.cfg.map = s.cfg.map)
    (hch : ∀ c : Channel, x ≠ some c → (t.chan c).st = .latched → (s.chan c).st = .latched ∧
      (t.chan c).present = (s.chan c).present ∧ ((s.chRec c).kind = .gauge → (t.chan c).demand = (s.chan c).demand)) :
    t.LatchesHeld x := by
  refine ⟨h.map.congr' hc hm, fun c hx hl => ?_⟩
  obtain ⟨hst, hpresent, hdemand⟩ := hch c hx hl
  have hheld := h.held hx hst
  have hk : (t.chRec c).kind = (s.chRec c).kind := by
    unfold State.chRec
    rw [hc]
  unfold State.LatchHeld at hheld ⊢
  rw [hk, hpresent]
  split
  · rename_i hg
    rw [if_pos hg] at hheld
    rwa [hdemand hg]
  · rename_i hg
    rwa [if_neg hg] at hheld

/-- No channel's record moves. -/
theorem of_same (hc : t.cfg.channels = s.cfg.channels) (hm : t.cfg.map = s.cfg.map) (hch : t.chans = s.chans) :
    t.LatchesHeld x :=
  h.of_channels hc hm fun c _ hl => by rw [State.chan_congr hch] at hl ⊢; exact ⟨hl, rfl, fun _ => rfl⟩

/-- One channel's record moves; if it is LATCHED, what holds it stands. -/
theorem setChan {c : Channel} {v : Chan} (hv : x ≠ some c → v.st = .latched → (s.chan c).st = .latched ∧
    v.present = (s.chan c).present ∧ ((s.chRec c).kind = .gauge → v.demand = (s.chan c).demand)) :
    (s.setChan c v).LatchesHeld x := by
  refine h.of_channels rfl rfl fun d hx hl => ?_
  rw [State.chan_setChan] at hl ⊢
  split at hl
  · rename_i he
    subst he
    simpa using hv hx hl
  · rename_i he
    exact ⟨hl, by rw [if_neg he], fun _ => by rw [if_neg he]⟩

/-- A channel that is not LATCHED afterwards. -/
theorem setFree {c : Channel} {v : Chan} (hv : v.st ≠ .latched) : (s.setChan c v).LatchesHeld x :=
  h.setChan fun _ hl => absurd hl hv

/-- A MOTOR channel's demand may move: a latch on it does not read it. -/
theorem fanDemand {c : Channel} (hc : s.fanChannel = some c) (d : Nat) : (s.writeDemand c d .steady).LatchesHeld x :=
  h.setChan fun _ hl => ⟨hl, rfl, fun hk => by rw [h.map.fan_motor hc] at hk; cases hk⟩

theorem admitted (c : Channel) : (s.admitted c).LatchesHeld x := by
  have ht := h.setFree (c := c) (v := s.admittedChan c) fun hl => by
    have := s.admittedSt_drives c
    rw [show s.admittedSt c = .latched from hl] at this
    cases this
  unfold State.admitted
  dsimp only
  split <;> exact ht.of_same rfl rfl rfl

theorem joined (c : Channel) : (s.joined c).LatchesHeld x :=
  (h.setFree (c := c) (v := { s.chan c with st := .waiting }) nofun).of_same rfl rfl rfl

theorem takeUp (c : Channel) : (s.takeUp c).LatchesHeld x := by
  refine State.takeUp_cases (Q := State.LatchesHeld x) s c (fun _ => h)
    (fun _ => h.setFree (v := (s.chan c).startRun) nofun) (fun _ => ?_)
    (fun _ => (h.setFree (c := c) (v := { (s.chan c).stopped .off with onEdge := false }) nofun).of_same rfl rfl rfl)
    (fun hst => h.setFree fun hl => by cases hst.symm.trans hl) (fun hst => h.setFree fun hl => by cases hst.symm.trans hl)
    (fun _ n => h.setChan fun _ hl => ⟨hl, rfl, fun _ => rfl⟩)
  refine h.of_channels (by simp) (by simp) fun d _ hl => ?_
  rw [State.bypass_chan] at hl ⊢
  split at hl
  · have := s.admittedSt_drives c
    rw [show s.admittedSt c = .latched from hl] at this
    cases this
  · rename_i he
    rw [if_neg he]
    exact ⟨hl, rfl, fun _ => rfl⟩

omit h in
/-- Every latch is held, but for one channel for the time of an action. -/
theorem loosen (h : s.LatchesHeld none) : s.LatchesHeld x := ⟨h.map, fun _ _ hl => h.held nofun hl⟩

omit h in
/-- A release that is due leaves the latch held, or none (R79). -/
theorem mend {c : Channel} (hr : (s.releaseIfDue c).LatchesHeld (some c)) :
    (s.releaseIfDue c).LatchesHeld none := by
  refine ⟨hr.map, fun d _ hl => ?_⟩
  by_cases hd : some c = some d
  · cases hd
    unfold State.releaseIfDue at hl ⊢
    split at hl
    · rename_i hdue
      have hoff : ((s.release c).chan c).st = .off := by
        unfold State.release
        rw [((State.FanWrites.fanSawRelease _).ifFan c).same c |>.1]
        exact congrArg Chan.st ((s.chan_modChan c c _).trans (if_pos rfl))
      rw [hoff] at hl
      cases hl
    · rename_i hdue
      rw [if_neg hdue]
      by_contra hno
      exact hdue ⟨hl, s.releasable_iff c |>.mpr hno⟩
  · exact hr.held hd hl

end State.LatchesHeld

theorem State.latchesHeld_output (x : Option Channel) : OutputInvariant (State.LatchesHeld x) where
  pending _ _ := rfl
  power _ _ := rfl
  clock _ _ := rfl
  ports _ _ := rfl
  slots _ _ := rfl
  inputs _ _ := rfl
  flash _ _ := rfl
  sup _ _ := rfl
  seq _ _ := rfl
  chan s c f hst hw _ h := h.setChan fun _ hl => by
    simp only [Chan.written, Prod.mk.injEq] at hw
    exact ⟨hst ▸ hl, hw.2.2.2, fun _ => hw.1⟩
  fan s v _ _ h := h.of_same rfl rfl rfl
  fanDemand s c d hc _ h := h.fanDemand hc d
  admitted s c _ h := h.admitted c
  join s c _ h := h.joined c
  freed s c f _ hoff _ _ h := h.setFree fun hl => by cases hoff.symm.trans hl
  cut s c _ h := (h.setFree (c := c) (v := (s.chan c).stopped .off) nofun).of_same rfl rfl rfl
  expired s c _ h := (h.setFree (c := c) (v := (s.chan c).expired) nofun).of_same rfl rfl rfl

namespace State.LatchesHeld

variable {s : State} {c : Channel}

/-- What an action leaves unheld on its channel, the release that follows mends. -/
theorem releaseIfDue (h : s.LatchesHeld (some c)) : (s.releaseIfDue c).LatchesHeld none :=
  mend ((State.latchesHeld_output (some c)).releaseIfDue h c)

theorem trip (h : s.LatchesHeld none) (k : TripCause) : (s.trip c k).LatchesHeld none := by
  have ht : (s.tripped c k).LatchesHeld (some c) :=
    ((h.loosen (x := some c)).setChan fun hx => absurd rfl hx).of_same rfl rfl rfl
  have hu := ((State.latchesHeld_output (some c)).tripTold ht).releaseIfDue
  rw [State.trip_eq]
  exact ClaimInvariant.of_ite (fun _ => (State.latchesHeld_output none).admitHeads hu) hu

theorem recompute (h : s.LatchesHeld none) : (s.recompute c).LatchesHeld none := by
  obtain ⟨e, he⟩ := s.rewritten_only c
  have ht : (s.rewritten c).LatchesHeld (some c) := by
    rw [he]
    exact (h.loosen (x := some c)).setChan fun hx => absurd rfl hx
  rw [State.recompute_placed]
  exact ((State.latchesHeld_output (some c)).placed_of ht (ht.of_same rfl rfl rfl)).releaseIfDue

theorem gaugeWrite (h : s.LatchesHeld none) (g : GaugeId) (d : Nat) : (s.gaugeWrite g d).LatchesHeld none := by
  have ht : (s.setGauge g { s.gauge g with duty := d }).LatchesHeld none := h.of_same rfl rfl rfl
  rw [State.gaugeWrite_eq]
  split
  · exact ht
  · rename_i b _
    have hu : ((s.setGauge g { s.gauge g with duty := d }).writeDemand b d .steady).LatchesHeld (some b) :=
      (ht.loosen (x := some b)).setChan fun hx => absurd rfl hx
    exact LatchesHeld.releaseIfDue (hu.setChan fun hx => absurd rfl hx)

theorem takeUpAll (h : s.LatchesHeld none) : s.takeUpAll.LatchesHeld none :=
  (State.latchesHeld_output none).takeUpAll_of (R := fun _ _ => True) (fun _ c ht => ht.takeUp c) (fun _ _ _ => trivial)
    (fun _ c _ ht => ht.joined c) (fun _ _ _ _ _ _ _ => trivial) h

theorem fresh {cfg : Working} (hm : cfg.MapMeets) (q : List Instr) (st : Store) (w : Power) (ev : EventSet) :
    (State.fresh q cfg st w ev).LatchesHeld none := by
  refine ⟨State.mapChecked_iff.mpr hm, fun c _ hl => ?_⟩
  rw [State.fresh_chan] at hl
  cases hl

end State.LatchesHeld

/-- Every step keeps every latch held. -/
theorem State.latchesHeld_stage : StageInvariant (State.LatchesHeld none) where
  out := State.latchesHeld_output none
  trip s c k _ h := h.trip k
  recompute s c h := h.recompute
  takeUp s h := h.takeUpAll
  gauge s g v _ h := h.of_same rfl rfl rfl
  gaugeWrite s g d _ h := h.gaugeWrite g d
  gates s v _ h := h.of_same rfl rfl rfl
  claim s f k v _ h := h.of_same rfl rfl rfl
  result s f v _ h := h.of_same rfl rfl rfl
  cfg s v hc hm _ h := h.of_same hc hm rfl
  newChannel s w x b hv h := by
    refine ⟨h.map.withChannelRec hv, fun c _ hl => ?_⟩
    have hne : c ≠ x.1 := fun he => by
      have hoff := (State.checkChannel_accepted hv).2.2
      rw [← he] at hoff
      cases hoff.symm.trans hl
    have hheld := h.held nofun hl
    unfold State.LatchHeld at hheld ⊢
    rwa [State.withChannelRec_chRec, if_neg hne]
  newMap s w x b hv h := ⟨h.map.withEntry hv, h.2⟩
  newFan s w r b _ h := h.of_same rfl rfl rfl
  storeWrite s r _ _ h := h.of_same rfl rfl rfl
  stored s r _ h := h.of_same rfl rfl rfl
  begin s k _ := .fresh (loadStore_meets s.storeAfterReset).1 ..
  brownOut s h := .fresh (State.mapChecked_iff.mp h.map) ..

end Sys2Proof.Machine
end

section
/-! SUPPORT. Every duty is at most 250 (R46, R141, R158): the property of the principle, and the first of the three
statements about idle channels, latches and duties. -/

namespace Sys2Proof.Machine
open Sys2Proof

/-! ### Records stored and loaded -/

theorem Store.write_fan {st : Store} {r : ConfigRecord} {good : Bool} {x : FanRec} (h : (st.write r good).fan = some x) :
    st.fan = some x ∨ good = true ∧ r = .fan x := by
  cases r with
  | fan y =>
    cases good with
    | true => exact .inr ⟨rfl, congrArg ConfigRecord.fan (Option.some.inj h)⟩
    | false => cases h
  | unit | inputs | slot | function | channel | map | gauge | flasher | supply => exact .inl h

theorem Store.write_map {st : Store} {r : ConfigRecord} {good : Bool} {i : Fin 32} {x : MapEntry}
    (h : (st.write r good).map[i] = some (some x)) : st.map[i] = some (some x) ∨ good = true ∧ r = .map i (some x) := by
  cases r with
  | map j y =>
    replace h : (st.map.set j (if good then some y else none))[i] = some (some x) := h
    by_cases hj : j = i
    · subst hj
      cases good <;> simp_all
    · exact .inl (by simpa [Vector.getElem_set, Fin.ext_iff.not.mp hj] using h)
  | unit | inputs | slot | function | channel | gauge | flasher | supply | fan => exact .inl h

theorem State.storeAfterReset_fan {s : State} {x : FanRec} (h : s.storeAfterReset.fan = some x) : s.store.fan = some x := by
  unfold State.storeAfterReset at h
  split at h
  · exact h
  · exact (Store.write_fan h).resolve_right fun hg => nomatch hg.1

theorem State.storeAfterReset_map {s : State} {i : Fin 32} {x : MapEntry} (h : s.storeAfterReset.map[i] = some (some x)) :
    s.store.map[i] = some (some x) := by
  unfold State.storeAfterReset at h
  split at h
  · exact h
  · exact (Store.write_map h).resolve_right fun hg => nomatch hg.1

theorem loadOne_fst {α : Type} (stored : Option α) (conflict : α → Bool) (dflt : α) :
    (loadOne stored conflict dflt).1 = dflt ∨ stored = some (loadOne stored conflict dflt).1 := by
  unfold loadOne
  cases stored with
  | none => exact .inl rfl
  | some r =>
    dsimp only
    split
    · exact .inl rfl
    · exact .inr rfl

/-- A loaded FAN record is the stored one, or its default (R186). -/
theorem loadStore_fan (st : Store) : (loadStore st).cfg.fan = FanRec.default ∨ st.fan = some (loadStore st).cfg.fan := by
  rw [loadStore_plain (·.fan) (fun _ _ => rfl) (fun _ _ => rfl) (fun _ _ => rfl) fun _ _ => rfl]
  exact loadOne_fst ..

/-- A loaded MAP entry is a stored one (R186). -/
theorem loadStore_map {st : Store} {i : Fin 32} {e : MapEntry} (h : (loadStore st).cfg.map[i] = some e) :
    st.map[i] = some (some e) := by
  have hp (l : Loading) : (Loading.supply st l).cfg.map = l.cfg.map := rfl
  have hg (l : Loading) (g : GaugeId) : (Loading.gauge st l g).cfg.map = l.cfg.map := rfl
  have hmap (l : Loading) (j : Fin 32) (hl : ∀ (i : Fin 32) (e : MapEntry), l.cfg.map[i] = some e → st.map[i] = some (some e))
      (i : Fin 32) (e : MapEntry) (he : (Loading.map st l j).cfg.map[i] = some e) : st.map[i] = some (some e) := by
    unfold Loading.map at he
    extract_lets conflict r at he
    replace he : (l.cfg.map.set j r.1)[i] = some e := he
    by_cases hj : j = i
    · subst hj
      have hr : r.1 = some e := by simpa using he
      rcases loadOne_fst st.map[j] conflict none with hd | hd
      · cases hd.symm.trans hr
      · rw [hd]
        exact congrArg some hr
    · exact hl i e (by simpa [Vector.getElem_set, Fin.ext_iff.not.mp hj] using he)
  unfold loadStore at h
  rw [hp, Loading.foldl_keep (·.cfg.map) hg] at h
  refine List.foldlRecOn (motive := fun l : Loading => ∀ (i : Fin 32) (e : MapEntry), l.cfg.map[i] = some e →
    st.map[i] = some (some e)) _ (Loading.map st) (fun i e he => ?_) (fun l hl j _ => hmap l j hl) i e h
  simp [Loading.slots, Loading.plain, Working.default] at he

/-! ### What the composer gives -/

theorem State.ValuesOfKind.result_le {s : State} (h : s.ValuesOfKind) (f : Fn) : s.result f ≤ 250 := by
  have := h.2 f
  unfold fnTop at this
  split at this
  · exact this
  · split at this <;> omega

theorem State.steadyDuty_le {s : State} (hv : s.ValuesOfKind) {e : MapEntry} (he : e.InRange) : s.steadyDuty e ≤ 250 := by
  unfold State.steadyDuty
  unfold MapEntry.InRange at he
  cases hc : e.contrib with
  | full => exact le_rfl
  | dim l =>
    rw [hc] at he
    exact le_trans he (by omega)
  | level => exact hv.result_le e.fn
  | flash => exact Nat.zero_le _

/-- A composed demand is at most 250 (R34, R35). -/
theorem State.composed_le {s : State} (hv : s.ValuesOfKind) (hd : s.DutiesInRange) (c : Channel) :
    (s.composed c).1 ≤ 250 := by
  obtain ⟨-, -, -, -, -, -, hentries, -⟩ := hd
  unfold State.composed
  split
  · dsimp only
    split <;> omega
  · unfold State.steadyDemand
    refine List.foldlRecOn (motive := fun m => m ≤ 250) _ _ (Nat.zero_le _) fun m hm e he => max_le hm ?_
    obtain ⟨i, hi⟩ := State.mem_entries.mp (State.mem_entriesOn.mp (List.mem_filter.mp he).1).1
    exact State.steadyDuty_le hv (hentries i e (.inl hi))

theorem State.rewrites_le {s : State} (hv : s.ValuesOfKind) (hd : s.DutiesInRange) (c : Channel) :
    (s.rewrites c).1 ≤ 250 := by
  have hc := (hd.1 c).1
  unfold State.rewrites
  split
  · exact hc
  · split
    · exact Nat.zero_le _
    · split
      · exact hc
      · exact Nat.zero_le _
    · exact State.composed_le hv hd c
    · exact State.composed_le hv hd c

/-! ### The property -/

/-- The duties of a channel are in range (R46). -/
def Chan.InRange (ch : Chan) : Prop := ch.demand ≤ 250 ∧ ch.applied ≤ 250 ∧ ch.prevDuty ≤ 250

/-- Values are of their kinds, and every duty is in range. -/
def State.DutiesKept (s : State) : Prop := s.ValuesOfKind ∧ s.DutiesInRange

namespace State.DutiesKept

variable {s t : State} (h : s.DutiesKept)
include h

theorem chan (c : Channel) : (s.chan c).InRange := h.2.1 c

theorem setChan {c : Channel} {v : Chan} (hv : v.InRange) : (s.setChan c v).DutiesKept := by
  refine ⟨h.1, fun d => ?_, h.2.2⟩
  rw [State.chan_setChan]
  split
  · exact hv
  · exact h.2.1 d

/-- A channel's record moves, but for its demand and its on-times. -/
theorem setMoved {c : Channel} {v : Chan} (hw : v.written = (s.chan c).written) (hd : v.drive = (s.chan c).drive) :
    (s.setChan c v).DutiesKept := by
  obtain ⟨hdemand, -⟩ := Prod.ext_iff.mp hw
  obtain ⟨happlied, hprev⟩ := Prod.ext_iff.mp hd
  obtain ⟨h1, h2, h3⟩ := h.chan c
  exact h.setChan ⟨hdemand.trans_le h1, happlied.trans_le h2, hprev.trans_le h3⟩

theorem setGauge {g : GaugeId} {v : GaugeSlot} (hv : v.duty ≤ 250) : (s.setGauge g v).DutiesKept := by
  refine ⟨h.1, h.2.1, fun k => ?_, h.2.2.2⟩
  rw [State.gauge_setGauge]
  split
  · exact hv
  · exact h.2.2.1 k

theorem writeDemand {c : Channel} {d : Nat} (src : DemandSource) (hd : d ≤ 250) : (s.writeDemand c d src).DutiesKept :=
  h.setChan ⟨hd, (h.chan c).2⟩

/-- A channel's drive stops, its demand standing. -/
theorem setStopped {c : Channel} {v : Chan} (hv : v.drive = (0, 0)) (hd : v.demand = (s.chan c).demand) :
    (s.setChan c v).DutiesKept := by
  obtain ⟨happlied, hprev⟩ := Prod.ext_iff.mp hv
  exact h.setChan ⟨hd ▸ (h.chan c).1, happlied.trans_le (Nat.zero_le _), hprev.trans_le (Nat.zero_le _)⟩

theorem admitted (c : Channel) : (s.admitted c).DutiesKept := by
  have ht : (s.setChan c (s.admittedChan c)).DutiesKept := h.setChan (h.chan c)
  unfold State.admitted
  dsimp only
  split <;> exact ht

theorem takeUp (c : Channel) : (s.takeUp c).DutiesKept := by
  obtain ⟨hdemand, happlied, hprev⟩ := h.chan c
  refine State.takeUp_cases (Q := State.DutiesKept) s c (fun _ => h) (fun _ => h.setChan ⟨hdemand, hdemand, Nat.zero_le _⟩)
    (fun _ => ?_) (fun _ => h.setStopped (v := { (s.chan c).stopped .off with onEdge := false }) rfl rfl)
    (fun _ => h.setChan ⟨hdemand, hdemand, happlied⟩) (fun _ => h.setChan ⟨hdemand, hdemand, happlied⟩)
    (fun _ n => h.setChan ⟨hdemand, happlied, hprev⟩)
  unfold State.bypass
  dsimp only
  have ht (v : Chan) (hv : v.demand = (s.chan c).demand ∧ v.drive = (250, 0)) : (s.setChan c v).DutiesKept := by
    obtain ⟨hd, hdrive⟩ := hv
    obtain ⟨ha, hp⟩ := Prod.ext_iff.mp hdrive
    exact h.setChan ⟨hd ▸ hdemand, ha.le, hp.trans_le (Nat.zero_le _)⟩
  split
  · exact ht _ ⟨rfl, rfl⟩
  · exact ht _ ⟨rfl, rfl⟩

end State.DutiesKept

theorem State.dutiesKept_output : OutputInvariant State.DutiesKept where
  pending _ _ := rfl
  power _ _ := rfl
  clock _ _ := rfl
  ports _ _ := rfl
  slots _ _ := rfl
  inputs _ _ := rfl
  flash _ _ := rfl
  sup _ _ := rfl
  seq _ _ := rfl
  chan _ _ _ _ hw hd h := h.setMoved hw hd
  fan _ _ ht hr h := ⟨h.1, h.2.1, h.2.2.1, ht h.1 h.2, hr h.1 h.2, h.2.2.2.2.2⟩
  fanDemand _ _ _ _ hd h := h.writeDemand .steady (hd h.1 h.2)
  admitted _ c _ h := h.admitted c
  join _ c _ h := h.setChan (h.chan c)
  freed _ _ _ _ _ hw hd h := h.setMoved hw hd
  cut s c _ h := h.setStopped (v := (s.chan c).stopped .off) rfl rfl
  expired s c _ h := h.setChan (v := (s.chan c).expired) (h.chan c)

theorem FanRec.default_inRange : FanRec.default.InRange := by
  unfold FanRec.InRange
  decide

theorem State.DutiesKept.fresh {cfg : Working} {st : Store} (hfan : cfg.fan.InRange)
    (hst : ∀ r : FanRec, st.fan = some r → r.InRange)
    (hmap : ∀ (i : Fin 32) (e : MapEntry), (cfg.map[i] = some e ∨ st.map[i] = some (some e)) → e.InRange)
    (q : List Instr) (w : Power) (ev : EventSet) : (State.fresh q cfg st w ev).DutiesKept := by
  refine ⟨State.fresh_valuesOfKind .., fun c => ?_, fun g => ?_, Nat.zero_le _, Nat.zero_le _, hfan, hst, hmap, nofun⟩
  · rw [State.fresh_chan]
    exact ⟨Nat.zero_le _, Nat.zero_le _, Nat.zero_le _⟩
  · cases g <;> exact Nat.zero_le _

/-- Every step keeps values of their kinds and every duty in range. -/
theorem State.dutiesKept_stage : StageInvariant State.DutiesKept where
  out := State.dutiesKept_output
  trip s c k _ h := State.dutiesKept_output.trip_of (h.setStopped (v := s.trippedChan c k) rfl rfl)
  recompute s c h := by
    obtain ⟨e, he⟩ := s.rewritten_only c
    have ht : (s.rewritten c).DutiesKept := by
      rw [he]
      exact h.setChan ⟨State.rewrites_le h.1 h.2 c, (h.chan c).2⟩
    exact State.dutiesKept_output.recompute_of (State.dutiesKept_output.placed_of ht ht)
  takeUp s h := State.dutiesKept_output.takeUpAll_of (R := fun _ _ => True) (fun _ c ht => ht.takeUp c) (fun _ _ _ => trivial)
    (fun _ c _ ht => ht.setChan (ht.chan c)) (fun _ _ _ _ _ _ _ => trivial) h
  gauge s g v hv h := h.setGauge (hv h.1 h.2)
  gaugeWrite s g d hd h := by
    have ht : (s.setGauge g { s.gauge g with duty := d }).DutiesKept := h.setGauge hd
    refine State.dutiesKept_output.gaugeWrite_of ht fun c => ?_
    have hu := ht.writeDemand (c := c) .steady hd
    exact hu.setChan (hu.chan c)
  gates s v _ h := h
  claim s f k v hv h := by
    refine ⟨⟨fun g j c hc => ?_, h.1.2⟩, h.2⟩
    rw [State.cell_setCell] at hc
    split at hc
    · rename_i he
      obtain ⟨rfl, rfl⟩ := he
      exact hv c hc h.1
    · exact h.1.1 g j c hc
  result s f v hv h := by
    refine ⟨⟨h.1.1, fun g => ?_⟩, h.2⟩
    rw [State.result_setResult]
    split
    · rename_i he
      subst he
      exact hv h.1
    · exact h.1.2 g
  cfg s v _ hm hf h := by
    obtain ⟨hchan, hgauge, htarget, hramp, hfan, hst, hmap, hw⟩ := h.2
    exact ⟨h.1, hchan, hgauge, htarget, hramp, hf ▸ hfan, hst, fun i e he => hmap i e (hm ▸ he), hw⟩
  newChannel s w x b _ h := h
  newMap s w x b hv h := by
    obtain ⟨hchan, hgauge, htarget, hramp, hfan, hst, hmap, hw⟩ := h.2
    refine ⟨h.1, hchan, hgauge, htarget, hramp, hfan, hst, fun i e he => he.elim (fun he => ?_) fun he => hmap i e (.inr he), hw⟩
    replace he : (s.cfg.map.set x.1 x.2)[i] = some e := he
    by_cases hi : x.1 = i
    · subst hi
      exact State.checkMap_inRange hv e (by simpa using he)
    · exact hmap i e (.inl (by simpa [Vector.getElem_set, Fin.ext_iff.not.mp hi] using he))
  newFan s w r b hv h := by
    obtain ⟨hchan, hgauge, htarget, hramp, -, hrest⟩ := h.2
    exact ⟨h.1, hchan, hgauge, htarget, hramp, State.checkFan_inRange hv, hrest⟩
  storeWrite s r hr _ h := by
    obtain ⟨hchan, hgauge, htarget, hramp, hfan, hst, hmap, -⟩ := h.2
    exact ⟨h.1, hchan, hgauge, htarget, hramp, hfan, hst, hmap, fun x he => Option.some.inj he ▸ hr⟩
  stored s r hr h := by
    obtain ⟨hchan, hgauge, htarget, hramp, hfan, hst, hmap, hw⟩ := h.2
    refine ⟨h.1, hchan, hgauge, htarget, hramp, hfan, fun x hx => ?_, fun i e he => ?_, nofun⟩
    · rcases Store.write_fan hx with hx | ⟨-, rfl⟩
      · exact hst x hx
      · exact hw _ hr
    · rcases he with he | he
      · exact hmap i e (.inl he)
      · rcases Store.write_map he with he | ⟨-, rfl⟩
        · exact hmap i e (.inr he)
        · exact hw _ hr e rfl
  begin s k h := by
    obtain ⟨-, -, -, -, -, hst, hmap, -⟩ := h.2
    have hfan (r : FanRec) (hr : s.storeAfterReset.fan = some r) : r.InRange := hst r (State.storeAfterReset_fan hr)
    have hentry (i : Fin 32) (e : MapEntry) (he : s.storeAfterReset.map[i] = some (some e)) : e.InRange :=
      hmap i e (.inr (State.storeAfterReset_map he))
    refine State.DutiesKept.fresh ?_ hfan (fun i e he => hentry i e (he.elim loadStore_map id)) _ _ _
    rcases loadStore_fan s.storeAfterReset with hd | hd
    · rw [hd]
      exact FanRec.default_inRange
    · exact hfan _ hd
  brownOut s h := by
    obtain ⟨-, -, -, -, hfan, hst, hmap, -⟩ := h.2
    exact State.DutiesKept.fresh hfan (fun r hr => hst r (State.storeAfterReset_fan hr))
      (fun i e he => hmap i e (he.imp_right State.storeAfterReset_map)) _ _ _

end Sys2Proof.Machine

open Sys2Proof Sys2Proof.Machine

/-- Settles O8: each part holds of the next state of every command, by `StageInvariant`. -/
theorem idleChannelsStayDark : Obligations.IdleChannelsStayDark := by
  unfold Obligations.IdleChannelsStayDark
  refine ⟨fun s t ht hs => ?_, fun s t ht hm _ hs => ?_, fun s t ht hv hs => ?_⟩
  · have hkept := (State.staysDark_stage s.IdleChannelsDark).step ht ⟨hs, id⟩
    exact ⟨hkept.phases, hkept.dark⟩
  · exact fun c => (State.latchesHeld_stage.step ht ⟨hm, fun c _ => hs c⟩).held nofun
  · exact (State.dutiesKept_stage.step ht ⟨hv, hs⟩).2

end

section
/-! SUPPORT. The queue holds the WAITING channels and the in-window set those in INRUSH (R57 to R61): the property of the
principle. -/

namespace Sys2Proof.Machine
open Sys2Proof

/-! ### Places -/

/-- Every URGENT place is ahead of every NORMAL place (R57). -/
def UrgentFirst (q : List (Channel × Urgency)) : Prop := q.Pairwise fun x y => y.2 = .urgent → x.2 = .urgent

theorem UrgentFirst.sublist {q r : List (Channel × Urgency)} (h : UrgentFirst q) (hs : r.Sublist q) : UrgentFirst r :=
  List.Pairwise.sublist hs h

/-- An URGENT place keeps the order (R58, R59). -/
theorem UrgentFirst.placeUrgent {q : List (Channel × Urgency)} (h : UrgentFirst q) (c : Channel) :
    UrgentFirst (placeUrgent q c) := by
  refine List.pairwise_append.mpr ⟨h.sublist (List.takeWhile_sublist _), List.pairwise_cons.mpr ⟨fun _ _ _ => rfl,
    h.sublist (List.dropWhile_sublist _)⟩, fun _ hx _ _ _ => ?_⟩
  simpa using List.mem_takeWhile_imp hx

/-- A NORMAL place at the tail keeps the order (R58). -/
theorem UrgentFirst.concat {q : List (Channel × Urgency)} (h : UrgentFirst q) (c : Channel) :
    UrgentFirst (q ++ [(c, .normal)]) := by
  refine List.pairwise_append.mpr ⟨h, List.pairwise_singleton _ _, fun _ _ y hy hu => ?_⟩
  rw [List.mem_singleton.mp hy] at hu
  cases hu

/-- A join keeps the order (R58). -/
theorem UrgentFirst.joined {s : State} (h : UrgentFirst s.queue) (c : Channel) : UrgentFirst (s.joined c).queue := by
  change UrgentFirst (if (s.chan c).stop then Machine.placeUrgent s.queue c else s.queue ++ [(c, .normal)])
  split
  · exact h.placeUrgent c
  · exact h.concat c

theorem placeUrgent_perm (q : List (Channel × Urgency)) (c : Channel) : (placeUrgent q c).Perm ((c, .urgent) :: q) := by
  have h := List.perm_middle (a := (c, Urgency.urgent)) (l₁ := q.takeWhile fun x => x.2 == .urgent)
    (l₂ := q.dropWhile fun x => x.2 == .urgent)
  rwa [List.takeWhile_append_dropWhile] at h

theorem State.joined_chan (s : State) (c d : Channel) :
    (s.joined c).chan d = if c = d then { s.chan c with st := .waiting } else s.chan d :=
  s.chan_modChan c d fun ch => { ch with st := .waiting }

theorem State.joined_perm (s : State) (c : Channel) : (s.joined c).queue.Perm
    ((c, if (s.chan c).stop then Urgency.urgent else .normal) :: s.queue) := by
  change (if (s.chan c).stop then placeUrgent s.queue c else s.queue ++ [(c, .normal)]).Perm _
  split
  · exact placeUrgent_perm ..
  · exact List.perm_append_singleton ..

theorem filter_ne_self {α : Type} {l : List (Channel × α)} {c : Channel} (h : c ∉ l.map Prod.fst) :
    (l.filter fun x => x.1 != c) = l :=
  List.filter_eq_self.mpr fun _ hx => bne_iff_ne.mpr fun he => h (he ▸ List.mem_map_of_mem hx)

theorem mem_filter_ne {α : Type} {l : List (Channel × α)} {c d : Channel} :
    d ∈ (l.filter fun x => x.1 != c).map Prod.fst ↔ d ∈ l.map Prod.fst ∧ d ≠ c := by
  simp only [List.mem_map, List.mem_filter, bne_iff_ne]
  constructor
  · rintro ⟨x, ⟨hx, hne⟩, rfl⟩
    exact ⟨⟨x, hx, rfl⟩, hne⟩
  · rintro ⟨⟨x, hx, rfl⟩, hne⟩
    exact ⟨x, ⟨hx, hne⟩, rfl⟩

theorem State.admittedSt_places (s : State) (c : Channel) : (if s.inrushTime c = 0 then [] else [(c, s.expected c)]) =
    if s.admittedSt c = .inrush then [(c, s.expected c)] else [] := by
  unfold State.admittedSt
  split <;> simp

/-! ### The property -/

/-- The queue and the in-window set hold the channels of their states, and, if `b`, stop marks have URGENT places. -/
def State.Placed (b : Prop) (s : State) : Prop := s.QueueIsWaiting ∧ s.WindowIsInrush ∧ (b → s.StopsAreUrgent)

namespace State.Placed

variable {b : Prop} {s t : State} {c : Channel} (h : s.Placed b)
include h

theorem queued_iff (d : Channel) : d ∈ s.queued ↔ (s.chan d).st = .waiting := h.1.2.1 d

theorem windowed_iff (d : Channel) : d ∈ s.windowed ↔ (s.chan d).st = .inrush := h.2.1.2 d

theorem not_queued (hc : (s.chan c).st ≠ .waiting) : c ∉ s.queued := fun hq => hc ((h.queued_iff c).mp hq)

theorem not_windowed (hc : (s.chan c).st ≠ .inrush) : c ∉ s.windowed := fun hw => hc ((h.windowed_iff c).mp hw)

theorem dequeued (hc : (s.chan c).st ≠ .waiting) : (s.queue.filter fun x => x.1 != c) = s.queue :=
  filter_ne_self (h.not_queued hc)

theorem unwindowed (hc : (s.chan c).st ≠ .inrush) : (s.window.filter fun x => x.1 != c) = s.window :=
  filter_ne_self (h.not_windowed hc)

/-- The places stand, and no channel enters or leaves WAITING or INRUSH or has its stop mark set. -/
theorem of_same (hq : t.queue = s.queue) (hw : t.window = s.window)
    (hst : ∀ d : Channel, ((t.chan d).st = .waiting ↔ (s.chan d).st = .waiting) ∧
      ((t.chan d).st = .inrush ↔ (s.chan d).st = .inrush) ∧
        (b → (t.chan d).stop = true → (s.chan d).stop = true)) :
    t.Placed b := by
  obtain ⟨⟨hnodup, hqueued, horder⟩, ⟨hwnodup, hwindow⟩, hstops⟩ := h
  unfold State.Placed State.QueueIsWaiting State.WindowIsInrush State.StopsAreUrgent State.queued
  rw [hq, hw]
  exact ⟨⟨hnodup, fun d => (hqueued d).trans (hst d).1.symm, horder⟩,
    ⟨hwnodup, fun d => (hwindow d).trans (hst d).2.1.symm⟩, fun hb x hx hs => hstops hb x hx ((hst x.1).2.2 hb hs)⟩

/-- One channel's record moves and its places stand. -/
theorem setChan {v : Chan} (hwait : v.st = .waiting ↔ (s.chan c).st = .waiting)
    (hinrush : v.st = .inrush ↔ (s.chan c).st = .inrush) (hstop : b → v.stop = true → (s.chan c).stop = true) :
    (s.setChan c v).Placed b := by
  refine h.of_same rfl rfl fun d => ?_
  rw [State.chan_setChan]
  split
  · rename_i he
    subst he
    exact ⟨hwait, hinrush, hstop⟩
  · exact ⟨.rfl, .rfl, fun _ => id⟩

/-- A channel leaves the queue and the in-window set, and joins the set where it is in INRUSH afterwards. -/
theorem left (hq : t.queue = s.queue.filter fun x => x.1 != c)
    (hw : ∃ n : Nat, t.window = (s.window.filter fun x => x.1 != c) ++ if (t.chan c).st = .inrush then [(c, n)] else [])
    (hc : (t.chan c).st ≠ .waiting) (hother : ∀ d : Channel, d ≠ c → t.chan d = s.chan d) : t.Placed b := by
  obtain ⟨⟨hnodup, hqueued, horder⟩, ⟨hwnodup, hwindow⟩, hstops⟩ := h
  obtain ⟨n, hw⟩ := hw
  have hmem (d : Channel) : d ∈ t.queued ↔ d ∈ s.queued ∧ d ≠ c := by
    unfold State.queued
    rw [hq]
    exact mem_filter_ne
  have hsub : (s.queue.filter fun x => x.1 != c).Sublist s.queue := List.filter_sublist
  refine ⟨⟨?_, fun d => ?_, hq ▸ horder.sublist hsub⟩, ⟨?_, fun d => ?_⟩, fun hb x hx hs => ?_⟩
  · unfold State.queued
    rw [hq]
    exact hnodup.sublist (hsub.map _)
  · by_cases hd : d = c
    · subst hd
      exact ⟨fun hm => absurd rfl ((hmem d).mp hm).2, fun hst => absurd hst hc⟩
    · rw [hmem, hother d hd, hqueued]
      exact and_iff_left hd
  · rw [hw, List.map_append, List.nodup_append]
    refine ⟨hwnodup.sublist (List.filter_sublist.map _), ?_, fun x hx y hy he => ?_⟩
    · split <;> simp
    · subst he
      refine (mem_filter_ne.mp hx).2 ?_
      split at hy
      · simpa using hy
      · cases hy
  · rw [hw, List.map_append, List.mem_append, mem_filter_ne, hwindow]
    by_cases hd : d = c
    · subst hd
      split <;> simp_all
    · rw [hother d hd]
      have hno : d ∉ ((if (t.chan c).st = .inrush then [(c, n)] else []).map Prod.fst) := by split <;> simp [hd]
      exact ⟨fun hx => (hx.resolve_right hno).1, fun hx => .inl ⟨hx, hd⟩⟩
  · rw [hq] at hx
    obtain ⟨hx, hne⟩ := List.mem_filter.mp hx
    exact hstops hb x hx (hother x.1 (bne_iff_ne.mp hne) ▸ hs)

/-- The URGENT place of a waiting channel, whatever its stop mark and its place were (R59). -/
theorem promoted {b' : Prop} (hc : c ∈ s.queued)
    (hstop : b' → ∀ x ∈ s.queue, x.1 ≠ c → (s.chan x.1).stop = true → x.2 = .urgent) :
    (s.promoted c).Placed b' := by
  obtain ⟨⟨hnodup, hqueued, horder⟩, hwin, -⟩ := h
  have hperm := placeUrgent_perm (s.queue.filter fun x => x.1 != c) c
  have hsub : (s.queue.filter fun x => x.1 != c).Sublist s.queue := List.filter_sublist
  refine ⟨⟨?_, fun d => ?_, (UrgentFirst.sublist horder hsub).placeUrgent c⟩, hwin, fun hb x hx hs => ?_⟩
  · refine (hperm.map Prod.fst).nodup_iff.mpr (List.nodup_cons.mpr ⟨fun hm => (mem_filter_ne.mp hm).2 rfl, ?_⟩)
    exact hnodup.sublist (hsub.map _)
  · refine Iff.trans ?_ (hqueued d)
    refine (hperm.map Prod.fst).mem_iff.trans ?_
    rw [List.map_cons, List.mem_cons, mem_filter_ne]
    by_cases hd : d = c
    · subst hd
      exact iff_of_true (.inl rfl) hc
    · exact ⟨fun hx => (hx.resolve_left hd).1, fun hx => .inr ⟨hx, hd⟩⟩
  · rcases List.mem_cons.mp (hperm.mem_iff.mp hx) with rfl | hx
    · rfl
    · obtain ⟨hx, hne⟩ := List.mem_filter.mp hx
      exact hstop hb x hx (bne_iff_ne.mp hne) hs

/-- A channel in OFF joins the queue (R58). -/
theorem joined (hc : (s.chan c).st = .off) : (s.joined c).Placed b := by
  have hunqueued : c ∉ s.queued := h.not_queued (by rw [hc]; decide)
  obtain ⟨⟨hnodup, hqueued, horder⟩, ⟨hwnodup, hwindow⟩, hstops⟩ := h
  have hperm := s.joined_perm c
  refine ⟨⟨?_, fun d => ?_, UrgentFirst.joined horder c⟩, ⟨hwnodup, fun d => (hwindow d).trans ?_⟩, fun hb x hx hs => ?_⟩
  · exact (hperm.map Prod.fst).nodup_iff.mpr (List.nodup_cons.mpr ⟨hunqueued, hnodup⟩)
  · refine (hperm.map Prod.fst).mem_iff.trans ?_
    rw [List.map_cons, List.mem_cons, State.joined_chan]
    by_cases he : c = d
    · rw [if_pos he]
      exact iff_of_true (.inl he.symm) rfl
    · rw [if_neg he]
      exact ⟨fun hx => (hqueued d).mp (hx.resolve_left (Ne.symm he)), fun hx => .inr ((hqueued d).mpr hx)⟩
  · rw [State.joined_chan]
    split
    · rename_i he
      subst he
      simp [hc]
    · exact .rfl
  · rw [State.joined_chan] at hs
    rcases List.mem_cons.mp (hperm.mem_iff.mp hx) with rfl | hx
    · exact if_pos (by simpa using hs)
    · rw [if_neg fun he : c = x.1 => hunqueued (he ▸ List.mem_map_of_mem hx)] at hs
      exact hstops hb x hx hs

/-- The head admitted (R63). -/
theorem admitted (hc : c ∈ s.queued) : (s.admitted c).Placed b := by
  have hst := (h.queued_iff c).mp hc
  refine h.left (c := c) (s.admitted_queue c) ⟨s.expected c, ?_⟩ ?_ fun d hd => ?_
  · rw [State.admitted_window, h.unwindowed (c := c) (by rw [hst]; decide), State.admitted_chan, if_pos rfl]
    exact congrArg (s.window ++ ·) (s.admittedSt_places c)
  · rw [State.admitted_chan, if_pos rfl]
    exact s.admittedSt_ne_waiting c
  · rw [State.admitted_chan, if_neg (Ne.symm hd)]

/-- A driven channel stops, or a channel in INRUSH enters RUN: it is in neither place afterwards. -/
theorem leaves {v : Chan} (hst : (s.chan c).st.drives = true) (hw : v.st ≠ .waiting) (hi : v.st ≠ .inrush) :
    ((s.setChan c v).leaveWindow c).Placed b := by
  have hchan (d : Channel) : ((s.setChan c v).leaveWindow c).chan d = if c = d then v else s.chan d := s.chan_setChan c d v
  refine h.left (c := c) (h.dequeued fun hx => ?_).symm ⟨0, ?_⟩ ?_ fun d hd => ?_
  · rw [hx] at hst
    cases hst
  · rw [hchan, if_pos rfl, if_neg hi, List.append_nil]
    rfl
  · rwa [hchan, if_pos rfl]
  · rw [hchan, if_neg (Ne.symm hd)]

theorem takeUp (c : Channel) : (s.takeUp c).Placed b := by
  refine State.takeUp_cases (Q := State.Placed b) s c (fun _ => h) (fun hst => ?_) (fun hst => ?_) (fun _ => ?_)
    (fun _ => h.setChan .rfl .rfl fun _ => id) (fun _ => h.setChan .rfl .rfl fun _ => id) (fun _ _ => h.setChan .rfl .rfl fun _ => id)
  · exact h.setChan (by simp [hst, Chan.startRun]) (by simp [hst, Chan.startRun]) fun _ => id
  · have hqueue : (s.bypass c).queue = s.queue.filter fun x => x.1 != c := by
      unfold State.bypass
      dsimp only
      split <;> rfl
    have hwindow : (s.bypass c).window = s.window ++ if s.inrushTime c = 0 then [] else [(c, s.expected c)] := by
      unfold State.bypass
      dsimp only
      split
      · exact (List.append_nil _).symm
      · rfl
    refine h.left (c := c) hqueue ⟨s.expected c, ?_⟩ ?_ fun d hd => ?_
    · rw [hwindow, h.unwindowed (c := c) (by rcases hst with hst | hst <;> rw [hst] <;> decide), State.bypass_chan, if_pos rfl]
      exact congrArg (s.window ++ ·) (s.admittedSt_places c)
    · rw [State.bypass_chan, if_pos rfl]
      exact s.admittedSt_ne_waiting c
    · rw [State.bypass_chan, if_neg (Ne.symm hd)]
  · refine h.left (c := c) rfl ⟨0, ?_⟩ ?_ fun d hd => ?_
    · rw [State.takeOff_chan, if_pos rfl, if_neg (by simp [Chan.stopped]), List.append_nil]
      rfl
    · rw [State.takeOff_chan, if_pos rfl]
      simp [Chan.stopped]
    · rw [State.takeOff_chan, if_neg (Ne.symm hd)]

end State.Placed

theorem State.placed_output (b : Prop) : OutputInvariant (State.Placed b) where
  pending _ _ := rfl
  power _ _ := rfl
  clock _ _ := rfl
  ports _ _ := rfl
  slots _ _ := rfl
  inputs _ _ := rfl
  flash _ _ := rfl
  sup _ _ := rfl
  seq _ _ := rfl
  chan s c f hst hw _ h := by
    simp only [Chan.written, Prod.mk.injEq] at hw
    exact h.setChan (by rw [hst]) (by rw [hst]) (by rw [hw.2.2.1]; exact fun _ => id)
  fan _ _ _ _ h := h
  fanDemand _ _ _ _ _ h := h.setChan .rfl .rfl fun _ => id
  admitted _ _ hc h := h.admitted hc
  join _ _ hc h := h.joined hc
  freed s c f ht hoff hw _ h := by
    simp only [Chan.written, Prod.mk.injEq] at hw
    refine h.setChan ?_ ?_ (by rw [hw.2.2.1]; exact fun _ => id)
    · rcases ht with ht | ht <;> simp [hoff, ht]
    · rcases ht with ht | ht <;> simp [hoff, ht]
  cut s c hst h := by
    have ht : (s.setChan c ((s.chan c).stopped .off)).Placed b :=
      h.setChan (by simp [hst, Chan.stopped]) (by simp [hst, Chan.stopped]) fun _ => id
    exact ht
  expired s c hst h := h.leaves (v := (s.chan c).expired) (by rw [hst]; rfl) nofun nofun

namespace State.Placed

variable {b : Prop} {s : State} {c : Channel} (h : s.Placed b)
include h

theorem trip (hst : (s.chan c).st.drives = true) (k : TripCause) : (s.trip c k).Placed b := by
  have hlatch : (s.trippedChan c k).st ≠ .waiting ∧ (s.trippedChan c k).st ≠ .inrush := by
    change (if _ then ChState.latched else ChState.cooling) ≠ _ ∧ (if _ then ChState.latched else ChState.cooling) ≠ _
    split <;> decide
  exact (State.placed_output b).trip_of (h.leaves (v := s.trippedChan c k) hst hlatch.1 hlatch.2)

/-- A stop mark that comes to be set promotes the channel (R38, R59). -/
theorem rewrittenPlaced (c : Channel) : (s.rewrittenPlaced c).Placed b := by
  obtain ⟨e, he⟩ := s.rewritten_only c
  have hstop (d : Channel) : ((s.rewritten c).chan d).stop = if c = d then (s.rewrites c).2.2.1 else (s.chan d).stop := by
    rw [he, State.chan_setChan]
    split <;> rfl
  have hqueue : (s.rewritten c).queue = s.queue := by rw [he]; rfl
  have hloose : (s.rewritten c).Placed False := by
    have h' : s.Placed False := ⟨h.1, h.2.1, False.elim⟩
    rw [he]
    exact h'.setChan .rfl .rfl False.elim
  have hother (hb : b) (x : Channel × Urgency) (hx : x ∈ (s.rewritten c).queue) (hne : x.1 ≠ c)
      (hs : ((s.rewritten c).chan x.1).stop = true) : x.2 = .urgent := by
    rw [hstop, if_neg (Ne.symm hne)] at hs
    exact h.2.2 hb x (hqueue ▸ hx) hs
  unfold State.rewrittenPlaced
  split
  · rw [State.promote_eq]
    split
    next hin =>
      exact (State.placed_output b).admitIfNewHead
        (hloose.promoted (List.mem_map_of_mem (f := Prod.fst) hin) hother) _
    next hout =>
      refine ⟨hloose.1, hloose.2.1, fun hb x hx hs => ?_⟩
      by_cases hne : x.1 = c
      · cases hu : x.2 with
        | urgent => rfl
        | normal => exact absurd ((Prod.ext hne hu : x = (c, .normal)) ▸ hx) hout
      · exact hother hb x hx hne hs
  · rename_i hcond
    refine ⟨hloose.1, hloose.2.1, fun hb x hx hs => ?_⟩
    by_cases hne : x.1 = c
    · rw [hne, hstop, if_pos rfl] at hs
      refine h.2.2 hb x (hqueue ▸ hx) ?_
      rw [hne]
      simpa [hs] using hcond
    · exact hother hb x hx hne hs

theorem takeUpAll : s.takeUpAll.Placed b := by
  refine (State.placed_output b).takeUpAll_of (R := fun t c => (t.chan c).st = .off) (fun _ c ht => ht.takeUp c)
    (fun ht c hc => ?_) (fun _ _ hc ht => ht.joined hc) (fun t c d hne hc hd ht => ?_) h
  · obtain ⟨hoff, -⟩ := State.takenUp_joiner hc
    rw [((s.tested_admits s.takenUp).outside (ht.not_queued (by rw [hoff]; decide))).1]
    exact hoff
  · have hchan : (t.joined c).chan d = t.chan d := (t.joined_chan c d).trans (if_neg hne)
    have hout : d ∉ (t.joined c).queued := (ht.joined hc).not_queued (by rw [hchan, hd]; decide)
    rw [State.join_eq, ((State.Admits.admitIfNewHead _ _).outside hout).1, hchan]
    exact hd

omit h in
theorem fresh (q : List Instr) (cfg : Working) (st : Store) (w : Power) (ev : EventSet) :
    (State.fresh q cfg st w ev).Placed b := by
  have hidle (c : Channel) : ((State.fresh q cfg st w ev).chan c).st = .off := by
    rw [State.fresh_chan]
    rfl
  refine ⟨⟨List.nodup_nil, fun c => ?_, List.Pairwise.nil⟩, ⟨List.nodup_nil, fun c => ?_⟩, fun _ _ hx => nomatch hx⟩
  · rw [hidle]
    exact iff_of_false List.not_mem_nil (by decide)
  · rw [hidle]
    exact iff_of_false List.not_mem_nil (by decide)

end State.Placed

/-- Every step keeps the queue and the in-window set those of the channels' states. -/
theorem State.placed_stage (b : Prop) : StageInvariant (State.Placed b) where
  out := State.placed_output b
  trip _ _ k hst h := h.trip hst k
  recompute _ c h := (State.placed_output b).recompute_of (h.rewrittenPlaced c)
  takeUp _ h := h.takeUpAll
  gauge _ _ _ _ h := h
  gaugeWrite s g d _ h := by
    have ht : (s.setGauge g { s.gauge g with duty := d }).Placed b := h
    refine (State.placed_output b).gaugeWrite_of ht fun c => ?_
    have hu : ((s.setGauge g { s.gauge g with duty := d }).writeDemand c d .steady).Placed b :=
      ht.setChan .rfl .rfl fun _ => id
    exact hu.setChan .rfl .rfl fun _ hs => nomatch hs
  gates _ _ _ h := h
  claim _ _ _ _ _ h := h
  result _ _ _ _ h := h
  cfg _ _ _ _ _ h := h
  newChannel _ _ _ _ _ h := h
  newMap _ _ _ _ _ h := h
  newFan _ _ _ _ _ h := h
  storeWrite _ _ _ _ h := h
  stored _ _ _ h := h
  begin _ _ _ := .fresh ..
  brownOut _ _ := .fresh ..

end Sys2Proof.Machine
end

section
/-! SUPPORT. Where a place goes (R58, R59): joins and promotions that leave the head of the queue. -/

namespace Sys2Proof.Machine
open Sys2Proof

/-- The URGENT places of a queue, and the NORMAL ones. -/
def urgentPlaces (q : List (Channel × Urgency)) : List (Channel × Urgency) := q.filter fun x => x.2 == .urgent

def normalPlaces (q : List (Channel × Urgency)) : List (Channel × Urgency) := q.filter fun x => x.2 == .normal

/-- A queue with its URGENT places first is cut at the first NORMAL place (R57). -/
theorem UrgentFirst.cut {q : List (Channel × Urgency)} (h : UrgentFirst q) :
    (q.takeWhile fun x => x.2 == .urgent) = urgentPlaces q ∧ (q.dropWhile fun x => x.2 == .urgent) = normalPlaces q := by
  unfold urgentPlaces normalPlaces
  induction q with
  | nil => exact ⟨rfl, rfl⟩
  | cons x q ih =>
    obtain ⟨hx, hq⟩ := List.pairwise_cons.mp h
    obtain ⟨htake, hdrop⟩ := ih hq
    cases hu : x.2 with
    | urgent => simp [hu, htake, hdrop]
    | normal =>
      have hrest (y : Channel × Urgency) (hy : y ∈ q) : y.2 = .normal := by
        cases hv : y.2 with
        | normal => rfl
        | urgent => cases hu.symm.trans (hx y hy hv)
      have hnone : (q.filter fun y => y.2 == .urgent) = [] :=
        List.filter_eq_nil_iff.mpr fun y hy => by simp [hrest y hy]
      have hall : (q.filter fun y => y.2 == .normal) = q := List.filter_eq_self.mpr fun y hy => by simp [hrest y hy]
      simp [hu, hnone, hall]

theorem UrgentFirst.placeUrgent_eq {q : List (Channel × Urgency)} (h : UrgentFirst q) (c : Channel) :
    Machine.placeUrgent q c = urgentPlaces q ++ (c, .urgent) :: normalPlaces q := by
  unfold Machine.placeUrgent
  rw [h.cut.1, h.cut.2]

/-- An URGENT place behind another leaves the head. -/
theorem UrgentFirst.head_stays {q : List (Channel × Urgency)} (h : UrgentFirst q) (hu : urgentPlaces q ≠ [])
    (l : List (Channel × Urgency)) : (urgentPlaces q ++ l).head? = q.head? := by
  conv_rhs => rw [← List.takeWhile_append_dropWhile (p := fun x : Channel × Urgency => x.2 == .urgent) (l := q), h.cut.1]
  rw [List.head?_append_of_ne_nil _ hu, List.head?_append_of_ne_nil _ hu]

theorem State.admitIfNewHead_same {s : State} {x : Option (Channel × Urgency)} (h : s.queue.head? = x) :
    s.admitIfNewHead x = s := if_pos h

theorem State.join_stays {s : State} {c : Channel} (h : (s.joined c).queue.head? = s.queue.head?) : s.join c = s.joined c :=
  (s.join_eq c).trans (State.admitIfNewHead_same h)

/-- A joining channel with its stop mark clear stands at the tail (R58). -/
theorem State.join_normal {s : State} {c : Channel} (hne : s.queue ≠ []) (hstop : (s.chan c).stop = false) :
    s.join c = { s.setChan c { s.chan c with st := .waiting } with queue := s.queue ++ [(c, .normal)] } := by
  have hqueue : (s.joined c).queue = s.queue ++ [(c, .normal)] := if_neg (by simp [hstop])
  rw [State.join_stays (by rw [hqueue, List.head?_append_of_ne_nil _ hne]), ← hqueue]
  rfl

/-- A joining channel with its stop mark set stands behind the last URGENT place (R58). -/
theorem State.join_urgent {s : State} {c : Channel} (hq : UrgentFirst s.queue) (hne : urgentPlaces s.queue ≠ [])
    (hstop : (s.chan c).stop = true) : s.join c = { s.setChan c { s.chan c with st := .waiting } with
      queue := urgentPlaces s.queue ++ (c, .urgent) :: normalPlaces s.queue } := by
  have hqueue : (s.joined c).queue = urgentPlaces s.queue ++ (c, .urgent) :: normalPlaces s.queue :=
    (if_pos hstop).trans (hq.placeUrgent_eq c)
  rw [State.join_stays (by rw [hqueue, hq.head_stays hne]), ← hqueue]
  rfl

/-- A promoted channel stands behind the last URGENT place (R59). -/
theorem State.promote_normal {s : State} {c : Channel} (hq : s.QueueIsWaiting) (hc : (c, Urgency.normal) ∈ s.queue)
    (hne : urgentPlaces s.queue ≠ []) : s.promote c = { s with
      queue := urgentPlaces s.queue ++ (c, .urgent) :: (normalPlaces s.queue).filter fun x => x.1 != c } := by
  obtain ⟨hnodup, -, horder⟩ := hq
  have hurgent : urgentPlaces (s.queue.filter fun x => x.1 != c) = urgentPlaces s.queue := by
    unfold urgentPlaces
    rw [List.filter_comm]
    refine List.filter_eq_self.mpr fun x hx => bne_iff_ne.mpr fun he => ?_
    obtain ⟨hx, hu⟩ := List.mem_filter.mp hx
    rw [List.inj_on_of_nodup_map hnodup hx hc he] at hu
    cases hu
  have hnormal : normalPlaces (s.queue.filter fun x => x.1 != c) = (normalPlaces s.queue).filter fun x => x.1 != c :=
    List.filter_comm ..
  have hsub : UrgentFirst (s.queue.filter fun x => x.1 != c) := UrgentFirst.sublist horder List.filter_sublist
  have hqueue : (s.promoted c).queue = urgentPlaces s.queue ++ (c, .urgent) :: (normalPlaces s.queue).filter fun x => x.1 != c := by
    rw [← hurgent, ← hnormal]
    exact hsub.placeUrgent_eq c
  rw [State.promote_eq, if_pos hc, State.admitIfNewHead_same (by rw [hqueue, UrgentFirst.head_stays horder hne]), ← hqueue]
  rfl

end Sys2Proof.Machine

open Sys2Proof Sys2Proof.Machine

/-- Settles O9: the invariant by `State.placed_stage`, the places of joins and promotions one by one. -/
theorem queueAndWindowStayTrue : Obligations.QueueAndWindowStayTrue := by
  unfold Obligations.QueueAndWindowStayTrue
  refine ⟨fun s t ht hq hw => ?_, fun c s hq => ⟨fun _ hne hstop => State.join_normal hne hstop,
    fun _ hne hstop => State.join_urgent hq.2.2 hne hstop, fun hc hne => State.promote_normal hq hc hne, fun hc => ?_⟩⟩
  · exact (State.placed_stage s.StopsAreUrgent).step ht ⟨hq, hw, id⟩
  · rw [State.promote_eq, if_neg hc]

end

section
/-! SUPPORT. A drive period start, one channel (R47, R52 to R58, R62 to R64): what the start makes of a channel that has
taken its demand up. -/

namespace Sys2Proof.Machine
open Sys2Proof

/-! ### One channel's take-up, case by case -/

section
variable {s : State} {c : Channel}

theorem State.takeUp_run (hst : (s.chan c).st = .run) (hd : (s.chan c).demand ≠ 0) :
    s.takeUp c = s.setChan c (s.chan c).takeRun := by
  unfold State.takeUp
  simp only [hst, hd, if_false]

theorem State.takeUp_inrush (hst : (s.chan c).st = .inrush) (hd : (s.chan c).demand ≠ 0) :
    s.takeUp c = s.setChan c (s.chan c).takeInrush := by
  unfold State.takeUp
  simp only [hst, hd, if_false]

theorem State.takeUp_stop (hst : (s.chan c).st = .run ∨ (s.chan c).st = .inrush ∨ (s.chan c).st = .waiting)
    (hd : (s.chan c).demand = 0) : s.takeUp c = s.takeOff c := by
  unfold State.takeUp
  rcases hst with hst | hst | hst <;> simp only [hst, hd, if_true]

theorem State.takeUp_rests (hst : (s.chan c).st = .off) (hd : (s.chan c).demand = 0) : s.takeUp c = s := by
  unfold State.takeUp
  simp only [hst, hd, if_true]

theorem State.takeUp_gauge (hst : (s.chan c).st = .off) (hd : (s.chan c).demand ≠ 0) (hk : (s.chRec c).kind = .gauge) :
    s.takeUp c = s.setChan c (s.chan c).startRun := by
  unfold State.takeUp
  simp only [hst, hd, hk, if_false]

theorem State.takeUp_bypass
    (hst : (s.chan c).st = .off ∧ ((s.chRec c).kind = .lamp ∨ (s.chRec c).kind = .motor) ∨ (s.chan c).st = .waiting)
    (hd : (s.chan c).demand ≠ 0) (hsrc : (s.chan c).source = .flash) (hedge : (s.chan c).onEdge = true) :
    s.takeUp c = s.bypass c := by
  unfold State.takeUp
  rcases hst with ⟨hst, hk | hk⟩ | hst
  · simp only [hst, hd, hk, hsrc, hedge, and_self, if_true, if_false]
  · simp only [hst, hd, hk, hsrc, hedge, and_self, if_true, if_false]
  · simp only [hst, hd, hsrc, hedge, and_self, if_true, if_false]

theorem State.takeUp_dark (hst : (s.chan c).st = .off) (hk : (s.chRec c).kind ≠ .gauge) (hedge : (s.chan c).onEdge = false) :
    s.takeUp c = s := by
  unfold State.takeUp
  by_cases hd : (s.chan c).demand = 0
  · simp only [hst, hd, if_true]
  · cases hkind : (s.chRec c).kind with
    | gauge => exact absurd hkind hk
    | none => simp only [hst, hd, if_false]
    | lamp | motor => simp [hst, hd, hedge]

theorem State.takeUp_waits (hst : (s.chan c).st = .waiting) (hd : (s.chan c).demand ≠ 0)
    (he : (s.chan c).source = .steady ∨ (s.chan c).onEdge = false) : s.takeUp c = s := by
  have hno : ¬ ((s.chan c).source = .flash ∧ (s.chan c).onEdge = true) := by
    rcases he with he | he <;> simp [he]
  unfold State.takeUp
  simp only [hst, hd, hno, if_false]

theorem State.takeUp_cooling (hst : (s.chan c).st = .cooling) : s.takeUp c =
    s.setChan c { s.chan c with onEdge := false, coolOff := (s.chan c).coolOff.map (· - 1) } := by
  unfold State.takeUp
  simp only [hst]

theorem State.takeUp_latched (hst : (s.chan c).st = .latched) :
    s.takeUp c = s.setChan c { s.chan c with onEdge := false } := by
  unfold State.takeUp
  simp only [hst]

end

/-! ### What the take-ups of the other channels leave -/

/-- A channel has in `t` the record, the places and the gate that it has in `s`. -/
structure State.OwnAs (s t : State) (c : Channel) : Prop where
  cfg : t.cfg = s.cfg
  chan : t.chan c = s.chan c
  queued : c ∈ t.queued ↔ c ∈ s.queued
  windowed : c ∈ t.windowed ↔ c ∈ s.windowed
  gate : t.gates.out[c] = s.gates.out[c]

namespace State.OwnAs

variable {s t u : State} {c d : Channel}

theorem refl (s : State) (c : Channel) : s.OwnAs s c := ⟨rfl, rfl, .rfl, .rfl, rfl⟩

theorem trans (h : s.OwnAs t c) (k : t.OwnAs u c) : s.OwnAs u c :=
  ⟨k.cfg.trans h.cfg, k.chan.trans h.chan, k.queued.trans h.queued, k.windowed.trans h.windowed, k.gate.trans h.gate⟩

theorem setChan (hd : d ≠ c) (v : Chan) : s.OwnAs (s.setChan d v) c :=
  ⟨rfl, by rw [State.chan_setChan, if_neg hd], .rfl, .rfl, rfl⟩

theorem dequeue (hd : d ≠ c) : s.OwnAs (s.dequeue d) c :=
  ⟨rfl, rfl, State.mem_dequeue.trans (and_iff_left (Ne.symm hd)), .rfl, rfl⟩

theorem leaveWindow (hd : d ≠ c) : s.OwnAs (s.leaveWindow d) c :=
  ⟨rfl, rfl, .rfl, mem_filter_ne.trans (and_iff_left (Ne.symm hd)), rfl⟩

theorem joinWindow (hd : d ≠ c) : s.OwnAs (s.joinWindow d) c := by
  refine ⟨rfl, rfl, .rfl, ?_, rfl⟩
  simp [State.windowed, State.joinWindow, State.setWindow, Ne.symm hd]

theorem negateGate (hd : d ≠ c) : s.OwnAs (s.negateGate d) c :=
  ⟨rfl, rfl, .rfl, .rfl, by rw [State.negateGate_out, if_neg hd]⟩

theorem takeUp (hd : d ≠ c) : s.OwnAs (s.takeUp d) c := by
  refine State.takeUp_cases (Q := fun t => s.OwnAs t c) s d (fun _ => refl s c) (fun _ => setChan hd _) (fun _ => ?_)
    (fun _ => ?_) (fun _ => setChan hd _) (fun _ => setChan hd _) (fun _ _ => setChan hd _)
  · have ht (v : Chan) : s.OwnAs ((s.dequeue d).setChan d v) c := (dequeue hd).trans (setChan hd v)
    unfold State.bypass
    dsimp only
    split
    · exact ht _
    · exact (ht _).trans (joinWindow hd)
  · exact (((setChan hd _).trans (dequeue hd)).trans (leaveWindow hd)).trans (negateGate hd)

theorem takeUps {l : List Channel} (hc : c ∉ l) (s : State) : s.OwnAs (l.foldl State.takeUp s) c :=
  List.foldlRecOn (motive := fun t : State => s.OwnAs t c) l State.takeUp (refl s c)
    fun _ ht _ hd => ht.trans (takeUp (ne_of_mem_of_not_mem hd hc))

/-- At its own take-up a channel is as it was, and it stays so through the others'. -/
theorem of_takeUps (s : State) (c : Channel) :
    ∃ t, s.OwnAs t c ∧ (t.takeUp c).OwnAs (allChannels.foldl State.takeUp s) c := by
  obtain ⟨l, r, hlr⟩ : ∃ l r, allChannels = l ++ c :: r := List.append_of_mem (List.mem_finRange c)
  have hnodup : (l ++ c :: r).Nodup := hlr ▸ List.nodup_finRange 16
  obtain ⟨-, hr, hdisjoint⟩ := List.nodup_append.mp hnodup
  have hl : c ∉ l := fun hm => hdisjoint c hm c List.mem_cons_self rfl
  refine ⟨l.foldl State.takeUp s, takeUps hl s, ?_⟩
  rw [hlr, List.foldl_append, List.foldl_cons]
  exact takeUps (List.nodup_cons.mp hr).1 _

end State.OwnAs

/-! ### What the admission test and the joins of the other channels make of a channel -/

/-- A channel outside the queue stands; one with a place keeps it or is admitted (R57, R63). -/
inductive State.Fate (s t : State) (c : Channel) : Prop
  | outside (hs : c ∉ s.queued) (ht : c ∉ t.queued) (chan : t.chan c = s.chan c)
      (windowed : c ∈ t.windowed ↔ c ∈ s.windowed) (fan : s.fanChannel = some c → t.fan = s.fan)
  | waits (hs : c ∈ s.queued) (ht : c ∈ t.queued) (chan : t.chan c = s.chan c)
  | admitted (hs : c ∈ s.queued) (ht : c ∉ t.queued) (st : (t.chan c).st = s.admittedSt c)
      (drive : (t.chan c).drive = (s.chan c).drive)

namespace State.Fate

variable {s t u : State} {c d : Channel}

theorem refl (s : State) (c : Channel) : s.Fate s c := by
  by_cases h : c ∈ s.queued
  · exact .waits h h rfl
  · exact .outside h h rfl .rfl fun _ => rfl

theorem trans (hcfg : t.cfg = s.cfg) (h : s.Fate t c) (k : t.Fate u c) : s.Fate u c := by
  cases h with
  | outside hs ht chan windowed fan =>
    cases k with
    | outside _ hu chan' windowed' fan' =>
      exact .outside hs hu (chan'.trans chan) (windowed'.trans windowed) fun hf =>
        (fan' ((State.fanChannel_congr hcfg).trans hf)).trans (fan hf)
    | waits ht' => exact absurd ht' ht
    | admitted ht' => exact absurd ht' ht
  | waits hs ht chan =>
    cases k with
    | outside ht' => exact absurd ht ht'
    | waits _ hu chan' => exact .waits hs hu (chan'.trans chan)
    | admitted _ hu st drive =>
      exact .admitted hs hu (st.trans (State.Admits.admittedSt_congr hcfg c)) (drive.trans (by rw [chan]))
  | admitted hs ht st drive =>
    cases k with
    | outside _ hu chan' => exact .admitted hs hu (by rw [chan', st]) (by rw [chan', drive])
    | waits ht' => exact absurd ht' ht
    | admitted ht' => exact absurd ht' ht

theorem of_admits (h : s.Admits t) (c : Channel) : s.Fate t c := by
  by_cases hs : c ∈ s.queued
  · by_cases ht : c ∈ t.queued
    · exact .waits hs ht (h.stays c fun _ => ht)
    · obtain ⟨hst, hdrive⟩ := h.moves c hs ht
      exact .admitted hs ht hst hdrive
  · obtain ⟨hchan, ht⟩ := h.outside hs
    refine .outside hs ht hchan ?_ fun hf => h.fan fun d hd hmem => ?_
    · rw [h.windowed]
      exact or_iff_left fun hx => hs hx.1
    · rw [hf] at hd
      cases hd
      exact absurd hmem hs

end State.Fate

/-! ### Joins -/

theorem State.mem_joined {s : State} {c d : Channel} : d ∈ (s.joined c).queued ↔ d = c ∨ d ∈ s.queued := by
  refine ((s.joined_perm c).map Prod.fst).mem_iff.trans ?_
  rw [List.map_cons, List.mem_cons]
  rfl

theorem State.join_admits (s : State) (c : Channel) : (s.joined c).Admits (s.join c) := by
  rw [State.join_eq]
  exact .admitIfNewHead _ _

theorem State.join_cfg (s : State) (c : Channel) : (s.join c).cfg = s.cfg := (s.join_admits c).cfg

theorem State.join_gates (s : State) (c : Channel) : (s.join c).gates = s.gates := (s.join_admits c).gates

/-- The join of another channel. -/
theorem State.Fate.join {s : State} {c d : Channel} (hd : d ≠ c) : s.Fate (s.join d) c := by
  have hchan : (s.joined d).chan c = s.chan c := by rw [State.joined_chan, if_neg hd]
  have hmem : c ∈ (s.joined d).queued ↔ c ∈ s.queued := State.mem_joined.trans (or_iff_right (Ne.symm hd))
  have hfirst : s.Fate (s.joined d) c := by
    by_cases hs : c ∈ s.queued
    · exact .waits hs (hmem.mpr hs) hchan
    · exact .outside hs (mt hmem.mp hs) hchan .rfl fun _ => rfl
  exact State.Fate.trans (t := s.joined d) rfl hfirst (.of_admits (s.join_admits d) c)

theorem State.Fate.joins {c : Channel} : ∀ {l : List Channel}, c ∉ l → ∀ s : State, s.Fate (l.foldl State.join s) c
  | [], _, s => .refl s c
  | d :: l, hc, s => by
    obtain ⟨hd, hl⟩ := not_or.mp (mt List.mem_cons.mpr hc)
    exact (State.Fate.join (Ne.symm hd)).trans (s.join_cfg d) (State.Fate.joins hl _)

/-- A joining channel, outside the queue before, is WAITING with a place as it joins. -/
theorem State.Fate.joiner {c : Channel} {l : List Channel} (hl : l.Nodup) (hc : c ∈ l) (s : State) :
    ∃ t : State, (t.chan c).st = .waiting ∧ c ∈ t.queued ∧ t.Fate (l.foldl State.join s) c := by
  obtain ⟨a, b, rfl⟩ := List.append_of_mem hc
  obtain ⟨-, hb, -⟩ := List.nodup_append.mp hl
  refine ⟨(a.foldl State.join s).joined c, ?_, State.mem_joined.mpr (.inl rfl), ?_⟩
  · rw [State.joined_chan, if_pos rfl]
  · rw [List.foldl_append, List.foldl_cons]
    exact (State.Fate.of_admits (State.join_admits _ c) c).trans (State.join_admits _ c).cfg
      (State.Fate.joins (List.nodup_cons.mp hb).1 _)

/-! ### The fan's ramp step -/

theorem State.setFan_fanWrite {s : State} {c : Channel} (hc : s.fanChannel = some c) (v : Fan) (n : Nat) :
    (s.setFan v).fanWrite n = (s.setFan v).writeDemand c n .steady := by
  unfold State.fanWrite
  rw [show (s.setFan v).fanChannel = some c from hc]

/-- The record `b` is the record `a`, or, in RUN, `a` with a demand that the fan unit has written (R163). -/
def Chan.Ramps (a b : Chan) : Prop :=
  b = a ∨ a.st = .run ∧ ∃ n, b = { a with demand := n, source := .steady, onEdge := false }

theorem Chan.Ramps.same {a b : Chan} (h : a.Ramps b) : ∃ n src e,
    b = { a with demand := n, source := src, onEdge := e } ∧ (e = a.onEdge ∨ e = false) := by
  rcases h with rfl | ⟨-, n, rfl⟩
  · exact ⟨_, _, _, rfl, .inl rfl⟩
  · exact ⟨_, _, _, rfl, .inr rfl⟩

theorem Chan.Ramps.eq {a b : Chan} (h : a.Ramps b) (ha : a.st ≠ .run) : b = a := Or.resolve_right h fun hx => ha hx.1

/-- The ramp step writes the demand of the fan channel, in RUN, and nothing of another (R163). -/
theorem State.fanRampStep_chan (s : State) (c : Channel) : (s.chan c).Ramps (s.fanRampStep.chan c) := by
  unfold State.fanRampStep
  cases hf : s.fanChannel with
  | none => exact .inl rfl
  | some d =>
    dsimp only
    split
    · rename_i hd
      split
      · exact .inl rfl
      · rw [State.setFan_fanWrite hf, State.writeDemand_chan]
        split
        · rename_i he
          subst he
          exact .inr ⟨hd.2, _, by simp only [reduceCtorEq, and_false, if_false]; rfl⟩
        · exact .inl rfl
    · exact .inl rfl

/-! ### The whole start -/

/-- What a start makes of a channel after its own take-up. -/
inductive State.Settles (s t : State) (c : Channel) : Prop
  | stands (hs : c ∉ s.queued) (ht : c ∉ t.queued) (chan : (s.chan c).Ramps (t.chan c))
      (windowed : c ∈ t.windowed ↔ c ∈ s.windowed) (gate : t.gates.out[c] = s.gates.out[c])
  | waits (hs : c ∈ s.queued) (ht : c ∈ t.queued) (chan : t.chan c = s.chan c)
  | admitted (hs : c ∈ s.queued) (ht : c ∉ t.queued) (st : (t.chan c).st = s.admittedSt c)
      (drive : (t.chan c).drive = (s.chan c).drive)

theorem State.takenUp_cfg (s : State) : s.takenUp.cfg = s.cfg :=
  (State.FanWrites.fanRampStep (allChannels.foldl State.takeUp s)).cfg.trans (s.takeUps_cfg _)

theorem State.takeUpAll_gates (s : State) : s.takeUpAll.gates = s.takenUp.gates := by
  rw [State.takeUpAll_eq, foldl_keep (·.gates) _ State.join_gates]
  exact (s.tested_admits s.takenUp).gates

/-- A channel that does not join. -/
theorem State.takenUp_fate {s : State} {c : Channel} (hc : c ∉ s.joiners) : s.takenUp.Fate s.takeUpAll c := by
  rw [State.takeUpAll_eq]
  exact (State.Fate.of_admits (s.tested_admits s.takenUp) c).trans (s.tested_admits s.takenUp).cfg (.joins hc _)

/-- A channel with a place after its take-up is not in RUN. -/
theorem State.takeUp_queued {s : State} {c : Channel} (hq : c ∈ s.queued → (s.chan c).st = .waiting) :
    c ∈ (s.takeUp c).queued → ((s.takeUp c).chan c).st ≠ .run := by
  have hno {st : ChState} (hst : (s.chan c).st = st) (hw : st ≠ .waiting) (hm : c ∈ s.queued) : False :=
    hw (hst.symm.trans (hq hm))
  have hout : c ∉ (s.dequeue c).queued := fun hm => (State.mem_dequeue.mp hm).2 rfl
  refine State.takeUp_cases (Q := fun t => c ∈ t.queued → (t.chan c).st ≠ .run) s c (fun _ hm => ?_)
    (fun hst hm => (hno hst (by decide) hm).elim) (fun _ hm => ?_) (fun _ hm => (hout hm).elim)
    (fun hst hm => (hno hst (by decide) hm).elim) (fun hst hm => (hno hst (by decide) hm).elim) (fun ht _ hm => ?_)
  · rw [hq hm]
    decide
  · refine (hout ?_).elim
    unfold State.bypass at hm
    dsimp only at hm
    split at hm <;> exact hm
  · rcases ht with ht | ht <;> exact (hno ht (by decide) hm).elim

theorem State.takeUpAll_settles {s : State} {c : Channel} (hq : s.QueueIsWaiting) (hc : c ∉ s.joiners) :
    ∃ t, s.OwnAs t c ∧ (t.takeUp c).Settles s.takeUpAll c := by
  obtain ⟨t, hst, ht⟩ := State.OwnAs.of_takeUps s c
  have hrun := State.takeUp_queued (s := t) (c := c) fun hm => by
    rw [hst.chan]
    exact (hq.2.1 c).mp (hst.queued.mp hm)
  refine ⟨t, hst, ?_⟩
  have hw := State.FanWrites.fanRampStep (allChannels.foldl State.takeUp s)
  have hplace : c ∈ s.takenUp.queued ↔ c ∈ (t.takeUp c).queued := by
    rw [← ht.queued]
    exact iff_of_eq (congrArg (c ∈ ·) hw.queued)
  have hwindow : c ∈ s.takenUp.windowed ↔ c ∈ (t.takeUp c).windowed := by
    rw [← ht.windowed]
    unfold State.windowed State.takenUp
    rw [hw.window]
  have hchan := State.fanRampStep_chan (allChannels.foldl State.takeUp s) c
  rw [ht.chan] at hchan
  cases State.takenUp_fate hc with
  | outside h1 h2 h3 h4 =>
    refine .stands (mt hplace.mpr h1) h2 (by rw [h3]; exact hchan) (h4.trans hwindow) ?_
    rw [State.takeUpAll_gates, ← ht.gate]
    unfold State.takenUp
    rw [hw.gates]
  | waits h1 h2 h3 =>
    have h1' := hplace.mp h1
    exact .waits h1' h2 (h3.trans (hchan.eq (hrun h1')))
  | admitted h1 h2 h3 h4 =>
    have h1' := hplace.mp h1
    refine .admitted h1' h2 (h3.trans (State.Admits.admittedSt_congr ?_ c)) (h4.trans ?_)
    · exact hw.cfg.trans ht.cfg
    · exact congrArg Chan.drive (hchan.eq (hrun h1'))

end Sys2Proof.Machine
end

section
/-! SUPPORT. A drive period start, the queue and the fan (R57, R58, R61, R62, R163): the order of the places, the head that
the start leaves, and the ramp step. -/

namespace Sys2Proof.Machine
open Sys2Proof

/-! ### The order of the places -/

/-- Two places of one class, the first ahead of the second: places of the queue `q` keep their order, a new place stands
behind them, and new places stand in channel order (R57, R58). -/
def KeepsOrder (q : List (Channel × Urgency)) (x y : Channel × Urgency) : Prop :=
  x.2 = y.2 → (x ∈ q → y ∈ q → [x, y].Sublist q) ∧ (x ∉ q → y ∉ q ∧ x.1 < y.1)

theorem keepsOrder_self (q : List (Channel × Urgency)) : q.Pairwise (KeepsOrder q) := by
  refine List.pairwise_iff_forall_sublist.mpr fun {x y} hxy _ => ⟨fun _ _ => hxy, fun hx => ?_⟩
  exact absurd (hxy.subset List.mem_cons_self) hx

theorem List.pairwise_insert {α : Type} {R : α → α → Prop} {a b : List α} {p : α} (h : (a ++ b).Pairwise R)
    (ha : ∀ x ∈ a, R x p) (hb : ∀ y ∈ b, R p y) : (a ++ p :: b).Pairwise R := by
  obtain ⟨hpa, hpb, hab⟩ := List.pairwise_append.mp h
  refine List.pairwise_append.mpr ⟨hpa, List.pairwise_cons.mpr ⟨hb, hpb⟩, fun x hx y hy => ?_⟩
  rcases List.mem_cons.mp hy with rfl | hy
  · exact ha x hx
  · exact hab x hx y hy

/-- A new place stands behind the places of its class. -/
theorem State.joined_order {t : State} {c : Channel} {R : Channel × Urgency → Channel × Urgency → Prop}
    (ht : UrgentFirst t.queue) (h : t.queue.Pairwise R)
    (hother : ∀ x y : Channel × Urgency, x.2 ≠ y.2 → R x y)
    (hbehind : ∀ x ∈ t.queue, ∀ u, x.2 = u → R x (c, u)) : (t.joined c).queue.Pairwise R := by
  have hlast (u : Urgency) (x : Channel × Urgency) (hx : x ∈ t.queue) : R x (c, u) := by
    by_cases hu : x.2 = u
    · exact hbehind x hx u hu
    · exact hother _ _ hu
  change (if (t.chan c).stop then placeUrgent t.queue c else t.queue ++ [(c, .normal)]).Pairwise R
  split
  · refine List.pairwise_insert (by rwa [List.takeWhile_append_dropWhile])
      (fun x hx => hlast _ x ((List.takeWhile_sublist _).subset hx)) fun y hy => hother _ _ ?_
    rw [ht.cut.2] at hy
    have hnormal : y.2 = .normal := by simpa using (List.mem_filter.mp hy).2
    exact hnormal ▸ nofun
  · exact List.pairwise_insert (by rwa [List.append_nil]) (fun x hx => hlast _ x hx) nofun

/-! ### The joins of a start -/

theorem State.HeadFails.congr {s t : State} (h : s.HeadFails) (hq : t.queue.head? = s.queue.head?)
    (hw : t.window = s.window) (hc : t.cfg = s.cfg) : t.HeadFails := by
  intro d hd
  unfold State.queued at hd
  rw [List.head?_map, hq, ← List.head?_map] at hd
  have := h d hd
  rwa [hw, hc, State.chRec_congr hc, State.windowSum, hw]

/-- `t` is `s` in the course of a start, the channels of `l` being still to join. -/
structure State.Joining (s : State) (l : List Channel) (t : State) : Prop where
  ready : ∀ c ∈ l, t.chan c = s.chan c ∧ c ∉ t.queued
  places : ∀ x ∈ t.queue, x ∈ s.queue ∨ (∀ c ∈ l, x.1 < c) ∧
    (s.chan x.1).st = .off ∧ x.2 = if (s.chan x.1).stop = true then .urgent else .normal
  order : UrgentFirst t.queue
  ranks : t.queue.Pairwise (KeepsOrder s.queue)
  head : t.HeadFails ∨ t.queue.head? = s.queue.head? ∧ ∀ w ∈ s.window, t.inWindow w.1 = true

namespace State.Joining

variable {s t : State} {c : Channel} {l : List Channel}

theorem join (h : s.Joining (c :: l) t) (hl : (c :: l).Pairwise (· < ·)) (hoff : (s.chan c).st = .off)
    (hc : c ∉ s.queued) : s.Joining l (t.join c) := by
  obtain ⟨hchan, -⟩ := h.ready c List.mem_cons_self
  obtain ⟨hlt, -⟩ := List.pairwise_cons.mp hl
  have hsub := (t.join_admits c).queue
  have hnew (u : Urgency) : (c, u) ∉ s.queue := fun hm => hc (List.mem_map_of_mem (f := Prod.fst) hm)
  refine ⟨fun d hd => ?_, fun x hx => ?_, ?_, ?_, ?_⟩
  · obtain ⟨hd1, hd2⟩ := h.ready d (List.mem_cons_of_mem _ hd)
    cases State.Fate.join (s := t) (c := d) (d := c) (hlt d hd).ne with
    | outside _ ht hsame => exact ⟨hsame.trans hd1, ht⟩
    | waits hs => exact absurd hs hd2
    | admitted hs => exact absurd hs hd2
  · rcases List.mem_cons.mp ((t.joined_perm c).mem_iff.mp (hsub.subset hx)) with rfl | hx
    · exact .inr ⟨hlt, hoff, by rw [hchan]⟩
    · exact (h.places x hx).imp_right fun ⟨h1, h2⟩ => ⟨fun d hd => h1 d (List.mem_cons_of_mem _ hd), h2⟩
  · exact (UrgentFirst.joined h.order c).sublist hsub
  · refine (State.joined_order h.order h.ranks (fun x y hne heq => absurd heq hne) fun x hx u hu _ => ?_).sublist hsub
    refine ⟨fun _ hm => absurd hm (hnew u), fun hout => ⟨hnew u, ?_⟩⟩
    exact ((h.places x hx).resolve_left hout).1 c List.mem_cons_self
  · rw [State.join_eq]
    unfold State.admitIfNewHead
    split
    · rename_i hhead
      exact h.head.imp (fun hf => hf.congr hhead rfl rfl) fun hs => ⟨hhead.trans hs.1, hs.2⟩
    · exact .inl (State.admitHeads_headFails _)

theorem joins : ∀ {l : List Channel} {t : State}, s.Joining l t → l.Pairwise (· < ·) →
    (∀ c ∈ l, (s.chan c).st = .off ∧ c ∉ s.queued) → s.Joining [] (l.foldl State.join t)
  | [], _, h, _, _ => h
  | c :: l, t, h, hl, hc => by
    obtain ⟨hoff, hout⟩ := hc c List.mem_cons_self
    exact joins (l := l) (h.join hl hoff hout) (List.pairwise_cons.mp hl).2 fun d hd =>
      hc d (List.mem_cons_of_mem _ hd)

end State.Joining

/-! ### The take-ups before the joins -/

theorem State.takeUp_queue (s : State) (c : Channel) : (s.takeUp c).queue.Sublist s.queue := by
  refine State.takeUp_cases (Q := fun t => t.queue.Sublist s.queue) s c (fun _ => .refl _) (fun _ => .refl _) (fun _ => ?_)
    (fun _ => List.filter_sublist) (fun _ => .refl _) (fun _ => .refl _) (fun _ _ => .refl _)
  unfold State.bypass
  dsimp only
  split <;> exact List.filter_sublist

theorem State.takenUp_queue (s : State) : s.takenUp.queue.Sublist s.queue := by
  unfold State.takenUp
  rw [(State.FanWrites.fanRampStep _).queue]
  exact List.foldlRecOn (motive := fun t : State => t.queue.Sublist s.queue) _ State.takeUp (.refl _)
    fun t ht c _ => (t.takeUp_queue c).trans ht

theorem State.takenUp_queued {s : State} {c : Channel} (h : c ∈ s.takenUp.queued) : c ∈ s.queued :=
  (s.takenUp_queue.map Prod.fst).subset h

theorem State.joins_iff {s : State} {c : Channel} : c ∈ s.joiners ↔ (s.chan c).st = .off ∧ (s.chan c).demand ≠ 0 ∧
    (s.chan c).source = .steady ∧ ((s.chRec c).kind = .lamp ∨ (s.chRec c).kind = .motor) := by
  have hmem : c ∈ allChannels := List.mem_finRange c
  simp [State.joiners, State.joins, hmem, and_assoc]

theorem State.takenUp_joiner_chan {s : State} {c : Channel} (h : c ∈ s.joiners) : s.takenUp.chan c = s.chan c := by
  have hc : (allChannels.foldl State.takeUp s).chan c = s.chan c :=
    State.takeUps_joins (rd := fun t => t.chan c) (fun t d hd => t.takeUp_other (Ne.symm hd)) (List.mem_filter.mp h).2 _
  refine ((State.fanRampStep_chan _ c).eq ?_).trans hc
  rw [hc, (State.joins_iff.mp h).1]
  decide

theorem State.tested_joining {s : State} (hq : s.QueueIsWaiting) : s.Joining s.joiners (s.tested s.takenUp) := by
  have hadmits := s.tested_admits s.takenUp
  have hsub := hadmits.queue.trans s.takenUp_queue
  refine ⟨fun c hc => ?_, fun x hx => .inl (hsub.subset hx), UrgentFirst.sublist hq.2.2 hsub,
    (keepsOrder_self s.queue).sublist hsub, ?_⟩
  · have hout : c ∉ s.takenUp.queued :=
      mt State.takenUp_queued (State.unqueued_of_off hq (State.joins_iff.mp hc).1)
    obtain ⟨hchan, hout⟩ := hadmits.outside hout
    exact ⟨hchan.trans (State.takenUp_joiner_chan hc), hout⟩
  · unfold State.tested
    split
    · rename_i hsame
      exact .inr ⟨hsame.1, List.all_eq_true.mp hsame.2⟩
    · exact .inl (State.admitHeads_headFails _)

/-- The queue that a start leaves. -/
theorem State.takeUpAll_joining {s : State} (hq : s.QueueIsWaiting) : s.Joining [] s.takeUpAll := by
  have hsorted : allChannels.Pairwise (· < ·) := by decide
  rw [State.takeUpAll_eq]
  refine (State.tested_joining hq).joins (hsorted.filter _) fun c hc => ?_
  have hoff := (State.joins_iff.mp hc).1
  exact ⟨hoff, State.unqueued_of_off hq hoff⟩

/-! ### The ramp step of a start -/

theorem State.takeUps_fan (s : State) (l : List Channel) : (l.foldl State.takeUp s).fan = s.fan :=
  foldl_keep (·.fan) _ (fun t c => by simp) _ s

/-- The fan and its channel, in RUN, after the start are those of the ramp step on what the channel took up (R163). -/
theorem State.takeUpAll_ramped {s : State} {c : Channel} (hq : s.QueueIsWaiting) (hc : s.fanChannel = some c)
    (hst : (s.chan c).st = .run) : ∃ t : State, t.fan = s.fan ∧ t.cfg = s.cfg ∧
      ((s.chan c).demand ≠ 0 → t.chan c = (s.chan c).takeRun) ∧
      s.takeUpAll.fan = t.fanRampStep.fan ∧ s.takeUpAll.chan c = t.fanRampStep.chan c := by
  have hjoin : c ∉ s.joiners := fun hm => by cases hst.symm.trans (State.joins_iff.mp hm).1
  obtain ⟨t, hown, ht⟩ := State.OwnAs.of_takeUps s c
  have hfan := s.takeUps_fan allChannels
  have hcfg := s.takeUps_cfg allChannels
  have hramp : s.takenUp = (allChannels.foldl State.takeUp s).fanRampStep := rfl
  generalize allChannels.foldl State.takeUp s = w at ht hfan hcfg hramp
  have htake (hd : (s.chan c).demand ≠ 0) : w.chan c = (s.chan c).takeRun := by
    rw [← hown.chan] at hst hd ⊢
    rw [ht.chan, State.takeUp_run hst hd, State.chan_setChan, if_pos rfl]
  have hout : c ∉ s.takenUp.queued := mt State.takenUp_queued fun hm => by
    have hwaits : (s.chan c).st = .waiting := (hq.2.1 c).mp hm
    rw [hst] at hwaits
    cases hwaits
  refine ⟨w, hfan, hcfg, htake, ?_⟩
  rw [← hramp]
  cases State.takenUp_fate hjoin with
  | outside _ _ hchan _ hsame =>
    exact ⟨hsame ((State.fanChannel_congr s.takenUp_cfg).trans hc), hchan⟩
  | waits hs => exact absurd hs hout
  | admitted hs => exact absurd hs hout

theorem State.fanRampStep_rests {s : State} (h : s.fan.st ≠ .ramp) : s.fanRampStep = s := by
  unfold State.fanRampStep
  split
  · rfl
  · exact if_neg fun hx => h hx.1

theorem State.fanRampStep_arrives {s : State} {c : Channel} (hc : s.fanChannel = some c) (hf : s.fan.st = .ramp)
    (hst : (s.chan c).st = .run) (hd : (s.chan c).applied = s.fan.target) :
    s.fanRampStep.fan = { s.fan with st := .running, ramp := s.fan.target } := by
  unfold State.fanRampStep
  rw [hc]
  dsimp only
  rw [if_pos ⟨hf, hst⟩, if_pos hd]
  rfl

theorem State.fanRampStep_moves {s : State} {c : Channel} (hc : s.fanChannel = some c) (hf : s.fan.st = .ramp)
    (hst : (s.chan c).st = .run) (hd : (s.chan c).applied ≠ s.fan.target) :
    let d := moveToward (s.chan c).applied s.fan.target s.cfg.fan.rampRate
    s.fanRampStep.fan = { s.fan with ramp := d } ∧ (s.fanRampStep.chan c).demand = d ∧
      (s.fanRampStep.chan c).source = .steady := by
  intro d
  have hstep : s.fanRampStep = (s.setFan { s.fan with ramp := d }).writeDemand c d .steady := by
    unfold State.fanRampStep
    rw [hc]
    dsimp only
    rw [if_pos ⟨hf, hst⟩, if_neg hd, State.setFan_fanWrite hc]
  rw [hstep]
  simp

end Sys2Proof.Machine
end

section
/-! SUPPORT. A drive period start, clause by clause (R52 to R56, R64, R77): what it makes of a channel by the channel's
state, and the start as the sequencer's other actions leave it. -/

namespace Sys2Proof.Machine
open Sys2Proof

/-! ### A channel whose take-up writes its record -/

theorem State.setChan_chan (s : State) (c : Channel) : s.setChan c (s.chan c) = s := by
  unfold State.setChan State.chan
  simp

theorem State.not_joiner {s : State} {c : Channel} (h : (s.chan c).st ≠ .off) : c ∉ s.joiners :=
  fun hc => h (State.joins_iff.mp hc).1

theorem State.unqueued_of {s : State} {c : Channel} (hq : s.QueueIsWaiting) (h : (s.chan c).st ≠ .waiting) :
    c ∉ s.queued :=
  mt (hq.2.1 c).mp h

section
variable {s : State} {c : Channel} (hq : s.QueueIsWaiting)
include hq

/-- A channel outside the queue whose take-up only writes its record. -/
theorem State.takeUpAll_writes {v : Chan} (hst : (s.chan c).st ≠ .waiting) (hc : c ∉ s.joiners)
    (htake : ∀ t : State, t.cfg = s.cfg → t.chan c = s.chan c → t.takeUp c = t.setChan c v) :
    v.Ramps (s.takeUpAll.chan c) := by
  obtain ⟨t, ht, hsettles⟩ := State.takeUpAll_settles hq hc
  rw [htake t ht.cfg ht.chan] at hsettles
  have hout : c ∉ (t.setChan c v).queued := mt ht.queued.mp (State.unqueued_of hq hst)
  cases hsettles with
  | stands _ _ chan => rwa [State.chan_setChan, if_pos rfl] at chan
  | waits hs => exact absurd hs hout
  | admitted hs => exact absurd hs hout

theorem State.takeUpAll_run (hst : (s.chan c).st = .run) (hd : (s.chan c).demand ≠ 0) :
    (s.chan c).takeRun.Ramps (s.takeUpAll.chan c) := by
  refine State.takeUpAll_writes hq (by simp [hst]) (State.not_joiner (by simp [hst])) fun t _ ht => ?_
  rw [← ht] at hst hd ⊢
  exact State.takeUp_run hst hd

theorem State.takeUpAll_inrush (hst : (s.chan c).st = .inrush) (hd : (s.chan c).demand ≠ 0) :
    s.takeUpAll.chan c = (s.chan c).takeInrush := by
  refine Chan.Ramps.eq (State.takeUpAll_writes hq (by simp [hst]) (State.not_joiner (by simp [hst])) fun t _ ht => ?_) ?_
  · rw [← ht] at hst hd ⊢
    exact State.takeUp_inrush hst hd
  · exact fun hrun => nomatch hst.symm.trans hrun

theorem State.takeUpAll_gauge (hst : (s.chan c).st = .off) (hd : (s.chan c).demand ≠ 0) (hk : (s.chRec c).kind = .gauge) :
    (s.chan c).startRun.Ramps (s.takeUpAll.chan c) := by
  have hc : c ∉ s.joiners := fun hm => by
    obtain ⟨-, -, -, hkind⟩ := State.joins_iff.mp hm
    simp [hk] at hkind
  refine State.takeUpAll_writes hq (by simp [hst]) hc fun t hcfg ht => ?_
  rw [← ht] at hst hd ⊢
  rw [← State.chRec_congr hcfg] at hk
  exact State.takeUp_gauge hst hd hk

theorem State.takeUpAll_cooling (hst : (s.chan c).st = .cooling) : s.takeUpAll.chan c =
    { s.chan c with onEdge := false, coolOff := (s.chan c).coolOff.map (· - 1) } := by
  refine Chan.Ramps.eq (State.takeUpAll_writes hq (by simp [hst]) (State.not_joiner (by simp [hst])) fun t _ ht => ?_) ?_
  · rw [← ht] at hst ⊢
    exact State.takeUp_cooling hst
  · exact fun hrun => nomatch hst.symm.trans hrun

theorem State.takeUpAll_latched (hst : (s.chan c).st = .latched) :
    s.takeUpAll.chan c = { s.chan c with onEdge := false } := by
  refine Chan.Ramps.eq (State.takeUpAll_writes hq (by simp [hst]) (State.not_joiner (by simp [hst])) fun t _ ht => ?_) ?_
  · rw [← ht] at hst ⊢
    exact State.takeUp_latched hst
  · exact fun hrun => nomatch hst.symm.trans hrun

/-- A channel in OFF with nothing to drive (R53). -/
theorem State.takeUpAll_rests (hst : (s.chan c).st = .off) (hd : (s.chan c).demand = 0 ∨
    (s.chRec c).kind ≠ .gauge ∧ (s.chan c).source = .flash ∧ (s.chan c).onEdge = false) :
    s.takeUpAll.chan c = s.chan c := by
  have hc : c ∉ s.joiners := fun hm => by
    obtain ⟨-, hdemand, hsource, -⟩ := State.joins_iff.mp hm
    simp [hdemand, hsource] at hd
  refine Chan.Ramps.eq (State.takeUpAll_writes hq (by simp [hst]) hc fun t hcfg ht => ?_) (by simp [hst])
  rw [← ht, State.setChan_chan]
  rw [← ht] at hst hd
  rw [← State.chRec_congr hcfg] at hd
  rcases hd with hd | ⟨hk, -, hedge⟩
  · exact State.takeUp_rests hst hd
  · exact State.takeUp_dark hst hk hedge

/-! ### A channel that leaves the queue, waits on, or joins -/

/-- A channel goes to OFF (R54, R55). -/
theorem State.takeUpAll_stop (hst : (s.chan c).st = .run ∨ (s.chan c).st = .inrush ∨ (s.chan c).st = .waiting)
    (hd : (s.chan c).demand = 0) : s.takeUpAll.chan c = { (s.chan c).stopped .off with onEdge := false } ∧
      s.takeUpAll.gates.out[c] = false ∧ c ∉ s.takeUpAll.queued ∧ c ∉ s.takeUpAll.windowed := by
  have hc : c ∉ s.joiners := fun hm => by simp [(State.joins_iff.mp hm).1] at hst
  obtain ⟨t, ht, hsettles⟩ := State.takeUpAll_settles hq hc
  rw [← ht.chan] at hst hd ⊢
  rw [State.takeUp_stop hst hd] at hsettles
  have hchan : (t.takeOff c).chan c = { (t.chan c).stopped .off with onEdge := false } := by
    rw [State.takeOff_chan, if_pos rfl]
  have hout : c ∉ (t.takeOff c).queued := fun hm => (State.mem_dequeue.mp hm).2 rfl
  have hleft : c ∉ (t.takeOff c).windowed := fun hm => (mem_filter_ne.mp hm).2 rfl
  have hgate : (t.takeOff c).gates.out[c] = false := by
    unfold State.takeOff
    rw [State.negateGate_out, if_pos rfl]
  cases hsettles with
  | stands _ hunqueued chan windowed gate =>
    rw [hchan] at chan
    exact ⟨chan.eq nofun, gate.trans hgate, hunqueued, mt windowed.mp hleft⟩
  | waits hs => exact absurd hs hout
  | admitted hs => exact absurd hs hout

/-- The bypass at an on edge (R64). -/
theorem State.takeUpAll_bypass
    (hst : (s.chan c).st = .off ∧ ((s.chRec c).kind = .lamp ∨ (s.chRec c).kind = .motor) ∨ (s.chan c).st = .waiting)
    (hd : (s.chan c).demand ≠ 0) (hsrc : (s.chan c).source = .flash) (hedge : (s.chan c).onEdge = true) :
    (s.takeUpAll.chan c).st = s.admittedSt c ∧ (s.takeUpAll.chan c).applied = 250 ∧ c ∉ s.takeUpAll.queued ∧
      (c ∈ s.takeUpAll.windowed ↔ s.inrushTime c ≠ 0 ∨ c ∈ s.windowed) := by
  have hc : c ∉ s.joiners := fun hm => by
    obtain ⟨-, -, hsteady, -⟩ := State.joins_iff.mp hm
    cases hsrc.symm.trans hsteady
  obtain ⟨t, ht, hsettles⟩ := State.takeUpAll_settles hq hc
  rw [← ht.chan] at hst hd hsrc hedge
  rw [← State.chRec_congr ht.cfg] at hst
  rw [State.takeUp_bypass hst hd hsrc hedge] at hsettles
  rw [← ht.windowed, ← State.inrushTime_congr ht.cfg, ← State.Admits.admittedSt_congr ht.cfg]
  have hqueue : (t.bypass c).queue = (t.dequeue c).queue := by
    unfold State.bypass
    dsimp only
    split <;> rfl
  have hout : c ∉ (t.bypass c).queued := fun hm => by
    unfold State.queued at hm
    rw [hqueue] at hm
    exact (State.mem_dequeue.mp hm).2 rfl
  have hwindow : c ∈ (t.bypass c).windowed ↔ t.inrushTime c ≠ 0 ∨ c ∈ t.windowed := by
    unfold State.bypass
    by_cases hw : t.inrushTime c = 0
    · simp only [hw, if_true, ne_eq, not_true_eq_false, false_or]
      rfl
    · simp [hw, State.windowed, State.joinWindow, State.setWindow]
  cases hsettles with
  | stands _ hunqueued chan windowed =>
    obtain ⟨n, src, e, hb, -⟩ := chan.same
    rw [hb, State.bypass_chan, if_pos rfl]
    exact ⟨rfl, rfl, hunqueued, windowed.trans hwindow⟩
  | waits hs => exact absurd hs hout
  | admitted hs => exact absurd hs hout

/-- A WAITING channel with a demand and no on edge keeps its place or is admitted (R54, R63). -/
theorem State.takeUpAll_waits (hst : (s.chan c).st = .waiting) (hd : (s.chan c).demand ≠ 0)
    (he : (s.chan c).source = .steady ∨ (s.chan c).onEdge = false) :
    (s.takeUpAll.chan c = s.chan c ∧ c ∈ s.takeUpAll.queued) ∨ ((s.takeUpAll.chan c).st = s.admittedSt c ∧
      (s.takeUpAll.chan c).applied = (s.chan c).applied ∧ c ∉ s.takeUpAll.queued) := by
  obtain ⟨t, ht, hsettles⟩ := State.takeUpAll_settles hq (State.not_joiner (c := c) (by simp [hst]))
  have hplace : c ∈ t.queued := ht.queued.mpr ((hq.2.1 c).mpr hst)
  rw [← ht.chan] at hst hd he ⊢
  rw [State.takeUp_waits hst hd he] at hsettles
  cases hsettles with
  | stands hs => exact absurd hplace hs
  | waits _ hstays chan => exact .inl ⟨chan, hstays⟩
  | admitted _ hout st drive =>
    exact .inr ⟨st.trans (State.Admits.admittedSt_congr ht.cfg c), congrArg Prod.fst drive, hout⟩

end

/-- A joining channel has a place, or is admitted at once (R53, R63). -/
theorem State.takeUpAll_joins {s : State} {c : Channel} (hc : c ∈ s.joiners) :
    ((s.takeUpAll.chan c).st = .waiting ∧ c ∈ s.takeUpAll.queued) ∨ (s.takeUpAll.chan c).st = .inrush ∨
      (s.takeUpAll.chan c).st = .run := by
  obtain ⟨t, hst, hplace, hfate⟩ := State.Fate.joiner s.joiners_nodup hc (s.tested s.takenUp)
  rw [← State.takeUpAll_eq] at hfate
  cases hfate with
  | outside hs => exact absurd hplace hs
  | waits _ hstays chan => exact .inl ⟨by rw [chan, hst], hstays⟩
  | admitted _ _ st =>
    unfold State.admittedSt at st
    split at st
    · exact .inr (.inr st)
    · exact .inr (.inl st)

/-! ### The fan in RUN -/

/-- What a start makes of the fan and of its channel in RUN (R163). -/
structure State.FanTakesUp (s t : State) (c : Channel) : Prop where
  rests : s.fan.st ≠ .ramp → t.fan = s.fan
  arrives : s.fan.st = .ramp → (s.chan c).demand ≠ 0 → (s.chan c).demand = s.fan.target →
    t.fan = { s.fan with st := .running, ramp := (s.chan c).demand }
  moves : s.fan.st = .ramp → (s.chan c).demand ≠ 0 → (s.chan c).demand ≠ s.fan.target →
    let next := moveToward (s.chan c).demand s.fan.target s.cfg.fan.rampRate
    t.fan = { s.fan with ramp := next } ∧ (t.chan c).demand = next ∧ (t.chan c).source = .steady

theorem State.takeUpAll_fanTakesUp {s : State} {c : Channel} (hq : s.QueueIsWaiting) (hc : s.fanChannel = some c)
    (hst : (s.chan c).st = .run) : s.FanTakesUp s.takeUpAll c := by
  obtain ⟨t, hfan, hcfg, htake, hsame, hchan⟩ := State.takeUpAll_ramped hq hc hst
  have hc' : t.fanChannel = some c := (State.fanChannel_congr hcfg).trans hc
  have htaken (hd : (s.chan c).demand ≠ 0) : (t.chan c).st = .run ∧ (t.chan c).applied = (s.chan c).demand := by
    rw [htake hd]
    exact ⟨hst, rfl⟩
  refine ⟨fun hf => ?_, fun hf hd hat => ?_, fun hf hd hat => ?_⟩
  · rw [← hfan] at hf ⊢
    rw [hsame, State.fanRampStep_rests hf]
  · obtain ⟨hrun, happlied⟩ := htaken hd
    rw [← hfan] at hf hat ⊢
    rw [hsame, State.fanRampStep_arrives hc' hf hrun (happlied.trans hat), hat]
  · obtain ⟨hrun, happlied⟩ := htaken hd
    rw [← hfan, ← happlied] at hat
    rw [← hfan] at hf ⊢
    rw [← happlied, ← hcfg, hsame, hchan]
    exact State.fanRampStep_moves hc' hf hrun hat

/-! ### The other actions of a start -/

/-- A start up to the take-ups: samples taken and timers counted (R18, R92, R126, R146, R187, R190). -/
def State.opened (s : State) (lines : PerInput Bool) : State :=
  let a := (s.abandonAll.sampleInputs lines)
  let b := (allGauges.foldl State.countFaultHold (allSlots.foldl State.countSlot a)).countFlash
  ((b.setSeq { b.seq with periodCount := b.nextPeriodCount }).setPower b.power.countStart).setClock .started

theorem State.startPeriod_eq (s : State) (lines : PerInput Bool) :
    s.startPeriod lines = (s.opened lines).takeUpAll.postRequests := rfl

/-- These actions leave the channels, the queue, the in-window set, the gates and the fan. -/
theorem State.opened_writes (s : State) (lines : PerInput Bool) : ∃ power clock slots inputs claims flash seq gauges,
    s.opened lines = { s with power, clock, slots, inputs, claims, flash, seq, gauges } := by
  have hkeep (power clock slots inputs claims flash seq gauges) :
      { s.opened lines with power, clock, slots, inputs, claims, flash, seq, gauges } =
        { s with power, clock, slots, inputs, claims, flash, seq, gauges } := by
    let rd (t : State) : State := { t with power, clock, slots, inputs, claims, flash, seq, gauges }
    have ha : rd (s.abandonAll.sampleInputs lines) = rd s :=
      (State.sampleInputs_keep rd (fun _ _ => rfl) ..).trans (State.abandonAll_keep rd (fun _ _ => rfl) ..)
    have hslots : rd (allSlots.foldl State.countSlot (s.abandonAll.sampleInputs lines)) = rd s :=
      (foldl_keep rd _ (State.countSlot_keep rd (fun _ _ => rfl) fun _ _ => rfl) _ _).trans ha
    have hgauges := (foldl_keep rd _ (State.countFaultHold_keep rd fun _ _ => rfl) allGauges _).trans hslots
    have hb := (State.countFlash_keep rd (fun _ _ => rfl) _).trans hgauges
    exact (State.setClock_keep rd (fun _ _ => rfl) ..).trans ((State.setPower_keep rd (fun _ _ => rfl) ..).trans
      ((State.setSeq_keep rd (fun _ _ => rfl) ..).trans hb))
  exact ⟨_, _, _, _, _, _, _, _, hkeep ..⟩

/-- A start that comes, and that brings the levels sampled ahead of it, is taken (R47; log 3). -/
theorem execDrivePeriodStart_comes {lines : PerInput Bool} {s u : State} (hu : s.settle = u) (hrun : u.running = true)
    (hclock : u.clock = .awaiting ∨ u.clock = .step 249 ∧ u.conversionDue = false)
    (hlines : ∀ i : InputId, (u.input i).sampledNow = true →
      (u.cfg.inputs.get i).polarity.rawLevel (lines.get i) = (u.input i).raw) :
    exec (.drivePeriodStart lines) s = .next (u.startPeriod lines) := by
  have hallowed : u.startAllowed = true := by
    unfold State.startAllowed
    rcases hclock with hclock | ⟨hclock, hdone⟩ <;> simp_all
  have hagree : u.linesAgree lines = true := List.all_eq_true.mpr fun i _ => by
    cases hnow : (u.input i).sampledNow with
    | false => rfl
    | true => simpa using hlines i hnow
  subst hu
  have hexec : exec (.drivePeriodStart lines) s = execDrivePeriodStart lines s := rfl
  rw [hexec]
  unfold execDrivePeriodStart
  rw [if_pos hrun, hallowed, hagree]
  rfl

/-- What a start makes of a channel, by its state and its demand (R52 to R56, R64, R77). -/
structure State.TakesUp (s t : State) (c : Channel) : Prop where
  run : (s.chan c).st = .run → (s.chan c).demand ≠ 0 → (s.chan c).takeRun.Ramps (t.chan c)
  inrush : (s.chan c).st = .inrush → (s.chan c).demand ≠ 0 → t.chan c = (s.chan c).takeInrush
  stop : ((s.chan c).st = .run ∨ (s.chan c).st = .inrush ∨ (s.chan c).st = .waiting) → (s.chan c).demand = 0 →
    t.chan c = { (s.chan c).stopped .off with onEdge := false } ∧ t.gates.out[c] = false ∧ c ∉ t.queued ∧ c ∉ t.windowed
  rests : (s.chan c).st = .off → ((s.chan c).demand = 0 ∨
    (s.chRec c).kind ≠ .gauge ∧ (s.chan c).source = .flash ∧ (s.chan c).onEdge = false) → t.chan c = s.chan c
  gauge : (s.chan c).st = .off → (s.chan c).demand ≠ 0 → (s.chRec c).kind = .gauge → (s.chan c).startRun.Ramps (t.chan c)
  bypass : ((s.chan c).st = .off ∧ ((s.chRec c).kind = .lamp ∨ (s.chRec c).kind = .motor) ∨ (s.chan c).st = .waiting) →
    (s.chan c).demand ≠ 0 → (s.chan c).source = .flash → (s.chan c).onEdge = true → (t.chan c).st = s.admittedSt c ∧
      (t.chan c).applied = 250 ∧ c ∉ t.queued ∧ (c ∈ t.windowed ↔ s.inrushTime c ≠ 0 ∨ c ∈ s.windowed)
  joins : c ∈ s.joiners → ((t.chan c).st = .waiting ∧ c ∈ t.queued) ∨ (t.chan c).st = .inrush ∨ (t.chan c).st = .run
  waits : (s.chan c).st = .waiting → (s.chan c).demand ≠ 0 → ((s.chan c).source = .steady ∨ (s.chan c).onEdge = false) →
    (t.chan c = s.chan c ∧ c ∈ t.queued) ∨
      ((t.chan c).st = s.admittedSt c ∧ (t.chan c).applied = (s.chan c).applied ∧ c ∉ t.queued)
  cooling : (s.chan c).st = .cooling →
    t.chan c = { s.chan c with onEdge := false, coolOff := (s.chan c).coolOff.map (· - 1) }
  latched : (s.chan c).st = .latched → t.chan c = { s.chan c with onEdge := false }

namespace State.TakesUp

variable {s t : State} {c : Channel} (h : s.TakesUp t c)
include h

theorem driven (hst : (s.chan c).st = .run ∨ (s.chan c).st = .inrush) (hd : (s.chan c).demand ≠ 0) :
    (t.chan c).st = (s.chan c).st ∧ (t.chan c).applied = (s.chan c).demand ∧ (t.chan c).prevDuty = (s.chan c).applied ∧
      (t.chan c).onEdge = false ∧ (t.chan c).trips = (s.chan c).trips ∧
      (t.chan c).admCount = countAdmission (s.chan c).admCount := by
  rcases hst with hst | hst
  · obtain ⟨n, src, e, hb, he⟩ := (h.run hst hd).same
    rw [hb]
    exact ⟨rfl, rfl, rfl, he.elim id id, rfl, rfl⟩
  · rw [h.inrush hst hd]
    exact ⟨rfl, rfl, rfl, rfl, rfl, rfl⟩

theorem counts (hst : (s.chan c).st = .run) (hd : (s.chan c).demand ≠ 0) :
    (t.chan c).runCount = countRun (s.chan c).runCount ∧ (t.chan c).opening = false := by
  obtain ⟨n, src, e, hb, -⟩ := (h.run hst hd).same
  rw [hb]
  exact ⟨rfl, rfl⟩

theorem opens (hst : (s.chan c).st = .inrush) (hd : (s.chan c).demand ≠ 0) (hcount : (s.chan c).admCount = none) :
    (t.chan c).opening = true ∧ (t.chan c).inrushTimer = (s.chan c).inrushTimer := by
  rw [h.inrush hst hd]
  simp [Chan.takeInrush, hcount]

theorem times (hst : (s.chan c).st = .inrush) (hd : (s.chan c).demand ≠ 0) (hcount : (s.chan c).admCount ≠ none) :
    (t.chan c).opening = false ∧ (t.chan c).inrushTimer = (s.chan c).inrushTimer.map (· - 1) := by
  rw [h.inrush hst hd]
  simp [Chan.takeInrush, hcount, Option.isSome_iff_ne_none]

theorem stops (hst : (s.chan c).st = .run ∨ (s.chan c).st = .inrush ∨ (s.chan c).st = .waiting)
    (hd : (s.chan c).demand = 0) : (t.chan c).st = .off ∧ (t.chan c).applied = 0 ∧ t.gates.out[c] = false ∧
      c ∉ t.queued ∧ t.inWindow c = false := by
  obtain ⟨hb, hgate, hout, hleft⟩ := h.stop hst hd
  rw [hb]
  exact ⟨rfl, rfl, hgate, hout, Bool.eq_false_iff.mpr (mt State.inWindow_iff.mp hleft)⟩

theorem starts (hst : (s.chan c).st = .off) (hd : (s.chan c).demand ≠ 0) (hk : (s.chRec c).kind = .gauge) :
    (t.chan c).st = .run ∧ (t.chan c).applied = (s.chan c).demand := by
  obtain ⟨n, src, e, hb, -⟩ := (h.gauge hst hd hk).same
  rw [hb]
  exact ⟨rfl, rfl⟩

theorem bypasses
    (hst : (s.chan c).st = .off ∧ ((s.chRec c).kind = .lamp ∨ (s.chRec c).kind = .motor) ∨ (s.chan c).st = .waiting)
    (hd : (s.chan c).demand ≠ 0) (hsrc : (s.chan c).source = .flash) (hedge : (s.chan c).onEdge = true) :
    (t.chan c).st = s.admittedSt c ∧ (t.chan c).applied = 250 ∧ c ∉ t.queued ∧
      t.inWindow c = (s.inrushTime c != 0 || s.inWindow c) := by
  obtain ⟨hb, happlied, hout, hin⟩ := h.bypass hst hd hsrc hedge
  refine ⟨hb, happlied, hout, Bool.eq_iff_iff.mpr ?_⟩
  rw [State.inWindow_iff, hin, Bool.or_eq_true, bne_iff_ne, State.inWindow_iff]

theorem stays (hst : (s.chan c).st = .off) (hd : (s.chan c).demand = 0 ∨
    (s.chRec c).kind ≠ .gauge ∧ (s.chan c).source = .flash ∧ (s.chan c).onEdge = false) : (t.chan c).st = .off := by
  rw [h.rests hst hd, hst]

theorem cools (hst : (s.chan c).st = .cooling) : (t.chan c).st = .cooling ∧ (t.chan c).onEdge = false ∧
    (t.chan c).coolOff = (s.chan c).coolOff.map (· - 1) := by
  rw [h.cooling hst]
  exact ⟨hst, rfl, rfl⟩

theorem latches (hst : (s.chan c).st = .latched) :
    (t.chan c).st = .latched ∧ (t.chan c).onEdge = false ∧ (t.chan c).trips = (s.chan c).trips := by
  rw [h.latched hst]
  exact ⟨hst, rfl, rfl⟩

end State.TakesUp

theorem State.takeUpAll_takesUp {s : State} (hq : s.QueueIsWaiting) (c : Channel) : s.TakesUp s.takeUpAll c where
  run := State.takeUpAll_run hq
  inrush := State.takeUpAll_inrush hq
  stop := State.takeUpAll_stop hq
  rests := State.takeUpAll_rests hq
  gauge := State.takeUpAll_gauge hq
  bypass := State.takeUpAll_bypass hq
  joins := State.takeUpAll_joins
  waits := State.takeUpAll_waits hq
  cooling := State.takeUpAll_cooling hq
  latched := State.takeUpAll_latched hq

end Sys2Proof.Machine

open Sys2Proof Sys2Proof.Machine

/-- Settles O17: the take-up channel by channel (`State.TakesUp`), the queue as the joins leave it (`State.Joining`), and
the fan; the other actions of the start leave what these speak of. -/
theorem periodStartTakesUpDemands : Obligations.PeriodStartTakesUpDemands := by
  unfold Obligations.PeriodStartTakesUpDemands
  intro lines s u hu hrun hclock hlines hq
  refine ⟨_, execDrivePeriodStart_comes hu hrun hclock hlines, ?_⟩
  rw [State.startPeriod_eq]
  obtain ⟨power, clock, slots, inputs, claims, flash, seq, gauges, hopened⟩ := u.opened_writes lines
  rw [hopened]
  generalize hv : ({ u with power, clock, slots, inputs, claims, flash, seq, gauges } : State) = v
  have hqv : v.QueueIsWaiting := hv ▸ hq
  have htakes := State.takeUpAll_takesUp hqv
  have hqueue := State.takeUpAll_joining hqv
  have hfan (c : Channel) (hc : v.fanChannel = some c) (hst : (v.chan c).st = .run) : v.FanTakesUp v.takeUpAll c :=
    State.takeUpAll_fanTakesUp hqv hc hst
  generalize v.takeUpAll = t at htakes hqueue hfan
  subst hv
  refine ⟨fun c => ?_, ?_, ?_, ?_, ?_, fun c hc hst => ?_⟩
  · have h := htakes c
    exact ⟨h.driven, h.counts, h.opens, h.times, h.stops, fun hst hd => h.stays hst (.inl hd), h.starts, h.bypasses,
      fun hst hk hsrc hedge => h.stays hst (.inr ⟨hk, hsrc, hedge⟩),
      fun hst hk hd hsrc => h.joins (State.joins_iff.mpr ⟨hst, hd, hsrc, hk⟩), h.waits, h.cools, h.latches⟩
  · intro x hx
    exact (hqueue.places x hx).imp_right And.right
  · exact hqueue.order
  · exact hqueue.ranks
  · intro d hd
    refine hqueue.head.imp (fun hfails => hfails d hd) fun hsame => ⟨?_, hsame.2⟩
    have hheads : t.queued.head? = u.queued.head? := by
      unfold State.queued
      rw [List.head?_map, hsame.1, ← List.head?_map]
    exact hheads.symm.trans hd
  · exact ⟨(hfan c hc hst).rests, (hfan c hc hst).arrives, (hfan c hc hst).moves⟩

end

section
/-! SUPPORT. The counters that clear the trip count and move BULB_OUT (R82, R84). -/

namespace Sys2Proof.Machine
open Sys2Proof

theorem State.runCountDue_iff (s : State) (c : Channel) : s.runCountDue c = true ↔
    s.running = true ∧ (s.chan c).st = .run ∧ (s.chan c).runCount = some 2000 ∧ (s.chan c).trips ≠ 0 := by
  simp [State.runCountDue, and_assoc]

theorem State.bulbSetDue_iff (s : State) (c : Channel) :
    s.bulbSetDue c = true ↔ s.running = true ∧ (s.chan c).low = 3 ∧ (s.chan c).bulbOut = false := by
  simp [State.bulbSetDue, and_assoc]

theorem State.bulbClearDue_iff (s : State) (c : Channel) :
    s.bulbClearDue c = true ↔ s.running = true ∧ (s.chan c).high = 3 ∧ (s.chan c).bulbOut = true := by
  simp [State.bulbClearDue, and_assoc]

/-- A change of BULB_OUT, with BULB raised (R84). -/
theorem State.bulb_raised (s : State) (c : Channel) (v : Chan) :
    (∀ m : SlotId, ((s.setChan c v).raise .bulb).slot m = s.raisedTo .bulb m) ∧
      (s.setChan c v).raise .bulb = { s.setChan c v with slots := ((s.setChan c v).raise .bulb).slots } :=
  ⟨fun m => State.raise_slot _ _ m,
    State.raise_keep (fun x => { x with slots := ((s.setChan c v).raise .bulb).slots }) (fun _ _ => rfl)
      (s.setChan c v) .bulb⟩

end Sys2Proof.Machine

open Sys2Proof Sys2Proof.Machine

/-- Settles O21: each command acts exactly where its moment is due. -/
theorem healthCountersAct : Obligations.HealthCountersAct := by
  unfold Obligations.HealthCountersAct
  refine ⟨fun c s => ?_, fun c s => ?_⟩
  · intro reached
    have hexec : exec (.runCountReached c) s = .next (if s.runCountDue c then s.runCountReach c else s) := rfl
    exact ⟨fun h => by rw [hexec, if_pos ((s.runCountDue_iff c).mpr h)]; rfl,
      fun h => by rw [hexec, if_neg (mt (s.runCountDue_iff c).mp h)]⟩
  · intro dark lit
    have hset : exec (.bulbOutSet c) s = .next (if s.bulbSetDue c then s.bulbSet c else s) := rfl
    have hclear : exec (.bulbOutClear c) s = .next (if s.bulbClearDue c then s.bulbClear c else s) := rfl
    refine ⟨fun h => ⟨s.bulbSet c, ?_, s.bulb_raised c _⟩, fun h => ⟨s.bulbClear c, ?_, s.bulb_raised c _⟩,
      fun h => ?_, fun h => ?_⟩
    · rw [hset, if_pos ((s.bulbSetDue_iff c).mpr h)]
    · rw [hclear, if_pos ((s.bulbClearDue_iff c).mpr h)]
    · rw [hset, if_neg (mt (s.bulbSetDue_iff c).mp h)]
    · rw [hclear, if_neg (mt (s.bulbClearDue_iff c).mp h)]

end

section
/-! SUPPORT. A tripped channel released (R78, R81) and the fan that leaves FAULTED with it (R167). -/

namespace Sys2Proof.Machine
open Sys2Proof

/-! ### A write of the fan unit -/

theorem State.setFan_fanWrite_fan (s : State) (v : Fan) (n : Nat) : ((s.setFan v).fanWrite n).fan = v := by simp

/-- The fan channel's record as the fan unit writes a demand to it (R39, R160). -/
theorem State.setFan_fanWrite_own {s : State} {c : Channel} (hc : s.fanChannel = some c) (v : Fan) (n : Nat) :
    ((s.setFan v).fanWrite n).chan c = { s.chan c with demand := n, source := .steady, onEdge := false } := by
  rw [State.setFan_fanWrite hc, State.writeDemand_chan, if_pos rfl, if_neg (by simp)]
  rfl

theorem State.cranking_false_iff (s : State) : s.cranking = false ↔ s.sup.crank = .normal := by
  unfold State.cranking
  cases s.sup.crank <;> simp

theorem State.faultedDemand_crank (s : State) :
    s.faultedDemand = if s.fan.target ≠ 0 ∧ s.sup.crank = .normal then s.cfg.fan.kickDuty else 0 := by
  unfold State.faultedDemand
  simp only [State.cranking_false_iff]

/-! ### The fan leaves FAULTED -/

/-- The fan as it leaves FAULTED, by T and the crank state (R167; log 34). -/
def State.fanFreed (s : State) : Fan :=
  if s.fan.target = 0 then { s.fan with st := .stopped, ramp := 0, stallRun := 0 }
  else if s.sup.crank = .crank then { s.fan with st := .suspended, ramp := 0, stallRun := 0 }
  else { s.fan with st := .starting, stallRun := 0 }

section
variable {s : State}

theorem State.fanFreed_stopped (h : s.fan.target = 0) :
    s.fanFreed = { s.fan with st := .stopped, ramp := 0, stallRun := 0 } := if_pos h

theorem State.fanFreed_suspended (h : s.fan.target ≠ 0) (hk : s.sup.crank = .crank) :
    s.fanFreed = { s.fan with st := .suspended, ramp := 0, stallRun := 0 } := (if_neg h).trans (if_pos hk)

theorem State.fanFreed_starting (h : s.fan.target ≠ 0) (hk : s.sup.crank = .normal) :
    s.fanFreed = { s.fan with st := .starting, stallRun := 0 } := (if_neg h).trans (if_neg (by rw [hk]; decide))

end

/-- It writes the demand that a FAULTED fan writes: the kick duty where it starts, else 0 (R161, R162, R165, R167). -/
theorem State.fanSawRelease_faulted {s : State} (h : s.fan.st = .faulted) :
    s.fanSawRelease = (s.setFan s.fanFreed).fanWrite s.faultedDemand := by
  unfold State.fanSawRelease State.fanFreed State.faultedDemand State.fanStop State.fanSuspend State.fanStarting
    State.cranking
  rw [if_pos h]
  by_cases ht : s.fan.target = 0
  · simp [ht]
  · cases s.sup.crank <;> simp [ht]

theorem State.fanSawRelease_same {s : State} (h : s.fan.st ≠ .faulted) : s.fanSawRelease = s := if_neg h

theorem State.fanFreed_report (s : State) : s.fanFreed.report = s.fan.report := by
  unfold State.fanFreed
  split
  · rfl
  · split <;> rfl

theorem State.fanSawRelease_report (s : State) : s.fanSawRelease.fan.report = s.fan.report := by
  by_cases h : s.fan.st = .faulted
  · rw [State.fanSawRelease_faulted h, State.setFan_fanWrite_fan, State.fanFreed_report]
  · rw [State.fanSawRelease_same h]

/-! ### Releases -/

/-- A released channel's record, before the fan unit is told (R81). -/
def Chan.released (ch : Chan) : Chan := { ch with st := .off, trips := 0 }

theorem State.release_eq (s : State) (c : Channel) :
    s.release c = (s.modChan c Chan.released).ifFan c State.fanSawRelease := rfl

namespace State.FanWrites

variable {s t u : State}

theorem trans (h : s.FanWrites t) (k : t.FanWrites u) : s.FanWrites u where
  others d hd := (k.others d fun hf => hd ((State.fanChannel_congr h.cfg).symm.trans hf)).trans (h.others d hd)
  own d := by
    obtain ⟨n, src, e, hd⟩ := k.own d
    obtain ⟨_, _, _, hd'⟩ := h.own d
    exact ⟨n, src, e, by rw [hd, hd']⟩
  cfg := k.cfg.trans h.cfg
  queue := k.queue.trans h.queue
  window := k.window.trans h.window
  gates := k.gates.trans h.gates

/-- A release on both sides, which does not read what the fan unit writes. -/
theorem released (h : s.FanWrites t) (c : Channel) :
    (s.modChan c Chan.released).FanWrites (t.modChan c Chan.released) where
  others d hd := by
    rw [State.chan_modChan, State.chan_modChan]
    split
    · rename_i hcd
      rw [hcd, h.others d hd]
    · exact h.others d hd
  own d := by
    rw [State.chan_modChan, State.chan_modChan]
    split
    · obtain ⟨n, src, e, hc⟩ := h.own c
      exact ⟨n, src, e, by rw [hc]; rfl⟩
    · exact h.own d
  cfg := h.cfg
  queue := h.queue
  window := h.window
  gates := h.gates

theorem fanFault (s : State) : s.FanWrites s.fanFault := wrote s _ _

theorem release (s : State) (c : Channel) : (s.modChan c Chan.released).FanWrites (s.release c) :=
  .ifFan c (.fanSawRelease _)

end State.FanWrites

theorem State.release_report (s : State) (c : Channel) : (s.release c).fan.report = s.fan.report := by
  rw [State.release_eq]
  unfold State.ifFan
  split
  · exact State.fanSawRelease_report _
  · rfl

end Sys2Proof.Machine
end

section
/-! SUPPORT. A trip (R66, R71 to R74, R79, R132, R167): the tripped channel's record, and what the trip does to the gate,
the in-window set, the queue, the sequencer, the slots and the fan. -/

namespace Sys2Proof.Machine
open Sys2Proof

/-! ### The release condition -/

theorem State.releasable_eq_true_iff (s : State) (c : Channel) : s.releasable c = true ↔
    if (s.chRec c).kind = .gauge then (s.chan c).demand = 0 else (s.chan c).present = false := by
  rw [State.releasable_iff]
  unfold State.LatchHeld
  split <;> simp

/-- The fan unit's writes leave the release condition: the fan channel is a MOTOR channel (R27, R79). -/
theorem State.FanWrites.releasable {s t : State} (h : s.FanWrites t) {c : Channel}
    (hk : s.fanChannel = some c → (s.chRec c).kind ≠ .gauge) : t.releasable c = s.releasable c := by
  rw [Bool.eq_iff_iff, State.releasable_eq_true_iff, State.releasable_eq_true_iff, State.chRec_congr h.cfg]
  by_cases hf : s.fanChannel = some c
  · obtain ⟨n, src, e, hc⟩ := h.own c
    rw [if_neg (hk hf), if_neg (hk hf), hc]
  · rw [h.others c hf]

/-! ### The steps of a trip -/

/-- The trip with its event and its abandoned request, the fan unit not having been told yet. -/
def State.tripNoted (s : State) (c : Channel) (k : TripCause) : State :=
  ((s.tripped c k).raise .trip).abandon (.channel c)

theorem State.tripTold_eq (s : State) (c : Channel) (k : TripCause) :
    s.tripTold c k = (s.tripNoted c k).ifFan c State.fanFault := rfl

/-- The trip before the admission test (R66). -/
def State.tripEnded (s : State) (c : Channel) (k : TripCause) : State := (s.tripTold c k).releaseIfDue c

/-- The trip latches the channel and the release condition holds already (R72, R79). -/
def State.tripFrees (s : State) (c : Channel) (k : TripCause) : Bool :=
  tripLatches (s.chRec c) (s.chan c) k && s.releasable c

/-- The tripped channel's record, released where that is due; the fan unit's demand is not in it (R71, R79). -/
def State.tripLeaves (s : State) (c : Channel) (k : TripCause) : Chan :=
  if s.tripFrees c k then (s.trippedChan c k).released else s.trippedChan c k

theorem State.trippedChan_latched_iff (s : State) (c : Channel) (k : TripCause) :
    (s.trippedChan c k).st = .latched ↔ tripLatches (s.chRec c) (s.chan c) k = true := by
  change (if _ then ChState.latched else .cooling) = _ ↔ _
  split <;> simp_all

section
variable {β : Type} {s : State} {c : Channel} {k : TripCause}

theorem State.tripNoted_keep (rd : State → β) (hslots : Free_slots rd) (hseq : Free_seq rd) :
    rd (s.tripNoted c k) = rd (s.tripped c k) :=
  (State.abandon_keep rd hseq _ _).trans (State.raise_keep rd hslots _ _)

theorem State.tripEnded_keep (rd : State → β) (hchans : Free_chans rd) (hfan : Free_fan rd) :
    rd (s.tripEnded c k) = rd (s.tripNoted c k) :=
  (State.releaseIfDue_keep rd hchans hfan _ c).trans
    (State.ifFan_keep rd _ c _ fun t => State.fanFault_keep rd hchans hfan t)

theorem State.tripNoted_cfg : (s.tripNoted c k).cfg = s.cfg :=
  State.tripNoted_keep (·.cfg) (fun _ _ => rfl) fun _ _ => rfl

theorem State.tripNoted_chan (d : Channel) :
    (s.tripNoted c k).chan d = if c = d then s.trippedChan c k else s.chan d :=
  (State.tripNoted_keep (·.chan d) (fun _ _ => rfl) fun _ _ => rfl).trans (s.chan_setChan c d _)

theorem State.tripNoted_fan : (s.tripNoted c k).fan = s.fan :=
  State.tripNoted_keep (·.fan) (fun _ _ => rfl) fun _ _ => rfl

/-- The fan unit told of the trip. -/
theorem State.tripTold_writes : (s.tripNoted c k).FanWrites (s.tripTold c k) := .ifFan c (.fanFault _)

theorem State.tripEnded_queued : (s.tripEnded c k).queued = s.queued :=
  (State.tripEnded_keep (·.queued) (fun _ _ => rfl) fun _ _ => rfl).trans
    (State.tripNoted_keep (·.queued) (fun _ _ => rfl) fun _ _ => rfl)

/-- The channel has left the in-window set (R61, R71). -/
theorem State.tripEnded_left : (s.tripEnded c k).inWindow c = false := by
  have hwindow : (s.tripEnded c k).inWindow c = (s.tripped c k).inWindow c :=
    (State.tripEnded_keep (·.inWindow c) (fun _ _ => rfl) fun _ _ => rfl).trans
      (State.tripNoted_keep (·.inWindow c) (fun _ _ => rfl) fun _ _ => rfl)
  rw [hwindow]
  exact Bool.eq_false_iff.mpr fun hin => ((State.leaveWindow_inWindow _ c c).mp hin).1 rfl

section
variable (hk : s.fanChannel = some c → (s.chRec c).kind ≠ .gauge)
include hk

theorem State.tripTold_due : ((s.tripTold c k).chan c).st = .latched ∧ (s.tripTold c k).releasable c = true ↔
    s.tripFrees c k = true := by
  have hfree : (s.tripNoted c k).releasable c = s.releasable c := by
    rw [Bool.eq_iff_iff, State.releasable_eq_true_iff, State.releasable_eq_true_iff,
      State.chRec_congr State.tripNoted_cfg, State.tripNoted_chan, if_pos rfl]
    rfl
  have hk' : (s.tripNoted c k).fanChannel = some c → ((s.tripNoted c k).chRec c).kind ≠ .gauge := by
    rwa [State.fanChannel_congr State.tripNoted_cfg, State.chRec_congr State.tripNoted_cfg]
  rw [(State.tripTold_writes.same c).1, State.tripTold_writes.releasable hk', hfree, State.tripNoted_chan, if_pos rfl,
    State.trippedChan_latched_iff]
  exact Bool.and_eq_true_iff.symm

theorem State.tripEnded_freed (hf : s.tripFrees c k = true) : s.tripEnded c k = (s.tripTold c k).release c :=
  if_pos ((State.tripTold_due hk).mpr hf)

theorem State.tripEnded_held (hf : s.tripFrees c k = false) : s.tripEnded c k = s.tripTold c k :=
  if_neg fun h => by simp [(State.tripTold_due hk).mp h] at hf

theorem State.tripEnded_writes : ((s.tripNoted c k).setChan c (s.tripLeaves c k)).FanWrites (s.tripEnded c k) := by
  have hown : (s.tripNoted c k).chan c = s.trippedChan c k := by rw [State.tripNoted_chan, if_pos rfl]
  unfold State.tripLeaves
  cases hf : s.tripFrees c k with
  | false =>
    rw [State.tripEnded_held hk hf, if_neg (by decide), ← hown, State.setChan_chan]
    exact State.tripTold_writes
  | true =>
    rw [State.tripEnded_freed hk hf, if_pos rfl, ← hown]
    exact (State.tripTold_writes.released c).trans (.release _ c)

/-- The fan channel stays COOLING or LATCHED, and the fan is FAULTED (R167). -/
theorem State.tripEnded_faults (hc : s.fanChannel = some c) (hf : s.tripFrees c k = false) :
    (s.tripEnded c k).fan = { s.fan with st := .faulted, ramp := 0, stallRun := 0 } ∧
      ((s.tripEnded c k).chan c).source = .steady ∧
      ((s.tripEnded c k).chan c).demand =
        if s.fan.target ≠ 0 ∧ s.sup.crank = .normal then s.cfg.fan.kickDuty else 0 := by
  have hchannel : (s.tripNoted c k).fanChannel = some c := (State.fanChannel_congr State.tripNoted_cfg).trans hc
  have hsup : (s.tripNoted c k).sup = s.sup := State.tripNoted_keep (·.sup) (fun _ _ => rfl) fun _ _ => rfl
  rw [State.tripEnded_held hk hf, State.tripTold_eq, State.ifFan_fan (State.isFan_iff.mpr hchannel), State.fanFault,
    State.setFan_fanWrite_fan, State.setFan_fanWrite_own hchannel, State.tripNoted_fan]
  refine ⟨rfl, rfl, (State.faultedDemand_crank _).trans ?_⟩
  change (if s.fan.target ≠ 0 ∧ (s.tripNoted c k).sup.crank = .normal then (s.tripNoted c k).cfg.fan.kickDuty
    else 0) = _
  rw [hsup, State.tripNoted_cfg]

theorem State.tripEnded_report : (s.tripEnded c k).fan.report = s.fan.report := by
  have htold : (s.tripTold c k).fan.report = s.fan.report := by
    rw [State.tripTold_eq]
    unfold State.ifFan
    split
    · rw [State.fanFault, State.setFan_fanWrite_fan, State.tripNoted_fan]
    · rw [State.tripNoted_fan]
  cases hf : s.tripFrees c k with
  | false => rw [State.tripEnded_held hk hf, htold]
  | true => rw [State.tripEnded_freed hk hf, State.release_report, htold]

end

/-! ### The whole trip -/

/-- `t` is `s` after a trip of `c`, a channel outside the queue (R71). -/
structure State.Trips (s : State) (c : Channel) (k : TripCause) (t : State) : Prop where
  record : ∃ n src e, t.chan c = { s.tripLeaves c k with demand := n, source := src, onEdge := e }
  gate : t.gates.out[c] = false
  left : t.inWindow c = false
  request : t.request? (.channel c) = none
  value : ∀ x : Source, t.value x =
    if x = .channel c ∧ s.request? x ≠ none then { s.value x with mark := .held } else s.value x
  head : (s.chan c).st = .inrush → t.HeadFails
  fan : s.fanChannel = some c → s.tripFrees c k = false →
    t.fan = { s.fan with st := .faulted, ramp := 0, stallRun := 0 } ∧ (t.chan c).source = .steady ∧
      (t.chan c).demand = if s.fan.target ≠ 0 ∧ s.sup.crank = .normal then s.cfg.fan.kickDuty else 0
  report : s.fanChannel = some c → t.fan.report = s.fan.report
  slot : ∀ m : SlotId, t.slot m = s.raisedTo .trip m
  others : ∀ d : Channel, d ≠ c → s.fanChannel ≠ some d → d ∉ s.queued → t.chan d = s.chan d
  only : t = { s with chans := t.chans, gates := t.gates, window := t.window, queue := t.queue, slots := t.slots,
                      seq := t.seq, fan := t.fan }

theorem State.trip_admits (s : State) (c : Channel) (k : TripCause) : (s.tripEnded c k).Admits (s.trip c k) := by
  rw [State.trip_eq]
  dsimp only
  split
  · exact .admitHeads _
  · exact .refl _

/-- What the fan unit's part, a release and the admission test do not reach. -/
theorem State.trip_noted (rd : State → β) (hchans : Free_chans rd) (hfan : Free_fan rd) (hqueue : Free_queue rd)
    (hwindow : Free_window rd) : rd (s.trip c k) = rd (s.tripNoted c k) := by
  refine Eq.trans ?_ (State.tripEnded_keep rd hchans hfan)
  rw [State.trip_eq]
  dsimp only
  split
  · exact State.admitHeads_keep rd hchans hqueue hwindow hfan _
  · rfl

theorem State.tripNoted_value (x : Source) : (s.tripNoted c k).value x =
    if x = .channel c ∧ s.request? x ≠ none then { s.value x with mark := .held } else s.value x := by
  have hseq : ((s.tripped c k).raise .trip).seq = s.seq := State.raise_keep (·.seq) (fun _ _ => rfl) _ _
  have hrequest (y : Source) : ((s.tripped c k).raise .trip).request? y = s.request? y := by
    unfold State.request?
    rw [hseq]
  have hvalue (y : Source) : ((s.tripped c k).raise .trip).value y = s.value y := by
    unfold State.value
    rw [hseq]
  rw [State.tripNoted, State.abandon_value, hrequest, hvalue, hvalue]
  by_cases hx : x = .channel c
  · subst hx
    simp only [Option.isSome_iff_ne_none]
  · rw [if_neg fun h => hx h.1, if_neg fun h => hx h.1]

theorem State.tripNoted_request : (s.tripNoted c k).request? (.channel c) = none := by
  unfold State.request? State.tripNoted
  rw [State.abandon_requests]
  exact List.find?_eq_none.mpr fun r hr => by simpa using (List.mem_filter.mp hr).2

theorem State.tripNoted_slot (m : SlotId) : (s.tripNoted c k).slot m = s.raisedTo .trip m :=
  (State.abandon_keep (·.slot m) (fun _ _ => rfl) _ _).trans (State.raise_slot _ _ _)

theorem State.tripNoted_gate : (s.tripNoted c k).gates.out[c] = false :=
  (State.tripNoted_keep (·.gates.out[c]) (fun _ _ => rfl) fun _ _ => rfl).trans
    ((State.negateGate_out _ c c).trans (if_pos rfl))

theorem State.trip_only (s : State) (c : Channel) (k : TripCause) :
    let t := s.trip c k
    t = { s with chans := t.chans, gates := t.gates, window := t.window, queue := t.queue, slots := t.slots,
                 seq := t.seq, fan := t.fan } :=
  let t := s.trip c k
  State.trip_keep (fun x => { x with
    chans := t.chans, gates := t.gates, window := t.window, queue := t.queue, slots := t.slots, seq := t.seq,
    fan := t.fan })
    (fun _ _ => rfl) (fun _ _ => rfl) (fun _ _ => rfl) (fun _ _ => rfl) (fun _ _ => rfl) (fun _ _ => rfl)
    (fun _ _ => rfl) s c k

theorem State.trip_trips (hq : c ∉ s.queued) (hk : s.fanChannel = some c → (s.chRec c).kind ≠ .gauge) :
    s.Trips c k (s.trip c k) := by
  have hw := State.tripEnded_writes (k := k) hk
  have ha := s.trip_admits c k
  have hqueued : (s.tripEnded c k).queued = s.queued := State.tripEnded_queued
  have hout : c ∉ (s.tripEnded c k).queued := hqueued ▸ hq
  have hown : (s.trip c k).chan c = (s.tripEnded c k).chan c := (ha.outside hout).1
  have hcfg : (s.tripEnded c k).cfg = s.cfg := hw.cfg.trans State.tripNoted_cfg
  have hfan (hc : s.fanChannel = some c) : (s.trip c k).fan = (s.tripEnded c k).fan := by
    refine ha.fan fun d hd hmem => ?_
    obtain rfl : c = d := Option.some.inj (hc.symm.trans ((State.fanChannel_congr hcfg).symm.trans hd))
    exact absurd hmem hout
  refine ⟨?_, ?_, ?_, ?_, fun x => ?_, fun hst => ?_, fun hc hf => ?_, fun hc => ?_, fun m => ?_, fun d hd hf hn => ?_,
    s.trip_only c k⟩
  · obtain ⟨n, src, e, hc⟩ := hw.own c
    exact ⟨n, src, e, by rw [hown, hc, State.chan_setChan, if_pos rfl]⟩
  · exact (State.trip_noted (·.gates.out[c]) (fun _ _ => rfl) (fun _ _ => rfl) (fun _ _ => rfl) fun _ _ => rfl).trans
      State.tripNoted_gate
  · refine Bool.eq_false_iff.mpr fun hin => ?_
    rcases (ha.windowed c).mp (State.inWindow_iff.mp hin) with hin | ⟨hin, -⟩
    · exact Bool.eq_false_iff.mp State.tripEnded_left (State.inWindow_iff.mpr hin)
    · exact hout hin
  · exact (State.trip_noted (·.request? _) (fun _ _ => rfl) (fun _ _ => rfl) (fun _ _ => rfl) fun _ _ => rfl).trans
      State.tripNoted_request
  · exact (State.trip_noted (·.value x) (fun _ _ => rfl) (fun _ _ => rfl) (fun _ _ => rfl) fun _ _ => rfl).trans
      (State.tripNoted_value x)
  · rw [State.trip_eq, if_pos hst]
    exact State.admitHeads_headFails _
  · rw [hfan hc, hown]
    exact State.tripEnded_faults hk hc hf
  · rw [hfan hc]
    exact State.tripEnded_report hk
  · exact (State.trip_noted (·.slot m) (fun _ _ => rfl) (fun _ _ => rfl) (fun _ _ => rfl) fun _ _ => rfl).trans
      (State.tripNoted_slot m)
  · have hf' : ((s.tripNoted c k).setChan c (s.tripLeaves c k)).fanChannel ≠ some d := by
      rwa [State.fanChannel_congr (s := s) (t := (s.tripNoted c k).setChan c _) State.tripNoted_cfg]
    rw [(ha.outside (hqueued ▸ hn)).1, hw.others d hf', State.chan_setChan, if_neg hd.symm, State.tripNoted_chan,
      if_neg hd.symm]

end

end Sys2Proof.Machine
end

section
/-! SUPPORT. What a trip makes of the tripped channel (R71 to R74, R79), and when an overcurrent is taken (R48, R50, R51,
R70). -/

namespace Sys2Proof.Machine
open Sys2Proof

/-! ### The tripped channel -/

theorem tripLatches_iff (r : ChannelRec) (ch : Chan) (k : TripCause) : tripLatches r ch k = true ↔
    k = .short ∨ r.protect = .latch ∨ r.retryLimit ≤ tripCount ch k := by
  simp [tripLatches, or_assoc]

namespace State.Trips

variable {s t : State} {c : Channel} {k : TripCause} (h : s.Trips c k t)
include h

/-- The drive is stopped and the trip recorded, whatever follows (R71, R74). -/
theorem stopped : (t.chan c).tripRec = some (s.tripRecord c k) ∧ (t.chan c).applied = 0 ∧
    (t.chan c).inrushTimer = none ∧ (t.chan c).opening = false ∧ (t.chan c).admCount = none ∧
    (t.chan c).runCount = none := by
  obtain ⟨n, src, e, hc⟩ := h.record
  rw [hc]
  unfold State.tripLeaves
  split
  · exact ⟨rfl, rfl, rfl, rfl, rfl, rfl⟩
  · exact ⟨rfl, rfl, rfl, rfl, rfl, rfl⟩

/-- A trip that does not latch cools off (R72). -/
theorem cools (hl : tripLatches (s.chRec c) (s.chan c) k = false) : (t.chan c).st = .cooling ∧
    (t.chan c).coolOff = some (s.chRec c).coolOff ∧ (t.chan c).trips = tripCount (s.chan c) k := by
  obtain ⟨n, src, e, hc⟩ := h.record
  have hf : s.tripFrees c k = false := by rw [State.tripFrees, hl, Bool.false_and]
  rw [hc, State.tripLeaves, hf]
  simp [State.trippedChan, Chan.stopped, hl]

/-- One that latches stays LATCHED while the release condition does not hold (R72, R79). -/
theorem latches (hl : tripLatches (s.chRec c) (s.chan c) k = true) (hr : s.releasable c = false) :
    (t.chan c).st = .latched ∧ (t.chan c).coolOff = none ∧ (t.chan c).trips = tripCount (s.chan c) k := by
  obtain ⟨n, src, e, hc⟩ := h.record
  have hf : s.tripFrees c k = false := by rw [State.tripFrees, hr, Bool.and_false]
  rw [hc, State.tripLeaves, hf]
  simp [State.trippedChan, Chan.stopped, hl]

/-- One that latches is released at once where the release condition holds (R79). -/
theorem frees (hf : s.tripFrees c k = true) : (t.chan c).st = .off ∧ (t.chan c).trips = 0 := by
  obtain ⟨n, src, e, hc⟩ := h.record
  rw [hc, State.tripLeaves, if_pos hf]
  exact ⟨rfl, rfl⟩

/-- A channel that stays COOLING or LATCHED has not been released. -/
theorem held (hst : (t.chan c).st = .cooling ∨ (t.chan c).st = .latched) : s.tripFrees c k = false := by
  refine Bool.eq_false_iff.mpr fun hf => ?_
  rw [(h.frees hf).1] at hst
  exact hst.elim nofun nofun

end State.Trips

/-! ### An overcurrent -/

theorem State.gateAt_iff (s : State) (c : Channel) (n : Nat) : s.gateAt c n = true ↔
    if s.fanChannel = some c then (if n % 2 = 0 then 0 < (s.chan c).applied else 125 < (s.chan c).applied)
    else (s.chRec c).phase ≤ n ∧ n < (s.chRec c).phase + (s.chan c).applied ∨
      n + 250 < (s.chRec c).phase + (s.chan c).prevDuty := by
  split
  · exact State.gateAt_fan ‹_› n
  · exact State.gateAt_other ‹_› n

theorem State.blanked_iff (s : State) (c : Channel) (n : Nat) : s.blanked c n = true ↔
    if s.fanChannel = some c then (s.chan c).prevDuty = 0 ∧ n < (s.chRec c).blanking
    else 0 < (s.chan c).applied ∧ (s.chan c).prevDuty ≠ 250 ∧ (s.chRec c).phase ≤ n ∧
        n < (s.chRec c).phase + (s.chRec c).blanking ∨
      (s.chan c).prevEdge = true ∧ n + 250 < (s.chRec c).phase + (s.chRec c).blanking := by
  unfold State.blanked
  by_cases hf : s.fanChannel = some c
  · simp [State.isFan_iff.mpr hf, hf]
  · simp [State.isFan_false_iff.mpr hf, hf, hasEdge, and_assoc]

theorem State.overcurrent_iff {s : State} {n : Nat} (hn : s.clock = .step n) (c : Channel) (mA : Nat) :
    s.overcurrent c mA = true ↔
      ((s.chan c).st = .inrush ∧ (s.chRec c).inrushLimit < mA ∨ (s.chan c).st = .run ∧ (s.chRec c).runLimit < mA) ∧
        s.gateAt c n = true ∧ ¬ s.blanked c n = true := by
  unfold State.overcurrent State.threshold?
  rw [hn]
  cases (s.chan c).st <;> simp [and_comm, and_left_comm]

/-- The cause of an overcurrent trip (R73). -/
def Chan.overcurrentCause (ch : Chan) : TripCause := if ch.opening then .short else .overcurrent

theorem Chan.overcurrentCause_short (ch : Chan) : ch.overcurrentCause = .short ↔ ch.opening = true := by
  unfold Chan.overcurrentCause
  split <;> simp_all

theorem Chan.overcurrentCause_count (ch : Chan) :
    tripCount ch ch.overcurrentCause = if ch.opening = true then ch.trips else ch.trips + 1 := by
  unfold Chan.overcurrentCause
  split <;> rfl

end Sys2Proof.Machine

open Sys2Proof Sys2Proof.Machine

/-- Settles O22: the moment by `State.overcurrent_iff`, the effects by `State.Trips`. -/
theorem overcurrentTrips : Obligations.OvercurrentTrips := by
  unfold Obligations.OvercurrentTrips
  intro c current n s hrun hn hq hmotor ch r asserted blanked isOver count latches free
  have hover : s.overcurrent c current = true ↔ isOver := by
    rw [State.overcurrent_iff hn, State.gateAt_iff, State.blanked_iff]
  have hlatches : tripLatches r ch ch.overcurrentCause = true ↔ latches := by
    rw [tripLatches_iff, ch.overcurrentCause_short, ch.overcurrentCause_count]
  have hfree : s.releasable c = true ↔ free := s.releasable_eq_true_iff c
  have hexec : exec (.overcurrentTrip c current) s =
      .next (if s.running ∧ s.overcurrent c current then s.trip c ch.overcurrentCause else s) := rfl
  refine ⟨fun h => ?_, fun h => ⟨s.trip c ch.overcurrentCause, ?_, s.trip_only c _, ?_⟩⟩
  · rw [hexec, if_neg fun hd => h (hover.mp hd.2)]
  · rw [hexec, if_pos ⟨hrun, hover.mpr h⟩]
  have hdriven : (s.chan c).st ≠ .waiting := by
    rcases h.1 with h | h <;> rw [h.1] <;> decide
  have ht : s.Trips c ch.overcurrentCause (s.trip c ch.overcurrentCause) :=
    State.trip_trips (fun hm => hdriven ((hq.2.1 c).mp hm)) fun hf => by rw [hmotor hf]; decide
  generalize s.trip c ch.overcurrentCause = t at ht
  obtain ⟨hrec, happlied, htimer, hopening, hadm, hrunc⟩ := ht.stopped
  have hcount : tripCount ch ch.overcurrentCause = count := ch.overcurrentCause_count
  refine ⟨fun hl => ?_, fun hl hf => ?_, fun hl hf => ?_, ?_, happlied, htimer, hopening, hadm, hrunc, ht.gate, ht.left,
    ht.request, ht.value, ht.head, fun hc hst => ht.fan hc (ht.held hst), ht.slot, fun d hd hf hw => ?_⟩
  · exact hcount ▸ ht.cools (Bool.eq_false_iff.mpr (mt hlatches.mp hl))
  · exact hcount ▸ ht.latches (hlatches.mpr hl) (Bool.eq_false_iff.mpr (mt hfree.mp hf))
  · exact ht.frees (Bool.and_eq_true_iff.mpr ⟨hlatches.mpr hl, hfree.mpr hf⟩)
  · rw [hrec, State.tripRecord, hcount]
    simp only [State.stepNow, hn]
    rfl
  · exact ht.others d hd hf fun hm => hw ((hq.2.1 d).mp hm)

end

section
/-! SUPPORT. A stall report (R75, R82, R166): taken as a trip of the fan channel in RUN, and discarded else. -/

namespace Sys2Proof.Machine
open Sys2Proof

theorem State.stallDue_iff (s : State) : s.stallDue = true ↔ s.running = true ∧ s.fan.report ≠ none := by
  simp [State.stallDue, Option.isSome_iff_ne_none]

/-- The report taken, with a run count at 2,000 ahead of the trip (R75, R82). -/
def State.stallTaken (s : State) (c : Channel) : State :=
  (s.setFan { s.fan with report := none }).setChan c
    { s.chan c with trips := if (s.chan c).runCount = some 2000 then 0 else (s.chan c).trips }

theorem State.stallReport_accept {s : State} {c : Channel} (hrun : s.running = true) (hr : s.fan.report = some c)
    (hf : s.fanChannel = some c) (hst : (s.chan c).st = .run) : s.stallReport = (s.stallTaken c).trip c .stall := by
  have htaken : (s.setFan { s.fan with report := none }).whenDue (s.runCountDue c) (fun u => u.runCountReach c) =
      s.stallTaken c := by
    unfold State.whenDue State.stallTaken
    split
    next hd =>
      rw [if_pos ((s.runCountDue_iff c).mp hd).2.2.1]
      rfl
    next hd =>
      have htrips : (if (s.chan c).runCount = some 2000 then 0 else (s.chan c).trips) = (s.chan c).trips := by
        refine ite_eq_right_iff.mpr fun hcount => ?_
        by_contra hne
        exact hd ((s.runCountDue_iff c).mpr ⟨hrun, hst, hcount, Ne.symm hne⟩)
      rw [htrips]
      exact (State.setChan_chan _ c).symm
  unfold State.stallReport
  rw [hr]
  dsimp only
  rw [if_pos ⟨State.isFan_iff.mpr hf, hst⟩, htaken]

theorem State.stallTaken_chan (s : State) (c d : Channel) : (s.stallTaken c).chan d =
    if c = d then { s.chan c with trips := if (s.chan c).runCount = some 2000 then 0 else (s.chan c).trips }
    else s.chan d := State.chan_setChan ..

end Sys2Proof.Machine

open Sys2Proof Sys2Proof.Machine

/-- Settles O23: a report that is accepted is a trip from `State.stallTaken`. -/
theorem stallTrips : Obligations.StallTrips := by
  unfold Obligations.StallTrips
  intro c s due accepted count
  have hexec : exec .stallReport s = .next (if s.stallDue then s.stallReport else s) := rfl
  refine ⟨fun h => ?_, fun h hr hq hmotor => ⟨s.stallReport, ?_, ?_⟩⟩
  · rw [hexec, if_neg fun hd => h (s.stallDue_iff.mp hd)]
  · rw [hexec, if_pos (s.stallDue_iff.mpr h)]
  by_cases ha : accepted
  · obtain ⟨hf, hst⟩ := ha
    rw [State.stallReport_accept h.1 hr hf hst]
    have hout : c ∉ s.queued := fun hm => by
      rw [(hq.2.1 c).mp hm] at hst
      cases hst
    have hown : (s.stallTaken c).chan c = { s.chan c with
        trips := if (s.chan c).runCount = some 2000 then 0 else (s.chan c).trips } := by
      rw [State.stallTaken_chan, if_pos rfl]
    have hkind : ((s.stallTaken c).chRec c).kind = .motor := hmotor
    have ht : (s.stallTaken c).Trips c .stall ((s.stallTaken c).trip c .stall) :=
      State.trip_trips hout fun _ => by rw [hkind]; decide
    generalize (s.stallTaken c).trip c .stall = t at ht
    obtain ⟨hrec, happlied, -⟩ := ht.stopped
    have hcount : tripCount ((s.stallTaken c).chan c) .stall = count := by
      rw [hown]
      rfl
    have hlatches : tripLatches ((s.stallTaken c).chRec c) ((s.stallTaken c).chan c) .stall = true ↔
        (s.chRec c).protect = .latch ∨ (s.chRec c).retryLimit ≤ count := by
      rw [tripLatches_iff, hcount]
      exact or_iff_right nofun
    have hfree : (s.stallTaken c).releasable c = true ↔ (s.chan c).present = false := by
      rw [State.releasable_eq_true_iff, hkind, if_neg (by decide), hown]
    refine ⟨fun _ => ⟨?_, happlied, ht.gate, ht.request, ht.value, ?_, fun hst => ht.fan hf (ht.held hst), ht.slot,
      ht.only⟩, (ht.report hf).trans rfl, fun hn => absurd ⟨hf, hst⟩ hn⟩
    · rw [hrec, State.tripRecord, hcount, hown, hst]
      rfl
    · by_cases hl : (s.chRec c).protect = .latch ∨ (s.chRec c).retryLimit ≤ count
      · rw [if_pos hl]
        cases hp : (s.chan c).present with
        | true => exact (ht.latches (hlatches.mpr hl) (Bool.eq_false_iff.mpr (by simp [hfree, hp]))).1
        | false => exact (ht.frees (Bool.and_eq_true_iff.mpr ⟨hlatches.mpr hl, hfree.mpr hp⟩)).1
      · rw [if_neg hl]
        exact (ht.cools (Bool.eq_false_iff.mpr (mt hlatches.mp hl))).1
  · have hdiscard : s.stallReport = s.setFan { s.fan with report := none } := by
      refine s.stallReport_discard fun d hd hf hst => ha ?_
      obtain rfl : c = d := Option.some.inj (hr.symm.trans hd)
      exact ⟨State.isFan_iff.mp hf, hst⟩
    rw [hdiscard]
    exact ⟨fun h => absurd h ha, rfl, fun _ => rfl⟩

end

section
/-! SUPPORT. A cool-off that expires (R78, R162, R167): when it comes, what the admission test leaves of a channel's trip
count and cool-off, and how the fan that leaves FAULTED follows its channel's admission. -/

namespace Sys2Proof.Machine
open Sys2Proof

/-! ### When a cool-off expires -/

theorem State.coolOffDue_iff (s : State) (c : Channel) :
    s.coolOffDue c = true ↔ s.running = true ∧ (s.chan c).st = .cooling ∧ (s.chan c).coolOff = some 0 := by
  simp [State.coolOffDue, and_assoc]

theorem State.coolOffEarly_iff (s : State) (c : Channel) :
    s.coolOffEarly c = true ↔
      s.running = true ∧ (s.clock = .awaiting ∨ s.clock = .step 249 ∧ s.conversionDue = false) ∧
        (s.chan c).st = .cooling ∧ (s.chan c).coolOff = some 1 := by
  simp [State.coolOffEarly, ← State.boundary_iff, and_assoc]

/-! ### What every admission keeps -/

/-- What the protection unit keeps of a channel: its trip count and cool-off timer (R72, R78). -/
def Chan.tally (ch : Chan) : Nat × Option Nat := (ch.trips, ch.coolOff)

theorem State.FanWrites.tally {s t : State} (h : s.FanWrites t) (d : Channel) : (t.chan d).tally = (s.chan d).tally := by
  obtain ⟨n, src, e, hd⟩ := h.own d
  rw [hd]
  rfl

/-- What goes through each admission goes through the admission test. -/
theorem State.admitHeads_induct {P : State → Prop}
    (hone : ∀ (t : State) (d : Channel), d ∈ t.queued → P t → P (t.admitOne d))
    {s : State} (hs : P s) : P s.admitHeads := by
  unfold State.admitHeads
  generalize s.queue.length = n
  induction n generalizing s with
  | zero => exact hs
  | succ n ih =>
    unfold admitLoop
    split
    · exact hs
    · rename_i d _ _ hq
      split
      · exact ih (hone s d (by simp [State.queued, hq]) hs)
      · exact hs

theorem State.admitIfNewHead_induct {P : State → Prop}
    (hone : ∀ (t : State) (d : Channel), d ∈ t.queued → P t → P (t.admitOne d)) {s : State} (hs : P s)
    (x : Option (Channel × Urgency)) : P (s.admitIfNewHead x) := by
  unfold State.admitIfNewHead
  split
  · exact hs
  · exact State.admitHeads_induct hone hs

theorem State.admitOne_writes (s : State) (c : Channel) : (s.admitted c).FanWrites (s.admitOne c) := by
  rw [State.admitOne_eq]
  exact .ifFan c (s.fanAdmitted_writes _ c)

theorem State.admitOne_tally (s : State) (c d : Channel) : ((s.admitOne c).chan d).tally = (s.chan d).tally := by
  rw [(s.admitOne_writes c).tally, State.admitted_chan]
  split
  · rename_i hcd
    subst hcd
    rfl
  · rfl

theorem State.join_tally (s : State) (c d : Channel) : ((s.join c).chan d).tally = (s.chan d).tally := by
  have hjoined : ((s.joined c).chan d).tally = (s.chan d).tally := by
    rw [State.joined_chan]
    split
    · rename_i hcd
      subst hcd
      rfl
    · rfl
  rw [State.join_eq]
  exact State.admitIfNewHead_induct (P := fun t => (t.chan d).tally = (s.chan d).tally)
    (fun t e _ ht => (t.admitOne_tally e d).trans ht) hjoined _

/-! ### The fan that follows its channel's admission -/

/-- A fan that neither starts nor kicks takes no notice of an admission (R162). -/
theorem State.fanAdmitted_resting {s t : State} {c : Channel} (h1 : t.fan.st ≠ .starting) (h2 : t.fan.st ≠ .kick) :
    s.fanAdmitted c t = t := by
  unfold State.fanAdmitted
  split
  · exact if_neg fun h => h.elim h2 h1
  · exact if_neg h1

theorem State.admitOne_resting {s : State} (h1 : s.fan.st ≠ .starting) (h2 : s.fan.st ≠ .kick) (c : Channel) :
    (s.admitOne c).fan = s.fan := by
  rw [← s.admitted_fan c] at h1 h2 ⊢
  rw [State.admitOne_eq]
  unfold State.ifFan
  split
  · rw [State.fanAdmitted_resting h1 h2]
  · rfl

theorem State.join_resting {s : State} (h1 : s.fan.st ≠ .starting) (h2 : s.fan.st ≠ .kick) (c : Channel) :
    (s.join c).fan = s.fan := by
  rw [State.join_eq]
  refine State.admitIfNewHead_induct (P := fun t => t.fan = s.fan) (fun t d _ ht => ?_) (s := s.joined c) rfl _
  rw [State.admitOne_resting (by rwa [ht]) (by rwa [ht]), ht]

/-- A fan that has started from FAULTED, with its channel `c` OFF, WAITING or admitted: it is in KICK with the channel in
INRUSH, in RAMP with it in RUN, else in STARTING, and its demand is the kick duty until it ramps (R162). -/
structure State.FanStarts (s : State) (c : Channel) (kick : Nat) : Prop where
  channel : s.fanChannel = some c
  duty : s.cfg.fan.kickDuty = kick
  idle : c ∈ s.queued → (s.chan c).st ≠ .inrush ∧ (s.chan c).st ≠ .run
  st : s.fan.st = if (s.chan c).st = .inrush then .kick else if (s.chan c).st = .run then .ramp else .starting
  demand : (s.chan c).st ≠ .run → (s.chan c).demand = kick

theorem State.admitOne_out (s : State) (c : Channel) : c ∉ (s.admitOne c).queued := by
  unfold State.queued
  rw [(s.admitOne_writes c).queue, State.admitted_queue]
  exact fun h => (State.mem_dequeue.mp h).2 rfl

/-- The fan channel admitted with the fan in STARTING (R162). -/
theorem State.admitOne_starts {s : State} {c : Channel} (hc : s.fanChannel = some c) (hst : s.fan.st = .starting) :
    (s.admitOne c).fan.st = (if s.inrushTime c = 0 then .ramp else .kick) ∧
      (s.inrushTime c ≠ 0 → ((s.admitOne c).chan c).demand = s.cfg.fan.kickDuty) := by
  have hchannel : (s.admitted c).fanChannel = some c := (State.fanChannel_congr (s.admitted_cfg c)).trans hc
  have hst' : (s.admitted c).fan.st = .starting := by rw [State.admitted_fan, hst]
  rw [State.admitOne_eq, State.ifFan_fan (State.isFan_iff.mpr hchannel)]
  unfold State.fanAdmitted
  by_cases h0 : s.inrushTime c = 0
  · rw [if_pos h0, if_pos h0, (State.fanSawRun_ramps hchannel (.inr hst')).1]
    exact ⟨rfl, fun h => absurd h0 h⟩
  · rw [if_neg h0, if_neg h0, State.fanSawInrush, if_pos hst', State.fanKick, State.setFan_fanWrite_fan,
      State.setFan_fanWrite_own hchannel, State.admitted_cfg]
    exact ⟨rfl, fun _ => rfl⟩

theorem State.FanStarts.admitOne {s : State} {c : Channel} {kick : Nat} (h : s.FanStarts c kick) {d : Channel}
    (hd : d ∈ s.queued) : (s.admitOne d).FanStarts c kick := by
  have ha := State.Admits.admitOne hd
  have hchannel : (s.admitOne d).fanChannel = some c := (State.fanChannel_congr ha.cfg).trans h.channel
  have hduty : (s.admitOne d).cfg.fan.kickDuty = kick := by rw [ha.cfg, h.duty]
  by_cases hcd : c = d
  · subst hcd
    have hst : s.fan.st = .starting := by rw [h.st, if_neg (h.idle hd).1, if_neg (h.idle hd).2]
    have hown := ha.moves c hd (State.admitOne_out s c)
    obtain ⟨hfan, hdemand⟩ := State.admitOne_starts h.channel hst
    rw [← h.duty]
    refine ⟨hchannel, by rw [ha.cfg], fun hc => absurd hc (State.admitOne_out s c), ?_, fun hne => ?_⟩
    · rw [hfan, hown.1]
      unfold State.admittedSt
      split <;> rfl
    · refine hdemand fun h0 => hne ?_
      rw [hown.1]
      exact if_pos h0
  · have hnf : (s.admitted d).isFan d = false := by
      rw [State.isFan_false_iff, State.fanChannel_congr (s.admitted_cfg d), h.channel]
      exact fun he => hcd (Option.some.inj he)
    have heq : s.admitOne d = s.admitted d := by rw [State.admitOne_eq, State.ifFan_notFan hnf]
    have hown : (s.admitOne d).chan c = s.chan c := by rw [heq, State.admitted_chan, if_neg (Ne.symm hcd)]
    refine ⟨hchannel, hduty, fun hc => ?_, ?_, ?_⟩
    · rw [hown]
      exact h.idle (ha.queued hc)
    · rw [hown, heq, State.admitted_fan, h.st]
    · rw [hown]
      exact h.demand

theorem State.FanStarts.join {s : State} {c : Channel} {kick : Nat} (h : s.FanStarts c kick)
    (hoff : (s.chan c).st = .off) :
    (s.join c).FanStarts c kick := by
  have hown : (s.joined c).chan c = { s.chan c with st := .waiting } := by rw [State.joined_chan, if_pos rfl]
  rw [State.join_eq]
  refine State.admitIfNewHead_induct (P := fun t => t.FanStarts c kick) (fun t d hd ht => ht.admitOne hd) ?_ _
  refine ⟨h.channel, h.duty, fun _ => ?_, ?_, fun _ => ?_⟩
  · rw [hown]
    exact ⟨nofun, nofun⟩
  · rw [hown]
    change s.fan.st = .starting
    rw [h.st, hoff]
    rfl
  · rw [hown]
    exact h.demand (by rw [hoff]; decide)

/-! ### What an expiry does -/

/-- The record of a channel whose cool-off has expired, before it joins the queue (R78). -/
def Chan.cooled (ch : Chan) : Chan := { ch with st := .off, coolOff := none }

/-- The channel in OFF with the fan unit told (R78, R167). -/
def State.cooled (s : State) (c : Channel) : State := (s.modChan c Chan.cooled).ifFan c State.fanSawRelease

/-- The channel joins the admission queue as its cool-off expires (R78). -/
def State.rejoins (s : State) (c : Channel) : Bool :=
  (s.chan c).demand != 0 && (s.chan c).source == .steady && ((s.chRec c).kind == .lamp || (s.chRec c).kind == .motor)

theorem State.rejoins_iff (s : State) (c : Channel) : s.rejoins c = true ↔
    (s.chan c).demand ≠ 0 ∧ (s.chan c).source = .steady ∧ ((s.chRec c).kind = .lamp ∨ (s.chRec c).kind = .motor) := by
  simp [State.rejoins, and_assoc]

theorem State.coolOffExpire_eq (s : State) (c : Channel) :
    s.coolOffExpire c = if s.rejoins c then (s.cooled c).join c else s.cooled c := rfl

theorem State.coolOffExpire_only (s : State) (c : Channel) :
    let t := s.coolOffExpire c
    t = { s with chans := t.chans, queue := t.queue, window := t.window, fan := t.fan } :=
  let t := s.coolOffExpire c
  s.coolOffExpire_keep (fun y => { y with chans := t.chans, queue := t.queue, window := t.window, fan := t.fan })
    (fun _ _ => rfl) (fun _ _ => rfl) (fun _ _ => rfl) (fun _ _ => rfl) c

section
variable (s : State) (c : Channel)

theorem State.cooled_writes : (s.modChan c Chan.cooled).FanWrites (s.cooled c) := .ifFan c (.fanSawRelease _)

/-- The channel's own record; a fan that leaves FAULTED may have written its demand. -/
theorem State.cooled_own : ∃ n src e,
    (s.cooled c).chan c = { (s.chan c).cooled with demand := n, source := src, onEdge := e } := by
  obtain ⟨n, src, e, hc⟩ := (s.cooled_writes c).own c
  exact ⟨n, src, e, by rw [hc, State.chan_modChan, if_pos rfl]⟩

theorem State.cooled_queue : (s.cooled c).queue = s.queue := (s.cooled_writes c).queue

theorem State.cooled_off : ((s.cooled c).chan c).st = .off := by
  obtain ⟨n, src, e, hc⟩ := s.cooled_own c
  rw [hc]
  rfl

theorem State.coolOffExpire_tally : ((s.coolOffExpire c).chan c).tally = ((s.chan c).trips, none) := by
  have hcooled : ((s.cooled c).chan c).tally = ((s.chan c).trips, none) := by
    obtain ⟨n, src, e, hc⟩ := s.cooled_own c
    rw [hc]
    rfl
  rw [State.coolOffExpire_eq]
  split
  · rw [State.join_tally, hcooled]
  · exact hcooled

theorem State.coolOffExpire_drive : ((s.coolOffExpire c).chan c).drive = (s.chan c).drive := by
  have hcooled : ((s.cooled c).chan c).drive = (s.chan c).drive := by
    obtain ⟨n, src, e, hc⟩ := s.cooled_own c
    rw [hc]
    rfl
  rw [State.coolOffExpire_eq]
  split
  · rw [((s.cooled c).join_admits c).drive, State.joined_chan, if_pos rfl]
    exact hcooled
  · exact hcooled

/-- A channel that rejoins waits in the queue or is admitted (R63, R78). -/
theorem State.cooled_join : (((s.cooled c).join c).chan c).st = .waiting ∧ c ∈ ((s.cooled c).join c).queued ∨
    (((s.cooled c).join c).chan c).st = s.admittedSt c ∧ c ∉ ((s.cooled c).join c).queued := by
  have ha := (s.cooled c).join_admits c
  by_cases hc : c ∈ ((s.cooled c).join c).queued
  · refine .inl ⟨?_, hc⟩
    rw [ha.stays c fun _ => hc, State.joined_chan, if_pos rfl]
  · exact .inr ⟨(ha.moves c (State.mem_joined.mpr (.inl rfl)) hc).1.trans
      (State.Admits.admittedSt_congr (t := (s.cooled c).joined c) (s.cooled_writes c).cfg c), hc⟩

/-- A channel that is neither queued nor the fan's stands. -/
theorem State.coolOffExpire_other {d : Channel} (hd : d ≠ c) (hf : s.fanChannel ≠ some d) (hq : d ∉ s.queued) :
    (s.coolOffExpire c).chan d = s.chan d := by
  have hcooled : (s.cooled c).chan d = s.chan d := by
    rw [(s.cooled_writes c).others d hf, State.chan_modChan, if_neg hd.symm]
  have hout : d ∉ (s.cooled c).queued := (s.cooled_writes c).queued ▸ hq
  rw [State.coolOffExpire_eq]
  split
  · cases State.Fate.join (s := s.cooled c) (c := d) (d := c) hd.symm with
    | outside _ _ hchan => rw [hchan, hcooled]
    | waits hs => exact absurd hs hout
    | admitted hs => exact absurd hs hout
  · exact hcooled

end

section
variable {s : State} {c : Channel} (hc : s.fanChannel = some c) (hst : s.fan.st = .faulted)
include hc hst

/-- The fan leaves FAULTED with its channel's cool-off (R167). -/
theorem State.cooled_fan : (s.cooled c).fan = s.fanFreed ∧ ((s.cooled c).chan c).demand = s.faultedDemand := by
  have hchannel : (s.modChan c Chan.cooled).fanChannel = some c := hc
  rw [State.cooled, State.ifFan_fan (State.isFan_iff.mpr hchannel),
    State.fanSawRelease_faulted (s := s.modChan c Chan.cooled) hst,
    State.setFan_fanWrite_fan, State.setFan_fanWrite_own hchannel]
  exact ⟨rfl, rfl⟩

/-- A fan that does not start stands as it left FAULTED (R161, R165). -/
theorem State.coolOffExpire_rests (h : s.fanFreed.st ≠ .starting) (hk : s.fanFreed.st ≠ .kick) :
    (s.coolOffExpire c).fan = s.fanFreed := by
  have hfan := (State.cooled_fan hc hst).1
  rw [State.coolOffExpire_eq]
  split
  · rw [State.join_resting (by rwa [hfan]) (by rwa [hfan]), hfan]
  · exact hfan

/-- A fan with T above 0 in NORMAL starts, and follows its channel's admission (R162). -/
theorem State.coolOffExpire_starts (hq : c ∉ s.queued) (ht : s.fan.target ≠ 0) (hk : s.sup.crank = .normal) :
    (s.coolOffExpire c).FanStarts c s.cfg.fan.kickDuty := by
  have hoff := s.cooled_off c
  obtain ⟨hfan, hdemand⟩ := State.cooled_fan hc hst
  have hcfg : (s.cooled c).cfg = s.cfg := (s.cooled_writes c).cfg
  have hstarts : (s.cooled c).FanStarts c s.cfg.fan.kickDuty := by
    refine ⟨(State.fanChannel_congr hcfg).trans hc, by rw [hcfg], fun hm => ?_, ?_, fun _ => ?_⟩
    · exact absurd ((s.cooled_writes c).queued ▸ hm) hq
    · rw [hfan, hoff, State.fanFreed_starting ht hk]
      rfl
    · rw [hdemand, State.faultedDemand_crank, if_pos ⟨ht, hk⟩]
  rw [State.coolOffExpire_eq]
  split
  · exact hstarts.join hoff
  · exact hstarts

end

end Sys2Proof.Machine

open Sys2Proof Sys2Proof.Machine

/-- Settles O24: the moments by `coolOffDue` and `coolOffEarly`; the channel goes through `State.cooled` and a join, and
the fan through `State.FanStarts`. -/
theorem coolOffExpires : Obligations.CoolOffExpires := by
  unfold Obligations.CoolOffExpires
  intro c s expired expires rejoins
  have hdue : (s.coolOffDue c || s.coolOffEarly c) = true ↔ expired ∨ expires := by
    rw [Bool.or_eq_true, State.coolOffDue_iff, State.coolOffEarly_iff]
  have hexec : exec (.coolOffExpiry c) s = .next (if s.coolOffDue c || s.coolOffEarly c then s.coolOffExpire c else s) := rfl
  refine ⟨fun h1 h2 => ?_, fun h hq => ⟨s.coolOffExpire c, ?_, s.coolOffExpire_only c, ?_⟩⟩
  · rw [hexec, if_neg fun hd => (hdue.mp hd).elim h1 h2]
  · rw [hexec, if_pos (hdue.mpr h)]
  have hst : (s.chan c).st = .cooling := h.elim (fun h => h.2.1) fun h => h.2.2.1
  have hout : c ∉ s.queued := fun hm => by
    rw [(hq.2.1 c).mp hm] at hst
    cases hst
  obtain ⟨htrips, hcool⟩ := Prod.mk.inj (s.coolOffExpire_tally c)
  obtain ⟨happlied, -⟩ := Prod.mk.inj (s.coolOffExpire_drive c)
  have hjoin (hr : rejoins) : s.coolOffExpire c = (s.cooled c).join c := by
    rw [State.coolOffExpire_eq, if_pos ((s.rejoins_iff c).mpr hr)]
  refine ⟨hcool, htrips, happlied, fun hr => ?_, fun hr hne hstop => ?_, fun hr => ?_,
    fun hc hfan => ⟨fun ht => ?_, fun ht hk => ?_, fun ht hk => ?_⟩, fun d hd hf hw => ?_⟩
  · rw [State.coolOffExpire_eq, if_neg (mt (s.rejoins_iff c).mp hr)]
    exact ⟨s.cooled_off c, s.cooled_queue c, (s.cooled_writes c).window⟩
  · have hstop' : ((s.cooled c).chan c).stop = false := by
      obtain ⟨n, src, e, hown⟩ := s.cooled_own c
      rw [hown]
      exact hstop
    rw [hjoin hr, State.join_normal (by rwa [State.cooled_queue]) hstop', ← s.cooled_queue c]
    refine ⟨?_, rfl, (s.cooled_writes c).window⟩
    exact congrArg Chan.st ((State.chan_setChan ..).trans (if_pos rfl))
  · rw [hjoin hr]
    exact s.cooled_join c
  · have hfreed := State.fanFreed_stopped ht
    rw [State.coolOffExpire_rests hc hfan (by rw [hfreed]; nofun) (by rw [hfreed]; nofun), hfreed]
    exact ⟨rfl, rfl⟩
  · have hfreed := State.fanFreed_suspended ht hk
    rw [State.coolOffExpire_rests hc hfan (by rw [hfreed]; nofun) (by rw [hfreed]; nofun), hfreed]
    exact ⟨rfl, rfl⟩
  · have hs := State.coolOffExpire_starts hc hfan hout ht hk
    exact ⟨hs.st, hs.demand⟩
  · exact s.coolOffExpire_other c hd hf fun hm => hw ((hq.2.1 d).mp hm)

end

section
/-! SUPPORT. CLEAR of channels and of events (R80, R81, R177, R181): the releases, channel by channel. -/

namespace Sys2Proof.Machine
open Sys2Proof

/-! ### One release -/

/-- The fan unit leaves FAULTED as the channel is released (R167). -/
def State.FanLeaves (s : State) (c : Channel) : Prop := s.fanChannel = some c ∧ s.fan.st = .faulted

theorem State.release_leaves {s : State} {c : Channel} (h : s.FanLeaves c) :
    (s.release c).fan = s.fanFreed ∧ (s.release c).chan c = { (s.chan c).released with
      demand := s.faultedDemand, source := .steady, onEdge := false } := by
  obtain ⟨hc, hst⟩ := h
  have hchannel : (s.modChan c Chan.released).fanChannel = some c := hc
  rw [State.release_eq, State.ifFan_fan (State.isFan_iff.mpr hchannel),
    State.fanSawRelease_faulted (s := s.modChan c Chan.released) hst, State.setFan_fanWrite_fan,
    State.setFan_fanWrite_own hchannel, State.chan_modChan, if_pos rfl]
  exact ⟨rfl, rfl⟩

theorem State.release_stays {s : State} {c : Channel} (h : ¬ s.FanLeaves c) : s.release c = s.modChan c Chan.released := by
  have hchannel : (s.modChan c Chan.released).fanChannel = s.fanChannel := rfl
  rw [State.release_eq]
  by_cases hc : s.fanChannel = some c
  · rw [State.ifFan_fan (State.isFan_iff.mpr (hchannel.trans hc))]
    exact State.fanSawRelease_same fun hst => h ⟨hc, hst⟩
  · exact State.ifFan_notFan (State.isFan_false_iff.mpr fun he => hc (hchannel.symm.trans he)) _

theorem State.release_other {s : State} {c d : Channel} (hd : d ≠ c) : (s.release c).chan d = s.chan d := by
  have hmod : (s.modChan c Chan.released).chan d = s.chan d := by rw [State.chan_modChan, if_neg hd.symm]
  by_cases hf : s.FanLeaves c
  · rw [(State.FanWrites.release s c).others d, hmod]
    exact fun he => hd (Option.some.inj (he.symm.trans hf.1))
  · rw [State.release_stays hf, hmod]

/-! ### A list of channels -/

/-- An octet of a CLEAR names a channel (R177). -/
def NamesChannel (l : List Byte) (c : Channel) : Prop := ∃ b ∈ l, Channel.ofNat? b.toNat = some c

/-- `t` is `s` with the LATCHED channels that `l` names released (R80, R81). -/
structure State.Cleared (s : State) (l : List Byte) (t : State) : Prop where
  stands : ∀ c : Channel, ¬ ((s.chan c).st = .latched ∧ NamesChannel l c) → t.chan c = s.chan c
  released : ∀ c : Channel, (s.chan c).st = .latched → NamesChannel l c → ¬ s.FanLeaves c →
    t.chan c = (s.chan c).released
  leaves : ∀ c : Channel, (s.chan c).st = .latched → NamesChannel l c → s.FanLeaves c →
    t.fan = s.fanFreed ∧ t.chan c = { (s.chan c).released with
      demand := s.faultedDemand, source := .steady, onEdge := false }
  fan : (∀ c : Channel, (s.chan c).st = .latched → NamesChannel l c → ¬ s.FanLeaves c) → t.fan = s.fan
  only : t = { s with chans := t.chans, fan := t.fan }

namespace State.Cleared

variable {s t : State} {l : List Byte} {b : Byte} {c : Channel}

theorem nil (s : State) : s.Cleared [] s where
  stands _ _ := rfl
  released _ _ h := by simp [NamesChannel] at h
  leaves _ _ h := by simp [NamesChannel] at h
  fan _ := rfl
  only := rfl

theorem names_concat {d : Channel} : NamesChannel (l ++ [b]) d ↔ NamesChannel l d ∨ Channel.ofNat? b.toNat = some d := by
  simp [NamesChannel, or_and_right, exists_or]

/-- A channel that still is LATCHED has not been named, and stands as it did. -/
theorem latched (h : s.Cleared l t) (hst : (t.chan c).st = .latched) :
    (s.chan c).st = .latched ∧ ¬ NamesChannel l c := by
  by_cases hr : (s.chan c).st = .latched ∧ NamesChannel l c
  · by_cases hf : s.FanLeaves c
    · rw [(h.leaves c hr.1 hr.2 hf).2] at hst
      cases hst
    · rw [h.released c hr.1 hr.2 hf] at hst
      cases hst
  · rw [h.stands c hr] at hst
    exact ⟨hst, fun hn => hr ⟨hst, hn⟩⟩

/-- An octet that releases no channel adds nothing. -/
theorem skip (h : s.Cleared l t) (hb : ∀ c : Channel, Channel.ofNat? b.toNat = some c → (t.chan c).st ≠ .latched) :
    s.Cleared (l ++ [b]) t := by
  have hnames (d : Channel) (hst : (s.chan d).st = .latched) : NamesChannel (l ++ [b]) d ↔ NamesChannel l d := by
    rw [names_concat]
    refine or_iff_left_of_imp fun hd => ?_
    by_contra hn
    exact hb d hd (by rw [h.stands d fun hx => hn hx.2, hst])
  exact {
    stands d hd := h.stands d fun hx => hd ⟨hx.1, (hnames d hx.1).mpr hx.2⟩
    released d hst hn hf := h.released d hst ((hnames d hst).mp hn) hf
    leaves d hst hn hf := h.leaves d hst ((hnames d hst).mp hn) hf
    fan hf := h.fan fun d hst hn => hf d hst ((hnames d hst).mpr hn)
    only := h.only }

/-- An octet that names a LATCHED channel releases it. -/
theorem release (h : s.Cleared l t) (hb : Channel.ofNat? b.toNat = some c) (hst : (t.chan c).st = .latched) :
    s.Cleared (l ++ [b]) (t.release c) := by
  obtain ⟨hlatched, hnot⟩ := h.latched hst
  have hown : t.chan c = s.chan c := h.stands c fun hx => hnot hx.2
  have hnames (d : Channel) : NamesChannel (l ++ [b]) d ↔ NamesChannel l d ∨ c = d := by
    rw [names_concat, hb, Option.some.injEq]
  have hchannel : t.fanChannel = s.fanChannel := State.fanChannel_congr (by rw [h.only])
  have hunnamed (hc : s.fanChannel = some c) : t.fan = s.fan := h.fan fun d _ hn hf => by
    obtain rfl : c = d := Option.some.inj (hc.symm.trans hf.1)
    exact hnot hn
  have hleaves : t.FanLeaves c ↔ s.FanLeaves c := by
    unfold State.FanLeaves
    rw [hchannel]
    exact and_congr_right fun hc => by rw [hunnamed hc]
  have hother {d : Channel} (hd : d ≠ c) : (t.release c).chan d = t.chan d := State.release_other hd
  refine ⟨fun d hd => ?_, fun d hsd hn hf => ?_, fun d hsd hn hf => ?_, fun hf => ?_, ?_⟩
  · have hne : d ≠ c := fun he => hd ⟨he ▸ hlatched, (hnames d).mpr (.inr he.symm)⟩
    rw [hother hne]
    exact h.stands d fun hx => hd ⟨hx.1, (hnames d).mpr (.inl hx.2)⟩
  · by_cases hd : d = c
    · subst hd
      rw [State.release_stays (mt hleaves.mp hf), State.chan_modChan, if_pos rfl, hown]
    · rw [hother hd]
      exact h.released d hsd (((hnames d).mp hn).resolve_right (Ne.symm hd)) hf
  · by_cases hd : d = c
    · subst hd
      have hfan := hunnamed hf.1
      obtain ⟨hfreed, hchan⟩ := State.release_leaves (hleaves.mpr hf)
      rw [hfreed, hchan, hown]
      unfold State.fanFreed State.faultedDemand State.cranking
      rw [hfan, h.only]
      exact ⟨rfl, rfl⟩
    · have hstays : ¬ t.FanLeaves c := fun hx => hd (Option.some.inj (hf.1.symm.trans (hleaves.mp hx).1))
      rw [State.release_stays hstays, State.chan_modChan, if_neg (Ne.symm hd)]
      exact h.leaves d hsd (((hnames d).mp hn).resolve_right (Ne.symm hd)) hf
  · rw [State.release_stays fun hx => hf c hlatched ((hnames c).mpr (.inr rfl)) (hleaves.mp hx)]
    exact h.fan fun d hsd hn => hf d hsd ((hnames d).mpr (.inl hn))
  · have honly := h.only
    generalize hu : t.release c = u
    have hkeep : u = { t with chans := u.chans, fan := u.fan } := by
      subst hu
      exact State.release_keep (fun x => { x with chans := (t.release c).chans, fan := (t.release c).fan })
        (fun _ _ => rfl) (fun _ _ => rfl) t c
    rw [hkeep, honly]

theorem clearChannel (h : s.Cleared l t) (b : Byte) : s.Cleared (l ++ [b]) (t.clearChannel b) := by
  unfold State.clearChannel
  split
  next hb => exact h.skip fun c hc => by rw [hb] at hc; cases hc
  next c hb =>
    split
    next hst => exact h.release hb hst
    next hst =>
      refine h.skip fun d hd => ?_
      obtain rfl : c = d := Option.some.inj (hb.symm.trans hd)
      exact hst

theorem clearChannels (s : State) (l : List Byte) : s.Cleared l (l.foldl State.clearChannel s) := by
  induction l using List.reverseRecOn with
  | nil => exact nil s
  | append_singleton l b ih =>
    rw [List.foldl_append]
    exact ih.clearChannel b

/-- What the CLEAR makes of one channel, and of the fan if it is the fan channel (R80, R81, R167). -/
theorem channel (h : s.Cleared l t) (c : Channel) :
    let released := (s.chan c).st = .latched ∧ ∃ b ∈ l, Channel.ofNat? b.toNat = some c
    let fanLeaves := released ∧ s.fanChannel = some c ∧ s.fan.st = .faulted
    (¬ released → t.chan c = s.chan c) ∧
      (released → ¬ fanLeaves → t.chan c = { s.chan c with st := .off, trips := 0 }) ∧
      (fanLeaves → t.chan c = { s.chan c with
        st := .off, trips := 0, source := .steady, onEdge := false,
        demand := if s.fan.target ≠ 0 ∧ s.sup.crank = .normal then s.cfg.fan.kickDuty else 0 }) ∧
      (fanLeaves → s.fan.target = 0 → t.fan = { s.fan with st := .stopped, ramp := 0, stallRun := 0 }) ∧
      (fanLeaves → s.fan.target ≠ 0 → s.sup.crank = .crank →
        t.fan = { s.fan with st := .suspended, ramp := 0, stallRun := 0 }) ∧
      (fanLeaves → s.fan.target ≠ 0 → s.sup.crank = .normal → t.fan = { s.fan with st := .starting, stallRun := 0 }) ∧
      (s.fanChannel = some c → ¬ fanLeaves → t.fan = s.fan) := by
  intro released fanLeaves
  have hfreed (hf : fanLeaves) : t.fan = s.fanFreed := (h.leaves c hf.1.1 hf.1.2 hf.2).1
  refine ⟨h.stands c, fun hr hf => h.released c hr.1 hr.2 fun hx => hf ⟨hr, hx⟩, fun hf => ?_,
    fun hf ht => (hfreed hf).trans (State.fanFreed_stopped ht),
    fun hf ht hk => (hfreed hf).trans (State.fanFreed_suspended ht hk),
    fun hf ht hk => (hfreed hf).trans (State.fanFreed_starting ht hk), fun hc hf => ?_⟩
  · rw [(h.leaves c hf.1.1 hf.1.2 hf.2).2, State.faultedDemand_crank]
    rfl
  · refine h.fan fun d hst hn hx => hf ?_
    obtain rfl : c = d := Option.some.inj (hc.symm.trans hx.1)
    exact ⟨⟨hst, hn⟩, hx⟩

end State.Cleared

/-! ### The items -/

section
variable {s : State} {p : Port} {f : Frame} {r : Run}

theorem Executing.exec_clearChannels {list : List Byte} (h : Executing s p f r (.clearChannels list)) :
    exec (.clearChannels p) s = .next (s.clearChannelsItem p f.slot list) := by
  simp [exec, execClearChannels, h.itemOn]

theorem Executing.exec_clearEvents {low high : Byte} (h : Executing s p f r (.clearEvents low high)) :
    exec (.clearEvents p) s = .next (s.clearEventsItem p f.slot low high) := by
  simp [exec, execClearEvents, h.itemOn]

theorem unusedBits_iff (high : Byte) : high.extractLsb' 1 7 = 0#7 ↔ high.toNat < 2 := by
  rw [← BitVec.toNat_inj, BitVec.extractLsb'_toNat, Nat.shiftRight_eq_div_pow]
  have := high.isLt
  simp
  omega

theorem eventSet_octets (low high : Byte) : high.extractLsb' 0 1 ++ low = (high ++ low).extractLsb' 0 9 := by
  refine BitVec.eq_of_getLsbD_eq fun i hi => ?_
  have happend : (high.extractLsb' 0 1 ++ low).getLsbD i =
      if i < 8 then low.getLsbD i else (high.extractLsb' 0 1).getLsbD (i - 8) := BitVec.getLsbD_append
  have hbit : i - 8 < 1 := by omega
  rw [happend, BitVec.getLsbD_extractLsb', BitVec.getLsbD_extractLsb', BitVec.getLsbD_append]
  simp [hi, hbit]

end

end Sys2Proof.Machine

open Sys2Proof Sys2Proof.Machine

/-- Settles O57: the releases by `State.Cleared`, the answers by `Executing.answerStatus`. -/
theorem clearsTakeEffect : Obligations.ClearsTakeEffect := by
  unfold Obligations.ClearsTakeEffect
  intro p f r list low high s
  refine ⟨fun h => ⟨_, h.exec_clearChannels, ?_⟩, fun h => ⟨_, h.exec_clearEvents, ?_⟩⟩
  · unfold State.clearChannelsItem
    cases hright : (s.slotRec f.slot).rights.clear with
    | false =>
      have href := h.refused .notPermitted
      exact ⟨fun _ => href, nofun, nofun, by rw [if_pos rfl, href.1]⟩
    | true =>
      by_cases hall : (list.all fun b => (Channel.ofNat? b.toNat).isSome) = true
      · rw [if_neg (by decide), if_pos hall]
        have hknown := fun b hb => Option.isSome_iff_ne_none.mp (List.all_eq_true.mp hall b hb)
        have hclear := State.Cleared.clearChannels s list
        generalize list.foldl State.clearChannel s = u at hclear
        obtain ⟨hans, honly⟩ := h.answerStatus (u := u) (by rw [hclear.only]) .ok
        generalize u.answerStatus p .ok = t at hans honly
        have hchan (c : Channel) : t.chan c = u.chan c := State.chan_congr (by rw [honly]) c
        have hfan : t.fan = u.fan := by rw [honly]
        refine ⟨nofun, fun _ ⟨b, hb, hn⟩ => absurd hn (hknown b hb), fun _ _ =>
          ⟨(answeredWith_iff (by decide)).mp hans, fun c => ?_, fun hc => ?_⟩, ?_⟩
        · rw [hchan, hfan]
          exact hclear.channel c
        · rw [hfan]
          exact hclear.fan fun d _ _ hx => by cases hc.symm.trans hx.1
        · rw [honly, hclear.only]
      · rw [if_neg (by decide), if_neg hall]
        have href := h.refused .badItem
        refine ⟨nofun, fun _ _ => href, fun _ hk => absurd ?_ hall, by rw [href.1]⟩
        exact List.all_eq_true.mpr fun b hb => Option.isSome_iff_ne_none.mpr (hk b hb)
  · unfold State.clearEventsItem
    by_cases hb : high.toNat < 2
    · rw [if_pos ((unusedBits_iff high).mpr hb), eventSet_octets]
      generalize hv : { s.slot f.slot with
        pending := (s.slot f.slot).pending &&& ~~~((high ++ low).extractLsb' 0 9) } = v
      obtain ⟨hans, honly⟩ := h.answerStatus (u := s.setSlot f.slot v) rfl .ok
      generalize (s.setSlot f.slot v).answerStatus p .ok = t at hans honly
      have hslot (m : SlotId) : t.slot m = if f.slot = m then v else s.slot m := by
        rw [honly]
        exact s.slot_setSlot f.slot m v
      refine ⟨fun h2 => absurd hb (by omega), fun _ => ⟨?_, fun m hm => ?_, (answeredWith_iff (by decide)).mp hans⟩, ?_⟩
      · rw [hslot, if_pos rfl]
      · rw [hslot, if_neg (Ne.symm hm)]
      · rw [honly]
        rfl
    · rw [if_neg (mt (unusedBits_iff high).mp hb)]
      have href := h.refused .badValue
      refine ⟨fun _ => href, fun h2 => absurd h2 hb, ?_⟩
      rw [href.1]

end

section
/-! SUPPORT. The flash on-edge mark of a recomputed channel (R39): a recomputation writes its channel's mark, and no other
channel's but the fan's. -/

namespace Sys2Proof.Machine
open Sys2Proof

/-! ### What the output stage leaves of the marks -/

/-- Every on-edge mark stands but the fan channel's. -/
structure State.EdgesStand (s t : State) : Prop where
  cfg : t.cfg = s.cfg
  edge : ∀ c : Channel, s.isFan c = false → (t.chan c).onEdge = (s.chan c).onEdge

namespace State.EdgesStand

variable {s t u : State}

theorem refl (s : State) : s.EdgesStand s := ⟨rfl, fun _ _ => rfl⟩

theorem trans (h : s.EdgesStand t) (k : t.EdgesStand u) : s.EdgesStand u :=
  ⟨k.cfg.trans h.cfg, fun c hc => (k.edge c ((State.isFan_congr h.cfg c).trans hc)).trans (h.edge c hc)⟩

theorem ite {p : Prop} [Decidable p] (ht : s.EdgesStand t) (hu : s.EdgesStand u) :
    s.EdgesStand (if p then t else u) := by
  split
  · exact ht
  · exact hu

theorem of_fanWrites (h : s.FanWrites t) : s.EdgesStand t :=
  ⟨h.cfg, fun c hc => by rw [h.others c (State.isFan_false_iff.mp hc)]⟩

/-- A channel's record moves, its mark standing. -/
theorem modChan (s : State) (c : Channel) {f : Chan → Chan} (hf : (f (s.chan c)).onEdge = (s.chan c).onEdge) :
    s.EdgesStand (s.modChan c f) :=
  ⟨rfl, fun d _ => by
    rw [State.chan_modChan]
    split
    next h => rw [hf, h]
    next => rfl⟩

theorem admitOne (s : State) (c : Channel) : s.EdgesStand (s.admitOne c) := by
  refine .trans ⟨s.admitted_cfg c, fun d _ => ?_⟩ (of_fanWrites (s.admitOne_writes c))
  rw [State.admitted_chan]
  split
  next h =>
    subst h
    rfl
  next => rfl

theorem promote (s : State) (c : Channel) : s.EdgesStand (s.promote c) := by
  rw [State.promote_eq]
  exact ite (State.admitIfNewHead_induct (P := s.EdgesStand) (fun t d _ ht => ht.trans (admitOne t d))
    (s := s.promoted c) ⟨rfl, fun _ _ => rfl⟩ _) (refl s)

theorem releaseIfDue (s : State) (c : Channel) : s.EdgesStand (s.releaseIfDue c) :=
  ite ((modChan s c rfl).trans (of_fanWrites (.ifFan c (.fanSawRelease _)))) (refl s)

end State.EdgesStand

/-- What the output stage does on a recomputation leaves the marks as they are written. -/
theorem State.rewritten_edges (s : State) (c : Channel) : (s.rewritten c).EdgesStand (s.recompute c) := by
  rw [State.recompute_placed]
  exact .trans (.ite (.promote _ c) (.refl _)) (.releaseIfDue _ c)

/-! ### The mark of a recomputed channel -/

/-- The on-edge mark that a recomputation writes of a composed channel (R39). -/
def State.edgeRewritten (s : State) (c : Channel) : Bool :=
  if (s.composed c).1 = 250 ∧ (s.composed c).2 = .flash then (s.chan c).demand == 0 || (s.chan c).onEdge else false

theorem State.rewritten_onEdge {s : State} {d : Channel} (hd : s.composes d = true) (c : Channel) :
    ((s.rewritten c).chan d).onEdge = if d = c then s.edgeRewritten d else (s.chan d).onEdge := by
  by_cases hdc : d = c
  · subst hdc
    have hwritten : s.rewritten d = (s.writeDemand d (s.composed d).1 (s.composed d).2).modChan d fun ch =>
        { ch with stop := (s.rewrites d).2.2.1, present := (s.rewrites d).2.2.2 } := by
      simp only [State.composes, Bool.and_eq_true, Bool.or_eq_true, beq_iff_eq, Bool.not_eq_true'] at hd
      obtain ⟨hkind, hfan⟩ := hd
      rw [State.rewritten, if_neg (Bool.eq_false_iff.mp hfan)]
      rcases hkind with hkind | hkind <;> rw [hkind]
    rw [hwritten, State.chan_modChan, if_pos rfl, State.writeDemand_chan, if_pos rfl, if_pos rfl]
    rfl
  · obtain ⟨e, he⟩ := s.rewritten_only c
    rw [he, State.chan_setChan, if_neg (Ne.symm hdc), if_neg hdc]

theorem State.recompute_onEdge {s : State} {d : Channel} (hd : s.composes d = true) (c : Channel) :
    ((s.recompute c).chan d).onEdge = if d = c then s.edgeRewritten d else (s.chan d).onEdge := by
  have hcfg : (s.rewritten c).cfg = s.cfg := congrArg Prod.fst (s.rewritten_sources c)
  rw [(s.rewritten_edges c).edge d ((State.isFan_congr hcfg d).trans (State.composes_notFan hd)),
    State.rewritten_onEdge hd]

/-- The recomputation of another channel leaves what is to be written of the mark. -/
theorem State.recompute_edgeRewritten {s : State} {c d : Channel} (hc : s.composes c = true) (hcd : c ≠ d) :
    (s.recompute d).edgeRewritten c = s.edgeRewritten c := by
  have hsrc := s.recompute_sources d
  have hcomposes : (s.recompute d).composes c = true := (State.composes_congr (congrArg Prod.fst hsrc) c).trans hc
  have hcomposed : (s.recompute d).composed c = s.composed c := by
    have h := State.rewrites_congr hsrc hc
    rw [State.rewrites_composed hcomposes, State.rewrites_composed hc, Prod.ext_iff, Prod.ext_iff] at h
    exact Prod.ext h.1 h.2.1
  have hdemand : ((s.recompute d).chan c).demand = (s.chan c).demand := by
    have h := s.recompute_written d (State.composes_notFan hc)
    rw [if_neg hcd] at h
    exact congrArg Prod.fst h
  have hedge : ((s.recompute d).chan c).onEdge = (s.chan c).onEdge := by
    rw [State.recompute_onEdge hc, if_neg hcd]
  unfold State.edgeRewritten
  rw [hcomposed, hdemand, hedge]

/-- Recomputations, none of them twice, write the mark of each composed channel of the list, and of no other. -/
theorem State.recomputes_onEdge {c : Channel} {l : List Channel} (hl : l.Nodup) {s : State} (hc : s.composes c = true) :
    ((l.foldl State.recompute s).chan c).onEdge = if c ∈ l then s.edgeRewritten c else (s.chan c).onEdge := by
  induction l generalizing s with
  | nil => rfl
  | cons d l ih =>
    obtain ⟨hnot, hl⟩ := List.nodup_cons.mp hl
    have hcomposes : (s.recompute d).composes c = true :=
      (State.composes_congr (congrArg Prod.fst (s.recompute_sources d)) c).trans hc
    rw [List.foldl_cons, ih hl hcomposes, State.recompute_onEdge hc]
    by_cases hcd : c = d
    · subst hcd
      rw [if_neg hnot, if_pos rfl, if_pos List.mem_cons_self]
    · rw [State.recompute_edgeRewritten hc hcd, if_neg hcd]
      simp [hcd]

theorem State.recomputeWhere_onEdge {s : State} {c : Channel} (q : Channel → Bool) (hc : s.composes c = true) :
    ((s.recomputeWhere q).chan c).onEdge = if q c = true then s.edgeRewritten c else (s.chan c).onEdge := by
  have hnodup : allChannels.Nodup := List.nodup_finRange 16
  rw [State.recomputeWhere, State.recomputes_onEdge (hnodup.filter q) hc]
  simp [mem_allChannels]

/-- A composed channel that follows the generator, as the composer takes a change of the flash state (R34, R37, R39). -/
theorem State.composeFollowers_follower {s : State} {c : Channel} (hf : s.follows c = true) (hc : s.composes c = true) :
    (s.composeFollowers.chan c).demand = (if s.onPhase = true then 250 else 0) ∧
      (s.composeFollowers.chan c).source = .flash ∧
      (s.composeFollowers.chan c).onEdge =
        if s.onPhase = true then (s.chan c).demand == 0 || (s.chan c).onEdge else false := by
  have hwritten := State.recomputeWhere_written s.follows hc
  have hedge := State.recomputeWhere_onEdge s.follows hc
  rw [if_pos hf, State.rewrites_composed hc, State.composed_follows hf] at hwritten
  rw [if_pos hf, State.edgeRewritten, State.composed_follows hf] at hedge
  refine ⟨congrArg Prod.fst hwritten, congrArg (·.2.1) hwritten, hedge.trans ?_⟩
  cases s.onPhase <;> rfl

end Sys2Proof.Machine
end

section
/-! SUPPORT. The changes of phase of the flash generator and the test of the demand for flashing (R91, R92, R95 to R101):
when a change comes, and what it leaves. -/

namespace Sys2Proof.Machine
open Sys2Proof

/-! ### When a phase begins -/

theorem State.flashStart_iff (s : State) :
    (s.flashStartDue = true ∨ s.flashStartEarly = true) ↔
      s.running = true ∧ (s.flash.phase = .idle true true ∨ s.flash.phase = .idle true false ∧
        (s.clock = .awaiting ∨ s.clock = .step 249 ∧ s.conversionDue = false) ∧ s.flash.uncounted = false) := by
  rw [← State.boundary_iff]
  unfold State.flashStartDue State.flashStartEarly
  cases s.flash.phase with
  | idle p came => cases p <;> cases came <;> simp [and_assoc]
  | onPhase cy => simp
  | offPhase cy => simp

theorem State.onPhaseEntry_iff {s : State} {cy : Cycle} (h : s.flash.state = .offPhase → s.flash.phase = .offPhase cy) :
    (s.onDue = true ∨ s.onEarly = true) ↔
      s.running = true ∧ s.flash.phase = .offPhase cy ∧ (s.flash.ended = true ∨
        (s.clock = .awaiting ∨ s.clock = .step 249 ∧ s.conversionDue = false) ∧ s.power.wakeStart = false ∧
          s.flash.uncounted = false ∧ cy.counter + 1 = cy.offLength) := by
  rw [← State.boundary_iff]
  unfold Flash.state at h
  unfold State.onDue State.onEarly
  cases hp : s.flash.phase with
  | idle p came => simp
  | onPhase x => simp
  | offPhase x =>
    obtain rfl : x = cy := by simpa [hp] using h
    cases s.flash.ended <;> simp [and_assoc]

theorem State.offDue_iff {s : State} {cy : Cycle} :
    s.offDue = some cy ↔ s.running = true ∧ s.flash.phase = .onPhase cy ∧ s.flash.ended = true := by
  unfold State.offDue
  cases s.flash.phase with
  | onPhase x =>
    simp only [Option.ite_none_right_eq_some, Option.some.injEq, FlashPhase.onPhase.injEq]
    tauto
  | idle p came => simp
  | offPhase x => simp

theorem State.offEarly_iff {s : State} {cy : Cycle} :
    s.offEarly = some cy ↔ s.running = true ∧ s.flash.phase = .onPhase cy ∧
      (s.clock = .awaiting ∨ s.clock = .step 249 ∧ s.conversionDue = false) ∧ s.power.wakeStart = false ∧
      s.flash.uncounted = false ∧ s.flash.ended = false ∧ cy.counter + 1 = cy.onLength := by
  rw [← State.boundary_iff]
  unfold State.offEarly
  cases s.flash.phase with
  | onPhase x =>
    simp only [Option.ite_none_right_eq_some, Option.some.injEq, FlashPhase.onPhase.injEq]
    constructor
    · rintro ⟨⟨hrun, hrest⟩, rfl⟩
      exact ⟨hrun, rfl, hrest⟩
    · rintro ⟨hrun, rfl, hrest⟩
      exact ⟨⟨hrun, hrest⟩, rfl⟩
  | idle p came => simp
  | offPhase x => simp

theorem State.offPhaseEntry_iff (s : State) (cy : Cycle) :
    (s.offDue = some cy ∨ s.offEarly = some cy) ↔
      s.running = true ∧ s.flash.phase = .onPhase cy ∧ (s.flash.ended = true ∨
        (s.clock = .awaiting ∨ s.clock = .step 249 ∧ s.conversionDue = false) ∧ s.power.wakeStart = false ∧
          s.flash.uncounted = false ∧ cy.counter + 1 = cy.onLength) := by
  rw [State.offDue_iff, State.offEarly_iff]
  cases s.flash.ended <;> simp

/-! ### The commands -/

/-- A command that begins an ON phase where it is due or may come ahead of its start, and is without effect else. -/
def BeginsOn (c : Instr) (s : State) (due early : Bool) : Prop :=
  exec c s = .next (if due then s.enterOn false else if early then s.enterOn true else s)

theorem flashStart_beginsOn (s : State) : BeginsOn .flashStart s s.flashStartDue s.flashStartEarly := rfl

theorem onPhaseEntry_beginsOn (s : State) : BeginsOn .onPhaseEntry s s.onDue s.onEarly := rfl

section
variable {c : Instr} {s : State} {due early : Bool} (h : BeginsOn c s due early)
include h

theorem BeginsOn.enters (hd : due = true ∨ early = true) : ∃ ahead : Bool, exec c s = .next (s.enterOn ahead) := by
  cases due with
  | true => exact ⟨false, h⟩
  | false =>
    obtain rfl : early = true := hd.resolve_left nofun
    exact ⟨true, h⟩

theorem BeginsOn.stands (hd : ¬ (due = true ∨ early = true)) : exec c s = .next s := by
  obtain ⟨hdue, hearly⟩ := not_or.mp hd
  exact h.trans (by rw [if_neg hdue, if_neg hearly])

end

theorem State.offPhaseEntry_enters {s : State} {cy : Cycle} (hd : s.offDue = some cy ∨ s.offEarly = some cy) :
    ∃ ahead : Bool, exec .offPhaseEntry s = .next (s.enterOff cy ahead) := by
  simp only [exec, execOffPhaseEntry]
  cases hdue : s.offDue with
  | some x =>
    obtain ⟨-, hx, -⟩ := State.offDue_iff.mp hdue
    have hcy : s.flash.phase = .onPhase cy := ((s.offPhaseEntry_iff cy).mp hd).2.1
    obtain rfl : x = cy := FlashPhase.onPhase.inj (hx.symm.trans hcy)
    exact ⟨false, rfl⟩
  | none =>
    rw [hd.resolve_left (by rw [hdue]; nofun)]
    exact ⟨true, rfl⟩

theorem State.offPhaseEntry_stands {s : State} (hd : ∀ cy : Cycle, ¬ (s.offDue = some cy ∨ s.offEarly = some cy)) :
    exec .offPhaseEntry s = .next s := by
  have hdue : s.offDue = none := Option.eq_none_iff_forall_ne_some.mpr fun cy h => hd cy (.inl h)
  have hearly : s.offEarly = none := Option.eq_none_iff_forall_ne_some.mpr fun cy h => hd cy (.inr h)
  simp only [exec, execOffPhaseEntry, hdue, hearly]

/-! ### Speed and tick -/

theorem State.failedSignal_iff (s : State) : s.failedSignal = true ↔
    ∃ x : Channel, s.follows x = true ∧ (s.chRec x).signalLamp = true ∧ (s.chan x).bulbOut = true := by
  simp [State.failedSignal, mem_allChannels, and_assoc]

theorem State.periodOf_eq (s : State) (v : Speed) :
    s.periodOf v = if v = .fast then max (s.cfg.flasher.period / 2) 40 else s.cfg.flasher.period := by
  cases v <;> rfl

/-- The tick of a change of phase, of the configured length and half tone period (R100). -/
def State.newTick (s : State) : Tick :=
  { half := (2 * 500000 + s.cfg.flasher.tone) / (2 * s.cfg.flasher.tone), length := s.cfg.flasher.tick * 1000,
    elapsed := 0 }

theorem State.startTick_starts {s : State} (he : s.cfg.flasher.enable = true) (hk : s.sup.crank = .normal) :
    s.startTick.flash.tone = true ∧ s.startTick.flash.tick = some s.newTick := by
  rw [State.startTick, if_pos ⟨he, s.cranking_false_iff.mpr hk⟩]
  exact ⟨rfl, rfl⟩

theorem State.startTick_mute {s : State} (h : s.cfg.flasher.enable = false ∨ s.sup.crank = .crank) :
    s.startTick = s := by
  refine if_neg fun ⟨he, hk⟩ => ?_
  rw [State.cranking_false_iff] at hk
  rcases h with h | h
  · rw [he] at h
    cases h
  · rw [hk] at h
    cases h

/-- A tick moves the tick and the tone output alone. -/
theorem State.startTick_only (s : State) :
    s.startTick.flash = { s.flash with tick := s.startTick.flash.tick, tone := s.startTick.flash.tone } := by
  unfold State.startTick
  split <;> rfl

/-! ### A tick in progress -/

theorem State.exec_tickEnd {s : State} {k : Tick} (hk : s.flash.tick = some k) :
    exec .tickEnd s = .next (if k.length ≤ k.elapsed + k.half then s.endTick else s) := by
  simp only [exec, execTickEnd, hk]

theorem State.exec_toneHalfPeriod {s : State} {k : Tick} (hk : s.flash.tick = some k) :
    exec .toneHalfPeriod s = .next (if k.elapsed + k.half < k.length then
      s.setFlash { s.flash with tick := some { k with elapsed := k.elapsed + k.half }, tone := !s.flash.tone } else s) := by
  simp only [exec, execToneHalfPeriod, hk]

/-! ### What a change of phase leaves -/

/-- `t` is `s` with a phase entered, whatever its lengths and speed: the phase has not ended, the tick, the followers. -/
structure State.Enters (s : State) (phase : FlashPhase) (speed : Speed) (t : State) : Prop where
  phase : t.flash.phase = phase
  speed : t.flash.speed = speed
  ended : t.flash.ended = false
  ticks : s.cfg.flasher.enable = true → s.sup.crank = .normal →
    t.flash.tone = true ∧ t.flash.tick = some s.newTick
  mute : s.cfg.flasher.enable = false ∨ s.sup.crank = .crank →
    t.flash.tone = s.flash.tone ∧ t.flash.tick = s.flash.tick
  follower : ∀ x : Channel, s.follows x = true → s.composes x = true →
    (t.chan x).demand = (if t.onPhase = true then 250 else 0) ∧ (t.chan x).source = .flash ∧
      (t.chan x).onEdge = if t.onPhase = true then (s.chan x).demand == 0 || (s.chan x).onEdge else false

/-- The phase written as `u` has it, the tick and the composer come after (R92, R100). -/
theorem State.Enters.of_written {s u : State} {phase : FlashPhase} {speed : Speed} {ahead : Bool}
    (hflash : u.flash = { s.flash with phase := phase, speed := speed, uncounted := ahead, ended := false })
    (hcomposed : u.unflashed = s.unflashed) : s.Enters phase speed u.startTick.composeFollowers := by
  have hkeep : u.startTick.unflashed = s.unflashed :=
    (State.startTick_keep State.unflashed (fun _ _ => rfl) u).trans hcomposed
  have hucfg : u.cfg = s.cfg := congrArg Prod.fst hcomposed
  have husup : u.sup = s.sup := congrArg (·.2.2.2.2) hcomposed
  have hcfg : u.startTick.cfg = s.cfg := congrArg Prod.fst hkeep
  have hresults : u.startTick.results = s.results := congrArg (·.2.1) hkeep
  have hchan (x : Channel) : u.startTick.chan x = s.chan x := State.chan_congr (congrArg (·.2.2.1) hkeep) x
  have hout : u.startTick.composeFollowers.flash = u.startTick.flash := by simp
  have honPhase : u.startTick.composeFollowers.onPhase = u.startTick.onPhase := (State.onPhase_congr (by rw [hout])).1
  have honly := u.startTick_only
  refine ⟨?_, ?_, ?_, fun he hk => ?_, fun hm => ?_, fun x hf hc => ?_⟩
  · rw [hout, honly, hflash]
  · rw [hout, honly, hflash]
  · rw [hout, honly, hflash]
  · have htick : u.newTick = s.newTick := by
      unfold State.newTick
      rw [hucfg]
    rw [hout, ← htick]
    exact State.startTick_starts (hucfg ▸ he) (husup ▸ hk)
  · rw [hout, State.startTick_mute (by rwa [hucfg, husup]), hflash]
    exact ⟨rfl, rfl⟩
  · rw [honPhase, ← hchan x]
    exact State.composeFollowers_follower ((State.follows_same (by rw [hcfg]) hresults x).trans hf)
      ((State.composes_congr hcfg x).trans hc)

/-- The ON phase written and FLASH_FAST raised, the tick and the composer not having come yet (R91, R92, R97, R98). -/
def State.onWritten (s : State) (ahead : Bool) : State :=
  let t := s.setFlash { s.flash with
    phase := .onPhase (Cycle.ofPeriod (s.periodOf s.chosenSpeed)), speed := s.chosenSpeed, uncounted := ahead,
    ended := false }
  if s.chosenSpeed = s.flash.speed then t else t.raise .flashFast

theorem State.enterOn_eq (s : State) (ahead : Bool) :
    s.enterOn ahead = (s.onWritten ahead).startTick.composeFollowers := rfl

theorem State.onWritten_slot (s : State) (ahead : Bool) (m : SlotId) :
    (s.onWritten ahead).slot m = if s.chosenSpeed = s.flash.speed then s.slot m else s.raisedTo .flashFast m := by
  unfold State.onWritten
  dsimp only
  split
  · rfl
  · rw [State.raise_slot]
    rfl

theorem State.enterOn_enters (s : State) (ahead : Bool) :
    s.Enters (.onPhase (Cycle.ofPeriod (s.periodOf s.chosenSpeed))) s.chosenSpeed (s.enterOn ahead) := by
  rw [State.enterOn_eq]
  refine .of_written (ahead := ahead) ?_ ?_ <;> unfold State.onWritten <;> dsimp only <;> split
  · rfl
  · simp
  · rfl
  · exact (State.raise_keep State.unflashed (fun _ _ => rfl) ..).trans rfl

theorem State.enterOn_slot (s : State) (ahead : Bool) (m : SlotId) :
    (s.enterOn ahead).slot m = if s.chosenSpeed = s.flash.speed then s.slot m else s.raisedTo .flashFast m := by
  rw [← s.onWritten_slot ahead, State.enterOn_eq]
  unfold State.slot
  simp

theorem State.enterOff_enters (s : State) (cy : Cycle) (ahead : Bool) :
    s.Enters (.offPhase { cy with counter := 0 }) s.flash.speed (s.enterOff cy ahead) :=
  .of_written (ahead := ahead) rfl rfl

/-! ### Nothing else changes -/

theorem State.enterOn_only (s : State) (ahead : Bool) :
    s.enterOn ahead = { s with
      flash := (s.enterOn ahead).flash, slots := (s.enterOn ahead).slots, chans := (s.enterOn ahead).chans,
      queue := (s.enterOn ahead).queue, window := (s.enterOn ahead).window, fan := (s.enterOn ahead).fan } :=
  s.enterOn_keep (fun y => { y with
    flash := (s.enterOn ahead).flash, slots := (s.enterOn ahead).slots, chans := (s.enterOn ahead).chans,
    queue := (s.enterOn ahead).queue, window := (s.enterOn ahead).window, fan := (s.enterOn ahead).fan })
    (fun _ _ => rfl) (fun _ _ => rfl) (fun _ _ => rfl) (fun _ _ => rfl) (fun _ _ => rfl) (fun _ _ => rfl) ahead

theorem State.enterOff_only (s : State) (cy : Cycle) (ahead : Bool) :
    s.enterOff cy ahead = { s with
      flash := (s.enterOff cy ahead).flash, chans := (s.enterOff cy ahead).chans, queue := (s.enterOff cy ahead).queue,
      window := (s.enterOff cy ahead).window, fan := (s.enterOff cy ahead).fan } :=
  s.enterOff_keep (fun y => { y with
    flash := (s.enterOff cy ahead).flash, chans := (s.enterOff cy ahead).chans, queue := (s.enterOff cy ahead).queue,
    window := (s.enterOff cy ahead).window, fan := (s.enterOff cy ahead).fan })
    (fun _ _ => rfl) (fun _ _ => rfl) (fun _ _ => rfl) (fun _ _ => rfl) (fun _ _ => rfl) cy ahead

theorem State.flashTest_only (s : State) :
    s.flashTest = { s with
      flash := s.flashTest.flash, chans := s.flashTest.chans, queue := s.flashTest.queue,
      window := s.flashTest.window, fan := s.flashTest.fan } :=
  s.flashTest_keep (fun y => { y with
    flash := s.flashTest.flash, chans := s.flashTest.chans, queue := s.flashTest.queue,
    window := s.flashTest.window, fan := s.flashTest.fan })
    (fun _ _ => rfl) (fun _ _ => rfl) (fun _ _ => rfl) (fun _ _ => rfl) (fun _ _ => rfl)

/-! ### The test of the demand -/

theorem State.flashActive_of_phase {s : State} {b : Bool} (h : s.flash.state ≠ .idle ∨ s.flash.phase = .idle true b) :
    s.flashActive = true := by
  rcases h with h | h
  · unfold Flash.state at h
    unfold State.flashActive
    cases hp : s.flash.phase with
    | idle p came => exact absurd (by rw [hp]) h
    | onPhase cy => rfl
    | offPhase cy => rfl
  · rw [State.flashActive, h]

/-- The demand has begun: a generator at rest takes the start pending mark (R91). -/
theorem State.flashTest_begins {s : State} {b : Bool} (hd : s.flashDemand = true) (hq : s.flash.phase = .idle false b) :
    s.flashTest = s.setFlash { s.flash with phase := .idle true false } := by
  rw [State.flashTest, if_pos hd, hq]

theorem State.flashTest_active {s : State} (hd : s.flashDemand = true) (ha : s.flashActive = true) :
    s.flashTest = s := by
  unfold State.flashActive at ha
  rw [State.flashTest, if_pos hd]
  cases hp : s.flash.phase with
  | idle p came =>
    rw [hp] at ha
    obtain rfl : p = true := ha
    rfl
  | onPhase cy => rfl
  | offPhase cy => rfl

theorem State.flashTest_rests {s : State} {b : Bool} (hd : s.flashDemand = false) (hq : s.flash.phase = .idle false b) :
    s.flashTest = s := by
  rw [State.flashTest, if_neg (Bool.eq_false_iff.mp hd), hq]

/-- The demand has ended: an active generator is idle at once, and the composer is told (R95). -/
theorem State.flashTest_ends {s : State} (hd : s.flashDemand = false) (ha : s.flashActive = true) :
    s.flashTest = (s.setFlash { s.flash with phase := .idle false false, ended := false }).composeFollowers := by
  unfold State.flashActive at ha
  rw [State.flashTest, if_neg (Bool.eq_false_iff.mp hd)]
  cases hp : s.flash.phase with
  | idle p came =>
    rw [hp] at ha
    obtain rfl : p = true := ha
    rfl
  | onPhase cy => rfl
  | offPhase cy => rfl

end Sys2Proof.Machine

open Sys2Proof Sys2Proof.Machine

/-- Settles O27: the tick in progress is compared with its present half. -/
theorem tickRunsAndEnds : Obligations.TickRunsAndEnds := by
  unfold Obligations.TickRunsAndEnds
  refine ⟨fun k s hk => ⟨fun hends => ?_, fun hruns => ?_⟩, fun s hk => ?_⟩
  · rw [State.exec_tickEnd hk, State.exec_toneHalfPeriod hk, if_pos hends, if_neg (Nat.not_lt.mpr hends)]
    exact ⟨rfl, rfl⟩
  · rw [State.exec_tickEnd hk, State.exec_toneHalfPeriod hk, if_neg (Nat.not_le.mpr hruns), if_pos hruns]
    exact ⟨rfl, rfl⟩
  · simp [exec, execTickEnd, execToneHalfPeriod, hk]

/-- Settles O26: the moment by `State.offPhaseEntry_iff`, the effects by `State.Enters`. -/
theorem offPhaseBegins : Obligations.OffPhaseBegins := by
  unfold Obligations.OffPhaseBegins
  intro cy s hcy begins
  refine ⟨fun hno => ?_, fun hbegins => ?_⟩
  · refine State.offPhaseEntry_stands fun x hx => hno ?_
    have hbegins := (s.offPhaseEntry_iff x).mp hx
    have hphase : s.flash.phase = .onPhase x := hbegins.2.1
    obtain rfl : x = cy := FlashPhase.onPhase.inj (hphase.symm.trans (hcy (by rw [Flash.state, hphase])))
    exact hbegins
  · obtain ⟨ahead, hexec⟩ := State.offPhaseEntry_enters ((s.offPhaseEntry_iff cy).mpr hbegins)
    have ht := s.enterOff_enters cy ahead
    have hoff : (s.enterOff cy ahead).onPhase = false := by rw [State.onPhase, ht.phase]
    refine ⟨_, hexec, ht.speed, ht.ended, ht.phase, ht.ticks, ht.mute, fun x hf hc => ?_, s.enterOff_only cy ahead⟩
    have hx := ht.follower x hf hc
    rwa [hoff] at hx

/-- Settles O25: the moments by `State.flashStart_iff` and `State.onPhaseEntry_iff`, the effects by `State.Enters`; the
test of the demand by its four cases. -/
theorem onPhaseBegins : Obligations.OnPhaseBegins := by
  unfold Obligations.OnPhaseBegins
  refine ⟨fun c cy s hcy => ?_, fun b s => ?_⟩
  · intro comes begins speed period
    have hspeed : s.chosenSpeed = speed := if_congr s.failedSignal_iff rfl rfl
    have hperiod : s.periodOf s.chosenSpeed = period := by rw [State.periodOf_eq, hspeed]
    refine ⟨fun hc hno => ?_, fun hbegins => ?_⟩
    · rcases hc with rfl | rfl
      · refine (flashStart_beginsOn s).stands fun hd => hno ?_
        obtain ⟨hrun, hstart⟩ := s.flashStart_iff.mp hd
        exact ⟨hrun, .inl ⟨rfl, hstart⟩⟩
      · refine (onPhaseEntry_beginsOn s).stands fun hd => hno ?_
        obtain ⟨hrun, hentry⟩ := (State.onPhaseEntry_iff hcy).mp hd
        exact ⟨hrun, .inr ⟨rfl, hentry⟩⟩
    · obtain ⟨ahead, hexec⟩ : ∃ ahead : Bool, exec c s = .next (s.enterOn ahead) := by
        obtain ⟨hrun, ⟨rfl, hstart⟩ | ⟨rfl, hentry⟩⟩ := hbegins
        · exact (flashStart_beginsOn s).enters (s.flashStart_iff.mpr ⟨hrun, hstart⟩)
        · exact (onPhaseEntry_beginsOn s).enters ((State.onPhaseEntry_iff hcy).mpr ⟨hrun, hentry⟩)
      have ht := s.enterOn_enters ahead
      have hslot := s.enterOn_slot ahead
      have hon : (s.enterOn ahead).onPhase = true := by rw [State.onPhase, ht.phase]
      rw [hperiod, hspeed] at ht
      rw [hspeed] at hslot
      refine ⟨_, hexec, ht.speed, ht.ended, ht.phase, hslot, ht.ticks, ht.mute, fun x hf hc => ?_, s.enterOn_only ahead⟩
      have hx := ht.follower x hf hc
      rwa [hon] at hx
  · intro demand quiet t
    have hdemand : s.flashDemand = true ↔ demand := by
      simp [demand, State.flashDemand, State.resultOn, or_assoc]
    have hnone : ¬ demand → s.flashDemand = false := fun hd => Bool.eq_false_iff.mpr (mt hdemand.mp hd)
    refine ⟨fun hd hq => State.flashTest_begins (hdemand.mpr hd) hq,
      fun hd ha => State.flashTest_active (hdemand.mpr hd) (State.flashActive_of_phase ha),
      fun hd hq => State.flashTest_rests (hnone hd) hq, fun hd ha => ⟨?_, s.flashTest_only⟩⟩
    rw [show t = _ from State.flashTest_ends (hnone hd) (State.flashActive_of_phase ha)]
    simp

end

section
/-! SUPPORT. A brown-out (R113, R188): the handling of a bus sample below the limit. -/

namespace Sys2Proof.Machine
open Sys2Proof

/-- Every block of a fresh part stands at its reset values (R188). -/
theorem State.fresh_blocksReset (q : List Instr) (cfg : Working) (st : Store) (w : Power) (ev : EventSet) :
    (State.fresh q cfg st w ev).BlocksReset := by
  refine ⟨State.fresh_cell q cfg st w ev, State.fresh_result q cfg st w ev, fun m => ?_, fun p => ?_, fun i => ?_,
    fun c => ⟨State.fresh_chan q cfg st w ev c, ?_⟩, rfl, rfl, rfl, rfl, rfl, rfl, rfl, rfl, rfl, rfl, rfl, fun x => ?_,
    fun g => ?_, rfl, rfl, rfl⟩
  · cases m <;> exact ⟨rfl, rfl⟩
  · cases p <;> exact ⟨rfl, rfl, rfl, rfl, rfl, rfl⟩
  · cases i <;> exact ⟨rfl, rfl⟩
  · simp [State.fresh]
  · simp [State.value, State.fresh, Sequencer.reset]
  · cases g <;> rfl

/-- The request that a source has on the list is one of that source. -/
theorem State.request?_src {s : State} {x : Source} {r : Request} (h : s.request? x = some r) : r.src = x := by
  simpa using List.find?_some h

/-- CONVERSION_DONE of the bus hands the reading, limited to the top of the range, to the handling of a bus sample
(R125, R131, R133). -/
theorem State.exec_busConversion {s : State} {r : Request} (hr : s.request? .bus = some r) (hnow : s.servesNow r = true)
    (quantity : Nat) : exec (.conversionDone .bus quantity) s =
      .next ((s.serve .bus (min 25000 quantity)).busSample (min 25000 quantity)) := by
  have hexec : exec (.conversionDone .bus quantity) s = execConversionDone .bus quantity s := rfl
  rw [hexec, execConversionDone, hr]
  simp [hnow, State.consume, State.request?_src hr, State.reading, rangeTop]

end Sys2Proof.Machine

open Sys2Proof Sys2Proof.Machine

/-- Settles O6: a sample below the limit is `State.brownOut`, which is a fresh part. -/
theorem brownOutHoldsThePart : Obligations.BrownOutHoldsThePart := by
  unfold Obligations.BrownOutHoldsThePart
  intro s r quantity hr hnow hlow
  refine ⟨(s.serve .bus (min 25000 quantity)).brownOut, ?_, State.fresh_blocksReset .., rfl, rfl, rfl, rfl, rfl, rfl⟩
  rw [s.exec_busConversion hr hnow, State.busSample, if_pos (lt_of_le_of_lt (min_le_right _ _) hlow)]

end

section
/-! SUPPORT. The arithmetic of the supply supervisor and of the gauge unit (R114, R150). -/

namespace Sys2Proof.Machine
open Sys2Proof

/-- A sample at or above Vf raises it by an eighth of the difference (R114). -/
theorem filterStep_rising {f v : Nat} (h : f ≤ v) : filterStep (some f) v = f + (v - f) / 8 := by
  have hdiff : (v : Int) - f = ((v - f : Nat) : Int) := by omega
  rw [filterStep, hdiff, Int.tdiv_eq_ediv_of_nonneg (by omega)]
  omega

/-- A sample at or below Vf lowers it by an eighth of the difference, truncated toward zero (R114). -/
theorem filterStep_falling {f v : Nat} (h : v ≤ f) : filterStep (some f) v = f - (f - v) / 8 := by
  have hdiff : (v : Int) - f = -((f - v : Nat) : Int) := by omega
  rw [filterStep, hdiff, Int.neg_tdiv, Int.tdiv_eq_ediv_of_nonneg (by omega)]
  omega

theorem gaugeDuty_under {vt vf : Nat} (h : vf ≤ vt) : gaugeDuty vt vf = 250 := if_pos h

theorem gaugeDuty_over {vt vf : Nat} (h : vt < vf) : gaugeDuty vt vf = (250 * vt ^ 2 + vf ^ 2 / 2) / vf ^ 2 :=
  if_neg (by omega)

/-- A quotient rounded to nearest, halves up, lies within a half of the quotient. -/
theorem roundedQuotient_near (n : Nat) {d : Nat} (hd : 0 < d) :
    2 * ((n + d / 2) / d * d) ≤ 2 * n + d ∧ 2 * n < 2 * ((n + d / 2) / d * d) + d := by
  have hdiv := Nat.div_add_mod (n + d / 2) d
  have hmod := Nat.mod_lt (n + d / 2) hd
  rw [Nat.mul_comm d] at hdiv
  omega

/-- The computed duty lies within half a step of 250 Vt² / Vf² (R150). -/
theorem gaugeDuty_near {vt vf : Nat} (h : vt < vf) :
    2 * (gaugeDuty vt vf * vf ^ 2) ≤ 500 * vt ^ 2 + vf ^ 2 ∧ 500 * vt ^ 2 < 2 * (gaugeDuty vt vf * vf ^ 2) + vf ^ 2 := by
  have hnear := roundedQuotient_near (250 * vt ^ 2) (d := vf ^ 2) (Nat.pow_pos (by omega))
  rw [← gaugeDuty_over h] at hnear
  omega

theorem gaugeDuty_zero {vf : Nat} (h : 0 < vf) : gaugeDuty 0 vf = 0 := by
  have hsq : 0 < vf ^ 2 := Nat.pow_pos h
  rw [gaugeDuty_over h]
  exact Nat.div_eq_of_lt (by omega)

/-- A cycle's two lengths share its period, the odd drive period going to ON (R96). -/
theorem Cycle.ofPeriod_lengths (p : Nat) :
    (Cycle.ofPeriod p).onLength + (Cycle.ofPeriod p).offLength = p ∧
      (Cycle.ofPeriod p).onLength = (Cycle.ofPeriod p).offLength + p % 2 := by
  have hon : (Cycle.ofPeriod p).onLength = (p + 1) / 2 := rfl
  have hoff : (Cycle.ofPeriod p).offLength = p - (p + 1) / 2 := rfl
  omega

end Sys2Proof.Machine

open Sys2Proof Sys2Proof.Machine

/-- Settles O30: the filter by the sign of the difference, the duty by the order of Vt and Vf. -/
theorem filterAndDutyArithmetic : Obligations.FilterAndDutyArithmetic := by
  unfold Obligations.FilterAndDutyArithmetic
  refine ⟨fun f v => ⟨rfl, fun h => ?_, fun h => ?_, fun h1 h2 => ?_⟩, fun vt vf => ?_, fun r x c period s => ?_⟩
  · rw [filterStep_rising h]
    omega
  · rw [filterStep_falling h]
    omega
  · rcases Nat.le_total f v with h | h
    · rw [filterStep_rising h]
      omega
    · rw [filterStep_falling h]
      omega
  · refine ⟨gaugeDuty_le vt vf, decide_eq_true_iff, gaugeDuty_under, ?_, gaugeDuty_near⟩
    rintro rfl hvf
    exact gaugeDuty_zero hvf
  · exact ⟨rfl, rfl, rfl, rfl, rfl, rfl, rfl, rfl, rfl, rfl, rfl, rfl, Cycle.ofPeriod_lengths period⟩

end

section
/-! SUPPORT. The fan unit on a change of T and of its settings (R156, R157, R159 to R163). -/

namespace Sys2Proof.Machine
open Sys2Proof

/-! ### What the fan unit leaves on a change of T -/

namespace State.FanWrites

variable {s t u : State}

theorem fanWrite (s : State) (n : Nat) : s.FanWrites (s.fanWrite n) := wrote s s.fan n

theorem fanStart (s : State) : s.FanWrites s.fanStart := by
  unfold State.fanStart
  split
  · exact refl s
  · split <;> exact wrote s _ _

theorem fanRetarget (s : State) : s.FanWrites s.fanRetarget := by
  have ht : s.FanWrites s.retargeted := of_fan s _
  rw [State.fanRetarget_eq]
  split
  · exact ht
  · split
    · exact ite (ht.trans (ite (wrote _ _ _) (fanStart _))) ht
    · exact ite (ht.trans (wrote _ _ _)) ht
    · exact ite (ht.trans (wrote _ _ _)) ht
    · exact ite (ht.trans (wrote _ _ _)) ht
    · exact ite (ht.trans (wrote _ _ _)) ht
    · exact ite (ht.trans (wrote _ _ _)) (ite ht (ht.trans (of_fan _ _)))
    · exact ht.trans (fanWrite _ _)

end State.FanWrites

/-- T after a retargeting is the step duty of the capped FAN step (R159), whatever the output stage then moves. -/
theorem State.OutputMoves.retargeted_target {s t : State} (h : s.retargeted.OutputMoves t) :
    t.fan.target = s.cfg.fan.stepDuty (min (min 3 (s.result .fan)) (s.cfg.fan.cap s.sup.shed)) :=
  congrArg (·.2.2) h.aim

/-! ### The FAN record -/

theorem State.boundBusy_iff {s : State} {b : Option Channel} :
    s.boundBusy b = true ↔ ∃ c : Channel, b = some c ∧ (s.chan c).st ≠ .off := by
  cases b <;> simp [State.boundBusy, State.isOff]

theorem FanRec.dutiesRise_iff (r : FanRec) : r.dutiesRise = true ↔ r.duty1 ≤ r.duty2 ∧ r.duty2 ≤ r.duty3 := by
  simp [FanRec.dutiesRise]

section
variable {s : State} {v : FanRec}

theorem State.checkFan_falling (h : ¬ (v.clamped.duty1 ≤ v.clamped.duty2 ∧ v.clamped.duty2 ≤ v.clamped.duty3)) :
    s.checkFan v = .refused .badValue := by
  rw [← FanRec.dutiesRise_iff, Bool.not_eq_true] at h
  simp [State.checkFan, h]

theorem State.checkFan_rising (h : v.clamped.duty1 ≤ v.clamped.duty2 ∧ v.clamped.duty2 ≤ v.clamped.duty3) :
    s.checkFan v = if s.boundBusy s.fanChannel then .refused .inUse else .accepted v.clamped (v.clamped != v) := by
  simp [State.checkFan, (FanRec.dutiesRise_iff _).mpr h]

end

/-- A fan that writes the kick duty writes the new one (R157). -/
theorem State.applyFan_kick {s : State} {r : FanRec} {c : Channel} (hc : s.fanChannel = some c)
    (hst : (s.applyFan r).fan.st = .starting ∨ (s.applyFan r).fan.st = .kick) :
    ((s.applyFan r).chan c).demand = r.kickDuty ∧ ((s.applyFan r).chan c).source = .steady := by
  have ht : (s.setCfg { s.cfg with fan := r }).fanRetarget.fanChannel = some c :=
    (State.fanChannel_congr (State.FanWrites.fanRetarget _).cfg).trans hc
  revert hst
  unfold State.applyFan
  generalize (s.setCfg { s.cfg with fan := r }).fanRetarget = t at ht
  dsimp only
  split
  · intro _
    have hown := State.setFan_fanWrite_own ht t.fan r.kickDuty
    exact ⟨congrArg Chan.demand hown, congrArg Chan.source hown⟩
  · rename_i hno
    exact fun hst => absurd hst hno

theorem State.applyFan_writes (s : State) (r : FanRec) :
    (s.setCfg { s.cfg with fan := r }).FanWrites (s.applyFan r) :=
  .ite ((State.FanWrites.fanRetarget _).trans (.fanWrite _ _)) (.fanRetarget _)

theorem State.applyFan_only (s : State) (r : FanRec) :
    s.applyFan r = { s with
      cfg := { s.cfg with fan := r }, chans := (s.applyFan r).chans, fan := (s.applyFan r).fan } := by
  have hkeep := s.applyFan_keep (fun t => { t with
    cfg := { s.cfg with fan := r }, chans := (s.applyFan r).chans, fan := (s.applyFan r).fan })
    (fun _ _ => rfl) (fun _ _ => rfl) (fun _ _ => rfl) r
  rw [← hkeep, ← s.applyFan_cfg r]

theorem Executing.exec_configFan {s : State} {p : Port} {f : Frame} {r : Run} {v : WFan}
    (h : Executing s p f r (.config (.fan v))) :
    exec (.configFan p) s = .next (s.configItem p f.slot (s.checkFan v) State.applyFan .fan noSkip) := by
  simp [exec, execConfigFan, h.itemOn]

end Sys2Proof.Machine
end

section
/-! SUPPORT. The SUPPLY record checked and applied (R107 to R110, R122). -/

namespace Sys2Proof.Machine
open Sys2Proof

/-! ### The checks -/

theorem SupplyRec.thresholdsFall_iff (r : SupplyRec) :
    r.thresholdsFall = true ↔ r.shed3 < r.shed2 ∧ r.shed2 < r.shed1 := by
  simp [SupplyRec.thresholdsFall, and_comm]

theorem WSupply.changedBy_iff (w : WSupply) (x : SupplyRec) :
    w.changedBy x = true ↔
      x.shed1 ≠ w.shed1 ∨ x.shed2 ≠ w.shed2 ∨ x.shed3 ≠ w.shed3 ∨ x.hysteresis ≠ w.hysteresis ∨
        x.dwell ≠ w.dwell ∨ x.crankThreshold ≠ w.crankThreshold ∨ x.crankMargin ≠ w.crankMargin ∨
        x.allowance ≠ w.allowance := by
  simp [WSupply.changedBy, or_assoc]

theorem checkSupply_eq (cls : VClass) (w : WSupply) :
    checkSupply cls w = if (w.clamped cls).shed3 < (w.clamped cls).shed2 ∧ (w.clamped cls).shed2 < (w.clamped cls).shed1
      then .accepted (w.clamped cls) (w.changedBy (w.clamped cls)) else .refused .badValue := by
  simp only [checkSupply, SupplyRec.thresholdsFall_iff]

theorem Executing.exec_configSupply {s : State} {p : Port} {f : Frame} {r : Run} {w : WSupply}
    (h : Executing s p f r (.config (.supply w))) :
    exec (.configSupply p) s =
      .next (s.configItem p f.slot (checkSupply s.cfg.unit.cls w) State.newSupply .supply noSkip) := by
  simp [exec, execConfigSupply, h.itemOn]

/-! ### The record applied -/

/-- A SUPPLY record restarts the supervisor's counters and lets the rest of it stand (R109, R110). -/
theorem State.applySupply_sup (s : State) (r : SupplyRec) :
    (s.applySupply r).sup = { s.sup with
      crankIn := 0, crankOut := 0, rise := s.sup.rise.map fun _ => 0, fall := s.sup.fall.map fun _ => 0,
      inHand := none } := by
  simp [State.applySupply]

theorem State.applySupply_cfg (s : State) (r : SupplyRec) : (s.applySupply r).cfg = { s.cfg with supply := r } := by
  simp [State.applySupply]

/-- The head that the admission test leaves does not fit under the new allowance (R62, R122). -/
theorem State.applySupply_stops {s : State} {r : SupplyRec} {d : Channel}
    (h : (s.applySupply r).queued.head? = some d) :
    (s.applySupply r).window ≠ [] ∧ r.allowance <
      (s.applySupply r).windowSum + ((s.applySupply r).chRec d).rated * ((s.applySupply r).chRec d).inrushFactor := by
  have hfails : (s.applySupply r).HeadFails := State.admitHeads_headFails _
  have hallowance : (s.applySupply r).cfg.supply.allowance = r.allowance := by rw [s.applySupply_cfg r]
  exact hallowance ▸ hfails d h

theorem State.applySupply_only (s : State) (r : SupplyRec) :
    let t := s.applySupply r
    t = { s with cfg := { s.cfg with supply := r }, sup := t.sup, chans := t.chans, queue := t.queue,
                 window := t.window, fan := t.fan } := by
  intro t
  have hkeep := s.applySupply_keep (fun x => { x with
    cfg := t.cfg, sup := t.sup, chans := t.chans, queue := t.queue, window := t.window, fan := t.fan })
    (fun _ _ => rfl) (fun _ _ => rfl) (fun _ _ => rfl) (fun _ _ => rfl) (fun _ _ => rfl) (fun _ _ => rfl) r
  rw [← s.applySupply_cfg r]
  exact hkeep

end Sys2Proof.Machine

open Sys2Proof Sys2Proof.Machine

/-- Settles O55: the checks by `checkSupply` and `checkFan`, the effects by `State.applySupply` on the settled supervisor
and by `State.applyFan`, the answers by `Executing.config_accepted`. -/
theorem configSupplyAndFanApplied : Obligations.ConfigSupplyAndFanApplied := by
  unfold Obligations.ConfigSupplyAndFanApplied
  intro p f r w v s u ht hu
  refine ⟨fun h => ?_, fun h => ?_⟩
  · intro x clamped
    have hx : x = w.clamped s.cfg.unit.cls := by
      show (match s.cfg.unit.cls with | .c12 => _ | .c6 => _) = _
      cases s.cfg.unit.cls <;> rfl
    have hclamped : w.changedBy x = decide clamped :=
      Bool.eq_iff_iff.mpr ((w.changedBy_iff x).trans decide_eq_true_iff.symm)
    refine ⟨_, h.exec_configSupply, ?_⟩
    rw [checkSupply_eq, ← hx, hclamped]
    refine ⟨fun hbad => ?_, fun hgood => ?_⟩
    · rw [if_neg hbad]
      exact h.config_refused ht ..
    · rw [if_pos hgood]
      obtain ⟨hans, honly⟩ := h.config_accepted ht x (decide clamped) (apply := State.newSupply) ConfigRecord.supply
        (skip := noSkip) rfl (by simp)
      revert hans honly
      generalize s.configItem p f.slot _ _ _ _ = t
      intro hans honly
      have hcfg : u.cfg = s.cfg := by simp [hu]
      obtain ⟨ports, rfl⟩ : ∃ ports, t = { u.applySupply x with storeWrite := some (.supply x), ports := ports } :=
        ⟨_, honly.trans (by rw [State.newSupply, ← hu])⟩
      refine ⟨u.applySupply_sup x, fun d hd => ?_, hans, ?_⟩
      · exact State.applySupply_stops hd
      · rw [← hcfg]
        exact congrArg (fun y : State => { y with storeWrite := some (.supply x), ports := ports })
          (u.applySupply_only x)
  · intro x rises inUse
    have hx : x = FanRec.clamped v := rfl
    have hexec := h.exec_configFan
    refine ⟨_, hexec, fun hbad => ?_, fun hgood hbusy => ?_, fun hgood hfree => ?_⟩
    · rw [State.checkFan_falling hbad]
      exact h.config_refused ht ..
    · rw [State.checkFan_rising hgood, if_pos (State.boundBusy_iff.mpr hbusy)]
      exact h.config_refused ht ..
    · rw [State.checkFan_rising hgood, if_neg (mt State.boundBusy_iff.mp hfree), ← hx]
      obtain ⟨hans, honly⟩ := h.config_accepted ht x (x != v) (apply := State.applyFan) ConfigRecord.fan (skip := noSkip)
        rfl (by simp)
      revert hans honly
      generalize s.configItem p f.slot _ _ _ _ = t
      intro hans honly
      obtain ⟨ports, rfl⟩ : ∃ ports, t = { s.applyFan x with storeWrite := some (.fan x), ports := ports } := ⟨_, honly⟩
      refine ⟨(s.applyFan_moves x).retargeted_target, fun c hc hst => State.applyFan_kick hc hst,
        fun c hc => (s.applyFan_writes x).others c hc, ?_, ?_⟩
      · rwa [show decide (x ≠ v) = (x != v) by simp [bne, decide_not, beq_eq_decide]]
      · exact congrArg (fun y : State => { y with storeWrite := some (.fan x), ports := ports }) (s.applyFan_only x)
end

section
/-! SUPPORT. A channel in RUN through a re-evaluation of the functions (R12 to R16): its demand and the marks of it move,
and nothing else of it. -/

namespace Sys2Proof.Machine
open Sys2Proof

/-- A channel's record but for what the composer and the fan unit write of it. -/
def Chan.undemanded (ch : Chan) : Chan :=
  { ch with demand := 0, source := .steady, onEdge := false, stop := false, present := false }

/-- A channel is in RUN, with no place in the queue, and its record is `x` but for its demand and the marks of it. -/
structure State.RunsAs (s : State) (d : Channel) (x : Chan) : Prop where
  chan : (s.chan d).undemanded = x
  run : (s.chan d).st = .run
  unqueued : d ∉ s.queued

namespace State.RunsAs

variable {s t : State} {d : Channel} {x : Chan}

theorem of_eq (h : s.RunsAs d x) (hc : t.chans = s.chans) (hq : t.queue = s.queue) : t.RunsAs d x := by
  have hd : t.chan d = s.chan d := State.chan_congr hc d
  exact ⟨hd ▸ h.chan, hd ▸ h.run, by unfold State.queued; rw [hq]; exact h.unqueued⟩

theorem redemanded (h : s.RunsAs d x) (hu : (t.chan d).undemanded = (s.chan d).undemanded)
    (hq : t.queue = s.queue) : t.RunsAs d x :=
  ⟨hu.trans h.chan, (congrArg Chan.st hu).trans h.run, by unfold State.queued; rw [hq]; exact h.unqueued⟩

theorem ite {p : Prop} [Decidable p] {u : State} (ht : t.RunsAs d x) (hu : u.RunsAs d x) :
    (if p then t else u).RunsAs d x := by
  split
  · exact ht
  · exact hu

theorem fanWrites (h : s.RunsAs d x) (k : s.FanWrites t) : t.RunsAs d x := by
  obtain ⟨_, _, _, hd⟩ := k.own d
  exact h.redemanded (by rw [hd]; rfl) k.queue

theorem admits (h : s.RunsAs d x) (k : s.Admits t) : t.RunsAs d x := by
  obtain ⟨hchan, hout⟩ := k.outside h.unqueued
  exact ⟨hchan ▸ h.chan, hchan ▸ h.run, hout⟩

theorem promote (h : s.RunsAs d x) (c : Channel) : (s.promote c).RunsAs d x := by
  rw [State.promote_eq]
  split
  · rename_i hc
    have hcd : d ≠ c := fun he => h.unqueued (he ▸ List.mem_map_of_mem (f := Prod.fst) hc)
    have hp : (s.promoted c).RunsAs d x := ⟨h.chan, h.run, fun hd => by
      rcases State.FanStands.mem_placeUrgent hd with he | hm
      · exact hcd he
      · exact h.unqueued (mem_filter_ne.mp hm).1⟩
    exact hp.admits (.admitIfNewHead _ _)
  · exact h

theorem releaseIfDue (h : s.RunsAs d x) (c : Channel) : (s.releaseIfDue c).RunsAs d x := by
  unfold State.releaseIfDue
  split
  · rename_i hc
    have hcd : c ≠ d := fun he => by
      rw [he, h.run] at hc
      cases hc.1
    have hr : (s.modChan c Chan.released).RunsAs d x :=
      h.redemanded (by rw [State.chan_modChan, if_neg hcd]) rfl
    exact hr.fanWrites (.release s c)
  · exact h

theorem rewritten (h : s.RunsAs d x) (c : Channel) : (s.rewritten c).RunsAs d x := by
  obtain ⟨e, he⟩ := s.rewritten_only c
  rw [he]
  refine h.redemanded ?_ rfl
  rw [State.chan_setChan]
  split
  · rename_i hcd
    rw [hcd]
    rfl
  · rfl

theorem recompute (h : s.RunsAs d x) (c : Channel) : (s.recompute c).RunsAs d x := by
  rw [State.recompute_eq]
  have ht := h.rewritten c
  exact releaseIfDue (ite (ht.promote c) ht) c

theorem recomputeWhere (h : s.RunsAs d x) (q : Channel → Bool) : (s.recomputeWhere q).RunsAs d x :=
  List.foldlRecOn (motive := fun t : State => t.RunsAs d x) _ _ h fun _ ht c _ => ht.recompute c

theorem flashTest (h : s.RunsAs d x) : s.flashTest.RunsAs d x := by
  have hset (v : Flash) : (s.setFlash v).RunsAs d x := h.of_eq rfl rfl
  have hidle (v : Flash) : (s.setFlash v).composeFollowers.RunsAs d x := (hset v).recomputeWhere _
  unfold State.flashTest
  split
  · split
    · exact hset _
    all_goals exact h
  · split
    · exact h
    all_goals exact hidle _

theorem reevaluate (h : s.RunsAs d x) (f : Fn) : (s.reevaluate f).RunsAs d x := by
  unfold State.reevaluate
  dsimp only
  split
  · exact h
  have ht : (s.setResult f (s.evaluated f)).RunsAs d x := h.of_eq rfl rfl
  generalize s.setResult f (s.evaluated f) = t at ht
  have hu : (if f = .fan then t.fanRetarget else t).RunsAs d x :=
    ite (ht.fanWrites (.fanRetarget t)) ht
  have hcomposed := hu.recomputeWhere
  exact ite (hcomposed _).flashTest (hcomposed _)

theorem reevaluateAll (h : s.RunsAs d x) (l : List Fn) : (s.reevaluateAll l).RunsAs d x :=
  List.foldlRecOn (motive := fun t : State => t.RunsAs d x) _ _ h fun _ ht f _ => ht.reevaluate f

theorem kept {ch : Chan} (h : s.RunsAs d ch.undemanded) :
    (s.chan d).applied = ch.applied ∧ (s.chan d).trips = ch.trips :=
  have hchan := h.chan
  ⟨congrArg (·.applied) hchan, congrArg (·.trips) hchan⟩

end State.RunsAs

end Sys2Proof.Machine
end

section
/-! SUPPORT. A change of the shed level (R15, R119 to R121, R159, R164). -/

namespace Sys2Proof.Machine
open Sys2Proof

/-! ### When the level moves -/

theorem State.shedRiseDue_iff (s : State) : s.shedRiseDue = true ↔
    (s.running = true ∧ s.sup.crank = .normal) ∧ s.sup.shed < 3 ∧ ∃ n ∈ s.sup.rise, s.cfg.supply.dwell ≤ n := by
  unfold State.shedRiseDue
  cases s.sup.rise <;> simp [State.cranking_false_iff, and_assoc]

theorem State.shedFallDue_iff (s : State) : s.shedFallDue = true ↔
    (s.running = true ∧ s.sup.crank = .normal) ∧ 0 < s.sup.shed ∧ ∃ n ∈ s.sup.fall, s.cfg.supply.dwell ≤ n := by
  unfold State.shedFallDue
  cases s.sup.fall <;> simp [State.cranking_false_iff, and_assoc]

/-! ### The cut -/

section
variable (s : State) (c : Channel)

theorem State.cut_chan : (s.cut c).chan c = (s.chan c).stopped .off := by
  have hchan : (s.cut c).chan c = (s.modChan c fun ch => ch.stopped .off).chan c :=
    State.abandon_keep (·.chan c) (fun _ _ => rfl) _ _
  rw [hchan, State.chan_modChan, if_pos rfl]

theorem State.cut_gate : (s.cut c).gates.out[c] = false := by
  have hgates : (s.cut c).gates = ((s.modChan c fun ch => ch.stopped .off).negateGate c).gates :=
    State.abandon_keep (·.gates) (fun _ _ => rfl) _ _
  rw [hgates, State.negateGate_out, if_pos rfl]

theorem State.cut_request : (s.cut c).request? (.channel c) = none := by
  unfold State.request? State.cut
  rw [State.abandon_requests]
  exact List.find?_eq_none.mpr fun r hr => by simpa using (List.mem_filter.mp hr).2

end

/-- The fan after a cut restarts, or stops with T at 0 (R164). -/
def State.fanRecut (s : State) (c : Channel) : State :=
  if (s.cut c).fan.target = 0 then (s.cut c).fanStop else (s.cut c).fanStarting

/-- What the fan unit does on a change of the shed level (R164). -/
theorem State.fanShed_eq {s : State} {c : Channel} (hc : s.fanChannel = some c) (old : Nat) :
    s.fanShed old =
      if (s.fanRetarget.chan c).st = .run ∧ s.capDuty < old ∧ s.capDuty < (s.fanRetarget.chan c).applied then
        s.fanRetarget.fanRecut c
      else s.fanRetarget := by
  have hfan : s.fanRetarget.fanChannel = some c := (State.fanChannel_congr (State.FanWrites.fanRetarget s).cfg).trans hc
  have hcap : s.fanRetarget.capDuty = s.capDuty :=
    s.fanRetarget_keep (·.capDuty) (fun _ _ => rfl) fun _ _ => rfl
  unfold State.fanShed
  dsimp only
  rw [hfan, hcap]
  rfl

/-- A fan channel after the cut: OFF and dark at once, its trip count kept, its request gone, its demand that of a fan
that starts anew (R164). -/
structure State.FanCut (s t : State) (c : Channel) : Prop where
  off : (t.chan c).st = .off
  applied : (t.chan c).applied = 0
  prevDuty : (t.chan c).prevDuty = 0
  gate : t.gates.out[c] = false
  runCount : (t.chan c).runCount = none
  trips : (t.chan c).trips = (s.chan c).trips
  request : t.request? (.channel c) = none
  fan : t.fan.st = if t.fan.target = 0 then .stopped else .starting
  demand : (t.chan c).demand = if t.fan.target = 0 then 0 else s.cfg.fan.kickDuty

theorem State.fanRecut_cut {s : State} {c : Channel} (hc : s.fanChannel = some c) : s.FanCut (s.fanRecut c) c := by
  have hcfg : (s.cut c).cfg = s.cfg := State.OutputMoves.cfg (.cut s c)
  have hfan : (s.cut c).fanChannel = some c := (State.fanChannel_congr hcfg).trans hc
  have hcut (v : Fan) (n : Nat) (hst : v.st = if v.target = 0 then .stopped else .starting)
      (hn : n = if v.target = 0 then 0 else s.cfg.fan.kickDuty) : s.FanCut (((s.cut c).setFan v).fanWrite n) c := by
    have hown := State.setFan_fanWrite_own hfan v n
    rw [State.cut_chan] at hown
    have hseq : (((s.cut c).setFan v).fanWrite n).seq = (s.cut c).seq := by simp
    have hgate : (((s.cut c).setFan v).fanWrite n).gates = (s.cut c).gates := by simp
    have hv : (((s.cut c).setFan v).fanWrite n).fan = v := State.setFan_fanWrite_fan ..
    refine ⟨by rw [hown]; rfl, by rw [hown]; rfl, by rw [hown]; rfl, ?_, by rw [hown]; rfl, by rw [hown]; rfl, ?_,
      by rw [hv]; exact hst, by rw [hown, hv]; exact hn⟩
    · rw [hgate]
      exact s.cut_gate c
    · unfold State.request?
      rw [hseq]
      exact s.cut_request c
  unfold State.fanRecut
  split
  · rename_i h0
    exact hcut _ _ (if_pos h0).symm (if_pos h0).symm
  · rename_i h0
    exact hcut _ _ (if_neg h0).symm (by rw [hcfg]; exact (if_neg h0).symm)

/-! ### The level moved -/

theorem State.result_congr {s t : State} (h : t.results = s.results) (f : Fn) : t.result f = s.result f := by
  unfold State.result
  rw [h]

/-- What the three steps give at a shed level (R13 to R15). -/
theorem State.evaluated_atLevel {s t : State} {n : Nat} (hclaims : t.claims = s.claims) (hcfg : t.cfg = s.cfg)
    (hinputs : t.inputs = s.inputs) (hshed : t.sup.shed = n) (f : Fn) :
    t.evaluated f = if (s.fnRec f).gate = .ign ∧ s.filtered .ign = false ∨ (s.fnRec f).rank.suppressedAt n = true then 0
      else s.combined f := by
  have hlevel : t.evaluated f = (s.setSup { s.sup with shed := n }).evaluated f :=
    State.evaluated_congr f hclaims (congrArg Working.functions hcfg) hinputs hshed
  have hgate : s.gatedOff f = true ↔ (s.fnRec f).gate = .ign ∧ s.filtered .ign = false := by simp [State.gatedOff]
  rw [hlevel]
  change (if s.gatedOff f = true then 0 else if (s.fnRec f).rank.suppressedAt n = true then 0 else s.combined f) = _
  by_cases hg : s.gatedOff f = true
  · rw [if_pos hg, if_pos (.inl (hgate.mp hg))]
  · simp only [if_neg hg, or_iff_right (mt hgate.mpr hg)]

/-- The shed level moved and all functions re-evaluated, the fan unit not having acted on its cap yet (R15, R121). -/
@[irreducible] def State.reshed (s : State) (n : Nat) : State :=
  ((s.setSup { s.sup with
    shed := n, rise := if n < 3 then some 0 else none, fall := if 0 < n then some 0 else none }).raise .shed).reevaluateAll
      Fn.all

section
variable (s : State) (n : Nat)

theorem State.setShed_eq : s.setShed n = (s.reshed n).fanShed s.capDuty := by
  unfold State.reshed
  rfl

theorem State.reshed_cfg : (s.reshed n).cfg = s.cfg := by
  unfold State.reshed
  simp only [State.reevaluateAll_frame, State.raise_frame, State.setSup_cfg]

theorem State.reshed_gates : (s.reshed n).gates = s.gates := by
  unfold State.reshed
  simp only [State.reevaluateAll_frame, State.raise_frame, State.setSup_gates]

theorem State.reshed_sup : (s.reshed n).sup = { s.sup with
    shed := n, rise := if n < 3 then some 0 else none, fall := if 0 < n then some 0 else none } := by
  unfold State.reshed
  simp only [State.reevaluateAll_frame, State.raise_frame, State.setSup_sup]

theorem State.reshed_result (f : Fn) : (s.reshed n).result f =
    if (s.fnRec f).gate = .ign ∧ s.filtered .ign = false ∨ (s.fnRec f).rank.suppressedAt n = true then 0
    else s.combined f := by
  unfold State.reshed
  refine ((State.reevaluateAll_result _ _ _).trans (if_pos (Fn.mem_all f))).trans ?_
  exact State.evaluated_atLevel (by simp) (by simp) (by simp) (by simp) f

theorem State.reshed_runs {s : State} {d : Channel} {x : Chan} (h : s.RunsAs d x) (n : Nat) : (s.reshed n).RunsAs d x := by
  unfold State.reshed
  exact (h.of_eq (by simp) (by simp)).reevaluateAll _

theorem State.setShed_sup : (s.setShed n).sup = { s.sup with
    shed := n, rise := if n < 3 then some 0 else none, fall := if 0 < n then some 0 else none } := by
  simp [State.setShed]

theorem State.setShed_slot (m : SlotId) : (s.setShed n).slot m = s.raisedTo .shed m := by
  have hslots : (s.setShed n).slots = ((s.setSup { s.sup with
      shed := n, rise := if n < 3 then some 0 else none, fall := if 0 < n then some 0 else none }).raise .shed).slots := by
    simp [State.setShed]
  unfold State.slot
  rw [hslots]
  exact State.raise_slot _ _ _

theorem State.setShed_results : (s.setShed n).results = (s.reshed n).results := by
  rw [State.setShed_eq]
  exact State.fanShed_keep (·.results) (fun _ _ => rfl) (fun _ _ => rfl) (fun _ _ => rfl) (fun _ _ => rfl) _ _

/-- Every result is re-evaluated at the new level (R15). -/
theorem State.setShed_result (f : Fn) : (s.setShed n).result f =
    if (s.fnRec f).gate = .ign ∧ s.filtered .ign = false ∨ (s.fnRec f).rank.suppressedAt n = true then 0
    else s.combined f := by
  rw [State.result_congr (s.setShed_results n), State.reshed_result]

theorem State.setShed_evaluated : (s.setShed n).ResultsEvaluated := fun f =>
  (s.setShed_result n f).trans
    (State.evaluated_atLevel (by simp) (by simp) (by simp) (by rw [State.setShed_sup]) f).symm

theorem State.setShed_target : (s.setShed n).fan.target =
    s.cfg.fan.stepDuty (min (min 3 ((s.setShed n).result .fan)) (s.cfg.fan.cap n)) := by
  have htarget := (State.fanShed_moves (s.reshed n) s.capDuty).retargeted_target
  have hresult := State.result_congr (s.setShed_results n) .fan
  rw [← State.setShed_eq, ← hresult, s.reshed_cfg n, s.reshed_sup n] at htarget
  exact htarget

theorem State.setShed_only :
    let t := s.setShed n
    t = { s with sup := t.sup, slots := t.slots, results := t.results, chans := t.chans, queue := t.queue,
                 window := t.window, gates := t.gates, flash := t.flash, seq := t.seq, fan := t.fan } := by
  obtain ⟨t, ht⟩ : ∃ t, s.setShed n = t := ⟨_, rfl⟩
  have hkeep := s.setShed_keep (fun x => { x with
      sup := t.sup, slots := t.slots, results := t.results, chans := t.chans, queue := t.queue, window := t.window,
      gates := t.gates, flash := t.flash, seq := t.seq, fan := t.fan })
    (fun _ _ => rfl) (fun _ _ => rfl) (fun _ _ => rfl) (fun _ _ => rfl) (fun _ _ => rfl) (fun _ _ => rfl)
    (fun _ _ => rfl) (fun _ _ => rfl) (fun _ _ => rfl) (fun _ _ => rfl) n
  rw [ht] at hkeep ⊢
  exact hkeep

end

/-- A fan channel in RUN at a change of the shed level: cut where the cap duty falls below its applied duty, and driven
on else (R164). -/
theorem State.setShed_fan {s : State} {d : Channel} (hq : s.QueueIsWaiting) (hd : s.fanChannel = some d)
    (hst : (s.chan d).st = .run) (n : Nat) :
    if s.cfg.fan.stepDuty (s.cfg.fan.cap n) < s.capDuty ∧
        s.cfg.fan.stepDuty (s.cfg.fan.cap n) < (s.chan d).applied then s.FanCut (s.setShed n) d
    else ((s.setShed n).chan d).st = .run ∧ ((s.setShed n).chan d).applied = (s.chan d).applied ∧
      (s.setShed n).gates.out[d] = s.gates.out[d] := by
  have hcfg := s.reshed_cfg n
  have hgates := s.reshed_gates n
  have hcap : (s.reshed n).capDuty = s.cfg.fan.stepDuty (s.cfg.fan.cap n) := by
    rw [State.capDuty, s.reshed_cfg n, s.reshed_sup n]
  have hout : d ∉ s.queued := fun hm => by
    rw [(hq.2.1 d).mp hm] at hst
    cases hst
  have hruns : s.RunsAs d (s.chan d).undemanded := ⟨rfl, hst, hout⟩
  have hreshed := State.reshed_runs hruns n
  have hfan : (s.reshed n).fanChannel = some d := (State.fanChannel_congr hcfg).trans hd
  have hwrites := State.FanWrites.fanRetarget (s.reshed n)
  have ht := hreshed.fanWrites hwrites
  obtain ⟨happlied, htrips⟩ := ht.kept
  have hfan' : (s.reshed n).fanRetarget.fanChannel = some d := (State.fanChannel_congr hwrites.cfg).trans hfan
  rw [State.setShed_eq, State.fanShed_eq hfan, hcap, happlied]
  simp only [and_iff_right ht.run]
  split
  · have hcut := State.fanRecut_cut hfan'
    exact { hcut with trips := hcut.trips.trans htrips, demand := by rw [hcut.demand, hwrites.cfg, hcfg] }
  · exact ⟨ht.run, happlied, congrArg (fun x : Gates => x.out[d]) (hwrites.gates.trans hgates)⟩

end Sys2Proof.Machine

open Sys2Proof Sys2Proof.Machine

/-- Settles O34: the moments by `State.shedRiseDue` and `State.shedFallDue`, the effects by `State.setShed`. -/
theorem shedLevelMoves : Obligations.ShedLevelMoves := by
  unfold Obligations.ShedLevelMoves
  intro c level s may rises falls
  have hrise : exec .shedRise s = .next (if s.shedRiseDue then s.setShed (s.sup.shed + 1) else s) := rfl
  have hfall : exec .shedFall s = .next (if s.shedFallDue then s.setShed (s.sup.shed - 1) else s) := rfl
  refine ⟨fun h => ?_, fun h => ?_, fun hmoves => ⟨s.setShed level, ?_, s.setShed_sup level, s.setShed_slot level,
    s.setShed_evaluated level, s.setShed_result level, fun d hq hd hst => ?_, s.setShed_target level, s.setShed_only level⟩⟩
  · rw [hrise, if_neg (mt s.shedRiseDue_iff.mp h)]
  · rw [hfall, if_neg (mt s.shedFallDue_iff.mp h)]
  · rcases hmoves with ⟨rfl, hdue, rfl⟩ | ⟨rfl, hdue, hlevel⟩
    · rw [hrise, if_pos (s.shedRiseDue_iff.mpr hdue)]
    · rw [hfall, if_pos (s.shedFallDue_iff.mpr hdue), ← hlevel, Nat.add_sub_cancel]
  · intro cap
    have hfan := State.setShed_fan hq hd hst level
    split
    · rename_i hcut
      obtain ⟨hoff, happlied, hprev, hgate, hcount, htrips, hrequest, hstate, hdemand⟩ :=
        (if_pos hcut).mp hfan
      exact ⟨hoff, happlied, hprev, hgate, hcount, htrips, hrequest, hstate, hdemand⟩
    · rename_i hcut
      exact (if_neg hcut).mp hfan
end

section
/-! SUPPORT. What the gauge unit's own actions make of a slot and of the events (R142 to R151), one slot and all three. -/

namespace Sys2Proof.Machine
open Sys2Proof

/-! ### An event raised twice, and two kinds of event -/

/-- A slot after two kinds of event are raised to it (R181). -/
def State.raisedBoth (s : State) (k l : EventKind) (m : SlotId) : Slot :=
  { s.slot m with pending := (s.slot m).pending ||| ((k.bit ||| l.bit) &&& (s.slotRec m).mask) }

section
variable {s t : State} {k l : EventKind} {m : SlotId} (hcfg : t.cfg = s.cfg)
include hcfg

theorem State.raisedTo_again (h : t.slot m = s.raisedTo k m) : t.raisedTo k m = s.raisedTo k m := by
  have hrec : t.slotRec m = s.slotRec m := State.slotRec_congr (congrArg Working.slots hcfg) m
  unfold State.raisedTo at h ⊢
  rw [h, hrec]
  simp only [BitVec.or_assoc, BitVec.or_self]

theorem State.raisedTo_other (h : t.slot m = s.raisedTo k m) : t.raisedTo l m = s.raisedBoth k l m := by
  have hrec : t.slotRec m = s.slotRec m := State.slotRec_congr (congrArg Working.slots hcfg) m
  have hbits (p x y m : EventSet) : p ||| (x &&& m) ||| (y &&& m) = p ||| ((x ||| y) &&& m) := by
    rw [BitVec.or_assoc]
    congr 1
    ext i hi
    simp only [BitVec.getElem_or, BitVec.getElem_and, Bool.and_or_distrib_right]
  unfold State.raisedTo State.raisedBoth at *
  rw [h, hrec]
  simp only [hbits]

theorem State.raisedTo_same (h : t.slots = s.slots) : t.raisedTo k m = s.raisedTo k m :=
  State.raisedTo_congr (State.slot_congr h m) (State.slotRec_congr (congrArg Working.slots hcfg) m) k

end

theorem State.raisedBoth_comm (s : State) (k l : EventKind) (m : SlotId) : s.raisedBoth k l m = s.raisedBoth l k m := by
  unfold State.raisedBoth
  rw [BitVec.or_comm k.bit]

/-- GAUGE is raised exactly where `p` holds. -/
structure State.RaisesGauge (s t : State) (p : Prop) : Prop where
  raised : p → ∀ m : SlotId, t.slot m = s.raisedTo .gauge m
  quiet : ¬ p → t.slots = s.slots

namespace State.RaisesGauge

variable {s t u : State} {p q : Prop}

theorem congr (h : s.RaisesGauge t p) (hpq : p ↔ q) : s.RaisesGauge t q :=
  ⟨fun hq => h.raised (hpq.mpr hq), fun hq => h.quiet (mt hpq.mp hq)⟩

theorem of_slots (h : t.slots = s.slots) (hp : ¬ p) : s.RaisesGauge t p := ⟨fun hp' => absurd hp' hp, fun _ => h⟩

theorem trans (h : s.RaisesGauge t p) (hcfg : t.cfg = s.cfg) (k : t.RaisesGauge u q) : s.RaisesGauge u (p ∨ q) where
  raised hr m := by
    by_cases hp : p
    · have ht := h.raised hp m
      by_cases hq : q
      · rw [k.raised hq m, State.raisedTo_again hcfg ht]
      · rw [State.slot_congr (k.quiet hq), ht]
    · rw [k.raised (hr.resolve_left hp) m, State.raisedTo_same hcfg (h.quiet hp)]
  quiet hr := (k.quiet (mt .inr hr)).trans (h.quiet (mt .inl hr))

end State.RaisesGauge

/-! ### One slot's action -/

/-- What the gauge unit's actions read beside the slots and leave as it is. -/
def State.gaugeReads (s : State) : Working × Power × Supervisor × Sequencer := (s.cfg, s.power, s.sup, s.seq)

/-- An action of gauge slot `g`: it makes the slot `x`, leaves the other two, and raises GAUGE exactly where it
`raises`. -/
structure State.ActsOn (s t : State) (g : GaugeId) (x : GaugeSlot) (raises : Prop) : Prop where
  reads : t.gaugeReads = s.gaugeReads
  own : t.gauge g = x
  others : ∀ o : GaugeId, o ≠ g → t.gauge o = s.gauge o
  event : s.RaisesGauge t raises

theorem State.cfg_of_reads {s t : State} (h : t.gaugeReads = s.gaugeReads) : t.cfg = s.cfg := congrArg (·.1) h
theorem State.power_of_reads {s t : State} (h : t.gaugeReads = s.gaugeReads) : t.power = s.power := congrArg (·.2.1) h
theorem State.sup_of_reads {s t : State} (h : t.gaugeReads = s.gaugeReads) : t.sup = s.sup := congrArg (·.2.2.1) h
theorem State.seq_of_reads {s t : State} (h : t.gaugeReads = s.gaugeReads) : t.seq = s.seq := congrArg (·.2.2.2) h

namespace State.ActsOn

variable {s t u : State} {g : GaugeId} {x y : GaugeSlot} {p q : Prop}

theorem stay (hx : s.gauge g = x) (hp : ¬ p) : s.ActsOn s g x p := ⟨rfl, hx, fun _ _ => rfl, .of_slots rfl hp⟩

theorem congr (h : s.ActsOn t g x p) (hpq : p ↔ q) : s.ActsOn t g x q := { h with event := h.event.congr hpq }

theorem trans (h : s.ActsOn t g x p) (k : t.ActsOn u g y q) : s.ActsOn u g y (p ∨ q) where
  reads := k.reads.trans h.reads
  own := k.own
  others o ho := (k.others o ho).trans (h.others o ho)
  event := h.event.trans (State.cfg_of_reads h.reads) k.event

theorem setGauge (s : State) (g : GaugeId) (x : GaugeSlot) : s.ActsOn (s.setGauge g x) g x False :=
  ⟨rfl, by simp, fun o ho => s.setGauge_other ho x, .of_slots rfl id⟩

theorem raise (s : State) (g : GaugeId) : s.ActsOn (s.raise .gauge) g (s.gauge g) True :=
  ⟨by simp [State.gaugeReads], s.raise_gauge _ g, fun o _ => s.raise_gauge _ o, fun _ m => s.raise_slot _ m,
    fun h => absurd trivial h⟩

/-- A duty written (R152). -/
theorem write (s : State) (g : GaugeId) (x : GaugeSlot) (d : Nat) :
    s.ActsOn ((s.setGauge g x).gaugeWrite g d) g { x with duty := d } False :=
  ⟨by simp [State.gaugeReads], by simp [State.gaugeWrite_gauge], fun o ho => s.gaugeWrite_other ho x d,
    .of_slots (by simp) id⟩

/-- A slot written, and GAUGE raised. -/
theorem raising (h : s.ActsOn t g x p) : s.ActsOn (t.raise .gauge) g x True :=
  (h.trans (h.own ▸ raise t g)).congr (by simp)

end State.ActsOn

/-! ### What a slot becomes -/

namespace GaugeSlot

/-- A recomputation in ACTIVE (R148 to R151). -/
def recomputed (r : GaugeRec) (vf : Option Nat) (x : GaugeSlot) : GaugeSlot :=
  match r.targetOf x.average, vf with
  | some vt, some n =>
    if x.st = .active then { x with vt := some vt, under := gaugeUnder vt n, duty := gaugeDuty vt n } else x
  | _, _ => x

/-- An entry to FAULT_REST (R146). -/
def rested (x : GaugeSlot) : GaugeSlot := { x with st := .faultRest, timer := none, under := false, duty := 0 }

/-- An entry to FAULT_HOLD, which a fault hold of 0 passes through (R146). -/
def faulted (r : GaugeRec) (x : GaugeSlot) : GaugeSlot :=
  let y := { x with st := .faultHold, recoveryRun := 0, timer := some r.faultHold }
  if r.faultHold = 0 then y.rested else y

/-- A return to ACTIVE with one reading in the ring, before its recomputation (R147). -/
def readmitted (v : Option Nat) (x : GaugeSlot) : GaugeSlot :=
  { x with st := .active, timer := none, faultRun := 0, recoveryRun := 0, ring := v.toList,
           average := v.map fun n => ringAverage [n] }

/-- HELD in CRANK (R143). -/
def heldInCrank (x : GaugeSlot) : GaugeSlot := if x.st = .active then { x with st := .held } else x

/-- ACTIVE again in NORMAL (R143). -/
def released (r : GaugeRec) (vf : Option Nat) (x : GaugeSlot) : GaugeSlot :=
  if x.st = .held then recomputed r vf { x with st := .active } else x

variable {r : GaugeRec} {vf : Option Nat} {x : GaugeSlot}

theorem recomputed_active {vt n : Nat} (hst : x.st = .active) (ht : r.targetOf x.average = some vt) :
    x.recomputed r (some n) = { x with vt := some vt, under := gaugeUnder vt n, duty := gaugeDuty vt n } := by
  simp [recomputed, ht, hst]

theorem recomputed_inactive (h : x.st ≠ .active) : x.recomputed r vf = x := by
  unfold recomputed
  split
  · rw [if_neg h]
  · rfl

theorem recomputed_none (h : r.targetOf x.average = none ∨ vf = none) : x.recomputed r vf = x := by
  unfold recomputed
  rcases h with h | h
  · rw [h]
  · rw [h]
    cases r.targetOf x.average <;> rfl

/-- A recomputation sets the target, the duty and UNDERDRIVE, and nothing else. -/
theorem recomputed_only (r : GaugeRec) (vf : Option Nat) (x : GaugeSlot) :
    x.recomputed r vf = { x with
      vt := (x.recomputed r vf).vt, under := (x.recomputed r vf).under, duty := (x.recomputed r vf).duty } := by
  unfold recomputed
  split
  · split <;> rfl
  · rfl

theorem recomputed_st (r : GaugeRec) (vf : Option Nat) (x : GaugeSlot) : (x.recomputed r vf).st = x.st := by
  rw [recomputed_only]

theorem recomputed_average (r : GaugeRec) (vf : Option Nat) (x : GaugeSlot) :
    (x.recomputed r vf).average = x.average := by
  rw [recomputed_only]

/-- A second recomputation replaces the first. -/
theorem recomputed_again (r : GaugeRec) (vf : Option Nat) {n vt : Nat} (hst : x.st = .active)
    (ht : r.targetOf x.average = some vt) : (x.recomputed r vf).recomputed r (some n) = x.recomputed r (some n) := by
  rw [recomputed_active ((recomputed_st r vf x).trans hst) ((congrArg _ (recomputed_average r vf x)).trans ht),
    recomputed_active hst ht, recomputed_only r vf x]

end GaugeSlot

/-! ### The actions -/

theorem State.gaugeTarget_eq (s : State) (g : GaugeId) :
    s.gaugeTarget g = (s.gaugeRec g).targetOf (s.gauge g).average := rfl

namespace State.ActsOn

theorem gaugeRecompute (s : State) (g : GaugeId) :
    s.ActsOn (s.gaugeRecompute g) g ((s.gauge g).recomputed (s.gaugeRec g) s.sup.vf)
      (((s.gauge g).recomputed (s.gaugeRec g) s.sup.vf).under ≠ (s.gauge g).under) := by
  have hstay (h : (s.gauge g).recomputed (s.gaugeRec g) s.sup.vf = s.gauge g) :
      s.ActsOn s g ((s.gauge g).recomputed (s.gaugeRec g) s.sup.vf)
        (((s.gauge g).recomputed (s.gaugeRec g) s.sup.vf).under ≠ (s.gauge g).under) :=
    .stay h.symm (by simp [h])
  unfold State.gaugeRecompute
  cases ht : s.gaugeTarget g with
  | none => exact hstay (GaugeSlot.recomputed_none (.inl ht))
  | some vt =>
    rcases hv : s.sup.vf with _ | n
    · rw [hv] at hstay
      exact hstay (GaugeSlot.recomputed_none (.inr rfl))
    · rw [hv] at hstay
      by_cases hst : (s.gauge g).st = .active
      · dsimp only
        rw [if_pos hst, GaugeSlot.recomputed_active hst ht]
        have hwrite := write s g { s.gauge g with vt := some vt, under := gaugeUnder vt n } (gaugeDuty vt n)
        by_cases hu : gaugeUnder vt n = (s.gauge g).under
        · rw [if_pos hu]
          exact hwrite.congr (by simp [hu])
        · rw [if_neg hu]
          exact hwrite.raising.congr (by simp [hu])
      · dsimp only
        rw [if_neg hst]
        exact hstay (GaugeSlot.recomputed_inactive hst)

/-- A slot written and then recomputed. -/
theorem setGauge_recompute (s : State) (g : GaugeId) (x : GaugeSlot) :
    s.ActsOn ((s.setGauge g x).gaugeRecompute g) g (x.recomputed (s.gaugeRec g) s.sup.vf)
      ((x.recomputed (s.gaugeRec g) s.sup.vf).under ≠ x.under) := by
  have hset := setGauge s g x
  have hrecompute := gaugeRecompute (s.setGauge g x) g
  rw [hset.own] at hrecompute
  exact (hset.trans hrecompute).congr (or_iff_right id)

theorem gaugeRest (s : State) (g : GaugeId) : s.ActsOn (s.gaugeRest g) g (s.gauge g).rested True :=
  (write s g _ 0).raising

theorem gaugeFault (s : State) (g : GaugeId) : s.ActsOn (s.gaugeFault g) g ((s.gauge g).faulted (s.gaugeRec g)) True := by
  have hhold := (setGauge s g { s.gauge g with
    st := .faultHold, recoveryRun := 0, timer := some (s.gaugeRec g).faultHold }).raising
  unfold State.gaugeFault GaugeSlot.faulted
  dsimp only
  split
  · have hrest := gaugeRest ((s.setGauge g { s.gauge g with
      st := .faultHold, recoveryRun := 0, timer := some (s.gaugeRec g).faultHold }).raise .gauge) g
    rw [hhold.own] at hrest
    exact (hhold.trans hrest).congr (by simp)
  · exact hhold

theorem gaugeRecover (s : State) (g : GaugeId) :
    s.ActsOn (s.gaugeRecover g) g
      (((s.gauge g).readmitted (s.value (.sender (s.gaugeRec g).sender)).value).recomputed (s.gaugeRec g) s.sup.vf)
      True :=
  (setGauge_recompute s g _).raising

theorem gaugeHold (s : State) (g : GaugeId) : s.ActsOn (s.gaugeHold g) g (s.gauge g).heldInCrank False := by
  unfold State.gaugeHold GaugeSlot.heldInCrank
  split
  · exact setGauge s g _
  · exact stay rfl id

theorem gaugeRelease (s : State) (g : GaugeId) :
    s.ActsOn (s.gaugeRelease g) g ((s.gauge g).released (s.gaugeRec g) s.sup.vf)
      (((s.gauge g).released (s.gaugeRec g) s.sup.vf).under ≠ (s.gauge g).under) := by
  unfold State.gaugeRelease GaugeSlot.released
  split
  · exact setGauge_recompute s g _
  · exact stay rfl (by simp)

end State.ActsOn

/-! ### All three slots -/

/-- The three slots have acted: each is as `x` says, and GAUGE is raised exactly where one of them `raises`. -/
structure State.GaugesAct (s t : State) (x : GaugeId → GaugeSlot) (raises : GaugeId → Prop) : Prop where
  reads : t.gaugeReads = s.gaugeReads
  gauge : ∀ g : GaugeId, t.gauge g = x g
  event : s.RaisesGauge t (∃ g : GaugeId, raises g)

theorem GaugeId.exists_iff {p : GaugeId → Prop} : (∃ g : GaugeId, p g) ↔ (p .g1 ∨ p .g2) ∨ p .g3 := by
  refine ⟨fun ⟨g, hg⟩ => ?_, fun h => ?_⟩
  · cases g with
    | g1 => exact .inl (.inl hg)
    | g2 => exact .inl (.inr hg)
    | g3 => exact .inr hg
  · rcases h with (h | h) | h <;> exact ⟨_, h⟩

/-- The slots act one after another, none on what another reads. -/
theorem State.GaugesAct.of_each {s : State} {f : State → GaugeId → State} {x : GaugeId → GaugeSlot}
    {raises : GaugeId → Prop}
    (h : ∀ (t : State) (g : GaugeId), t.gaugeReads = s.gaugeReads → t.gauge g = s.gauge g →
      t.ActsOn (f t g) g (x g) (raises g)) : s.GaugesAct (allGauges.foldl f s) x raises := by
  have h1 := h s .g1 rfl rfl
  have h2 := h (f s .g1) .g2 h1.reads (h1.others .g2 (by decide))
  have h3 := h (f (f s .g1) .g2) .g3 (h2.reads.trans h1.reads)
    ((h2.others .g3 (by decide)).trans (h1.others .g3 (by decide)))
  have hreads := h2.reads.trans h1.reads
  refine ⟨h3.reads.trans hreads, fun g => ?_, ?_⟩
  · cases g with
    | g1 => exact ((h3.others .g1 (by decide)).trans (h2.others .g1 (by decide))).trans h1.own
    | g2 => exact (h3.others .g2 (by decide)).trans h2.own
    | g3 => exact h3.own
  · exact ((h1.event.trans (State.cfg_of_reads h1.reads) h2.event).trans (State.cfg_of_reads hreads) h3.event).congr
      GaugeId.exists_iff.symm

theorem State.gaugeRec_of_reads {s t : State} (h : t.gaugeReads = s.gaugeReads) (g : GaugeId) :
    t.gaugeRec g = s.gaugeRec g := congrArg (fun x : Working => x.gauges.get g) (State.cfg_of_reads h)

/-- A change of Vf handed over (R114, R151). -/
theorem State.gaugesRecompute_acts (s : State) :
    s.GaugesAct s.gaugesRecompute (fun g => (s.gauge g).recomputed (s.gaugeRec g) s.sup.vf)
      fun g => ((s.gauge g).recomputed (s.gaugeRec g) s.sup.vf).under ≠ (s.gauge g).under :=
  .of_each fun t g hr hg => by
    have h := State.ActsOn.gaugeRecompute t g
    rwa [hg, State.gaugeRec_of_reads hr, State.sup_of_reads hr] at h

/-- The slots released from HELD (R143). -/
theorem State.gaugesRelease_act (s : State) :
    s.GaugesAct (allGauges.foldl State.gaugeRelease s) (fun g => (s.gauge g).released (s.gaugeRec g) s.sup.vf)
      fun g => ((s.gauge g).released (s.gaugeRec g) s.sup.vf).under ≠ (s.gauge g).under :=
  .of_each fun t g hr hg => by
    have h := State.ActsOn.gaugeRelease t g
    rwa [hg, State.gaugeRec_of_reads hr, State.sup_of_reads hr] at h

/-- The slots held (R143). -/
theorem State.gaugesHold_act (s : State) :
    s.GaugesAct (allGauges.foldl State.gaugeHold s) (fun g => (s.gauge g).heldInCrank) fun _ => False :=
  .of_each fun t g _ hg => hg ▸ State.ActsOn.gaugeHold t g

/-! ### Readings already taken -/

/-- Readings already taken have brought the slot a fault or its recovery (R144, R146, R147). -/
def State.readingDue (s : State) (g : GaugeId) : Prop := s.faultEntryDue g = true ∨ s.recoveryDue g = true

/-- What they bring it. -/
def State.finishedSlot (s : State) (g : GaugeId) : GaugeSlot :=
  if s.faultEntryDue g then (s.gauge g).faulted (s.gaugeRec g)
  else if s.recoveryDue g then
    ((s.gauge g).readmitted (s.value (.sender (s.gaugeRec g).sender)).value).recomputed (s.gaugeRec g) s.sup.vf
  else s.gauge g

theorem State.ActsOn.gaugeFinishReading (s : State) (g : GaugeId) :
    s.ActsOn (s.gaugeFinishReading g) g (s.finishedSlot g) (s.readingDue g) := by
  unfold State.gaugeFinishReading State.finishedSlot State.readingDue
  split
  · exact (gaugeFault s g).congr (by simp [*])
  · split
    · exact (gaugeRecover s g).congr (by simp [*])
    · exact stay rfl (by simp [*])

theorem State.gaugesFinishReading_act (s : State) :
    s.GaugesAct (allGauges.foldl State.gaugeFinishReading s) s.finishedSlot s.readingDue :=
  .of_each fun t g hr hg => by
    have hfault : t.faultEntryDue g = s.faultEntryDue g := by
      rw [State.faultEntryDue, State.faultEntryDue, State.running, State.running, State.power_of_reads hr, hg]
    have hrecovery : t.recoveryDue g = s.recoveryDue g := by
      rw [State.recoveryDue, State.recoveryDue, State.running, State.running, State.power_of_reads hr, hg,
        State.cranking, State.cranking, State.sup_of_reads hr]
    have hvalue (x : Source) : t.value x = s.value x := by rw [State.value, State.value, State.seq_of_reads hr]
    have h := State.ActsOn.gaugeFinishReading t g
    have hslot : t.finishedSlot g = s.finishedSlot g := by
      unfold State.finishedSlot
      rw [hfault, hrecovery, hg, State.gaugeRec_of_reads hr, State.sup_of_reads hr, hvalue]
    rwa [hslot, State.readingDue, hfault, hrecovery] at h

end Sys2Proof.Machine
end

section
/-! SUPPORT. The filtering of a bus sample (R112, R114, R119, R120), and what the gauge unit leaves apart: the fan unit
and the channels that are no GAUGE channels. -/

namespace Sys2Proof.Machine
open Sys2Proof

/-! ### What the gauge unit leaves apart -/

/-- Gauge slots are bound to GAUGE channels only, and the fan channel is none. -/
structure State.FanApart (s : State) : Prop where
  bound : s.BoundAreGauges
  fan : ∀ c : Channel, s.fanChannel = some c → (s.chRec c).kind ≠ .gauge

theorem State.Wired.fanApart {s : State} (h : s.Wired) : s.FanApart :=
  ⟨h.bound, fun c hc hk => by rw [h.map.fan_motor hc] at hk; cases hk⟩

theorem State.FanApart.congr {s t : State} (hcfg : t.cfg = s.cfg) (h : s.FanApart) : t.FanApart where
  bound g c hb := by
    rw [State.chRec_congr hcfg]
    exact h.bound g c (by rwa [State.gaugeRec, hcfg] at hb)
  fan c hc := by
    rw [State.chRec_congr hcfg]
    exact h.fan c (by rwa [State.fanChannel_congr hcfg] at hc)

/-- The gauge unit has acted: with the fan channel apart, the fan and the channels that are no GAUGE channels stand. -/
structure State.LeavesApart (s t : State) : Prop where
  cfg : t.cfg = s.cfg
  rest : s.FanApart → t.fan = s.fan ∧ ∀ c : Channel, (s.chRec c).kind ≠ .gauge → t.chan c = s.chan c

namespace State.LeavesApart

variable {s t u : State}

theorem of_eq (hcfg : t.cfg = s.cfg) (hfan : t.fan = s.fan) (hc : t.chans = s.chans) : s.LeavesApart t :=
  ⟨hcfg, fun _ => ⟨hfan, fun c _ => State.chan_congr hc c⟩⟩

theorem trans (h : s.LeavesApart t) (k : t.LeavesApart u) : s.LeavesApart u where
  cfg := k.cfg.trans h.cfg
  rest ha := by
    obtain ⟨hfan, hc⟩ := h.rest ha
    obtain ⟨kfan, kc⟩ := k.rest (ha.congr h.cfg)
    exact ⟨kfan.trans hfan, fun c hk => (kc c (by rwa [State.chRec_congr h.cfg])).trans (hc c hk)⟩

theorem ite {p : Prop} [Decidable p] (ht : s.LeavesApart t) (hu : s.LeavesApart u) :
    s.LeavesApart (if p then t else u) := by
  split
  · exact ht
  · exact hu

theorem foldl {α : Type} {f : State → α → State} (hf : ∀ (v : State) (a : α), v.LeavesApart (f v a)) (l : List α) :
    s.LeavesApart (l.foldl f s) :=
  List.foldlRecOn (motive := fun t : State => s.LeavesApart t) l f (of_eq rfl rfl rfl) fun v hv a _ => hv.trans (hf v a)

theorem raise (s : State) (k : EventKind) : s.LeavesApart (s.raise k) := of_eq (by simp) (by simp) (by simp)

theorem modChan (s : State) {c : Channel} (f : Chan → Chan) (hk : s.FanApart → (s.chRec c).kind = .gauge) :
    s.LeavesApart (s.modChan c f) := by
  refine ⟨rfl, fun ha => ⟨rfl, fun d hd => ?_⟩⟩
  have hcd : c ≠ d := fun he => hd (he ▸ hk ha)
  rw [State.chan_modChan, if_neg hcd]

theorem releaseIfDue (s : State) {c : Channel} (hk : s.FanApart → (s.chRec c).kind = .gauge) :
    s.LeavesApart (s.releaseIfDue c) := by
  refine ite ⟨by simp, fun ha => ?_⟩ (of_eq rfl rfl rfl)
  have hfan : s.isFan c = false := State.isFan_false_iff.mpr fun hc => ha.fan c hc (hk ha)
  rw [State.release, State.ifFan_notFan (s := s.modChan c _) hfan]
  exact (modChan s _ hk).rest ha

theorem gaugeWrite (s : State) (g : GaugeId) (d : Nat) : s.LeavesApart (s.gaugeWrite g d) := by
  unfold State.gaugeWrite
  dsimp only
  split
  · exact of_eq rfl rfl rfl
  · rename_i c hb
    have hk : s.FanApart → (s.chRec c).kind = .gauge := fun ha => ha.bound g c hb
    have hset : s.LeavesApart (s.setGauge g { s.gauge g with duty := d }) := of_eq rfl rfl rfl
    have hk' {u : State} (hu : s.cfg = u.cfg) (ha : u.FanApart) : (u.chRec c).kind = .gauge := by
      rw [← State.chRec_congr hu]
      exact hk (ha.congr hu)
    have hdemand := hset.trans (modChan _ (fun ch => { ch with
      demand := d, source := .steady,
      onEdge := if d = 250 ∧ DemandSource.steady = .flash then ch.demand == 0 || ch.onEdge else false }) (hk' rfl))
    exact (hdemand.trans (modChan _ _ (hk' rfl))).trans (releaseIfDue _ (hk' rfl))

theorem gaugeRecompute (s : State) (g : GaugeId) : s.LeavesApart (s.gaugeRecompute g) := by
  unfold State.gaugeRecompute
  split
  · have hwrite (x : GaugeSlot) (d : Nat) : s.LeavesApart ((s.setGauge g x).gaugeWrite g d) :=
      (of_eq rfl rfl rfl : s.LeavesApart (s.setGauge g x)).trans (gaugeWrite _ g d)
    exact ite (ite (hwrite _ _) ((hwrite _ _).trans (raise _ _))) (of_eq rfl rfl rfl)
  · exact of_eq rfl rfl rfl

theorem gaugeRelease (s : State) (g : GaugeId) : s.LeavesApart (s.gaugeRelease g) :=
  ite ((of_eq rfl rfl rfl : s.LeavesApart (s.setGauge g _)).trans (gaugeRecompute _ g)) (of_eq rfl rfl rfl)

end State.LeavesApart

/-! ### The dwell counters -/

theorem SupplyRec.threshold_eq (r : SupplyRec) {k : Nat} (h : 0 < k) :
    r.threshold k = if k = 1 then r.shed1 else if k = 2 then r.shed2 else r.shed3 := by
  match k, h with
  | 1, _ => rfl
  | 2, _ => rfl
  | n + 3, _ => rw [if_neg (by omega), if_neg (by omega)]; rfl

/-- The rise counter counts a Vf below the next level's threshold (R119). -/
theorem Supervisor.countRise_eq (p : Supervisor) (r : SupplyRec) (vf : Nat) :
    p.countRise r vf = if p.shed < 3 then
      p.rise.map fun k => if vf < (if p.shed + 1 = 1 then r.shed1 else if p.shed + 1 = 2 then r.shed2 else r.shed3)
        then min r.dwell (k + 1) else 0 else none := by
  rw [Supervisor.countRise, r.threshold_eq (Nat.succ_pos _)]

/-- The fall counter counts a Vf above the present level's threshold and the hysteresis (R120). -/
theorem Supervisor.countFall_eq (p : Supervisor) (r : SupplyRec) (vf : Nat) :
    p.countFall r vf = if 0 < p.shed then
      p.fall.map fun k => if (if p.shed = 1 then r.shed1 else if p.shed = 2 then r.shed2 else r.shed3) + r.hysteresis < vf
        then min r.dwell (k + 1) else 0 else none := by
  unfold Supervisor.countFall
  split
  · rename_i h
    rw [r.threshold_eq h]
  · rfl

/-! ### A sample filtered -/

/-- `t` is `s` after a change of Vf, or without one: every slot in ACTIVE has recomputed where Vf has changed (R114,
R151), and GAUGE is raised exactly where an UNDERDRIVE has changed (R150, R153). -/
structure State.Refilters (s t : State) : Prop where
  apart : s.LeavesApart t
  gauge : (t.sup.vf = s.sup.vf ∧ ∀ g : GaugeId, t.gauge g = s.gauge g) ∨
    ∀ g : GaugeId, t.gauge g = (s.gauge g).recomputed (s.gaugeRec g) t.sup.vf
  event : s.RaisesGauge t (∃ g : GaugeId, (t.gauge g).under ≠ (s.gauge g).under)

theorem State.Refilters.of_same {s t : State} (hcfg : t.cfg = s.cfg) (hfan : t.fan = s.fan) (hc : t.chans = s.chans)
    (hg : t.gauges = s.gauges) (hslots : t.slots = s.slots) (hvf : t.sup.vf = s.sup.vf) : s.Refilters t := by
  have hgauge (g : GaugeId) : t.gauge g = s.gauge g := congrArg (fun x : PerGauge GaugeSlot => x.get g) hg
  exact ⟨.of_eq hcfg hfan hc, .inl ⟨hvf, hgauge⟩, .of_slots hslots fun ⟨g, h⟩ => h (by rw [hgauge])⟩

theorem State.Refilters.st {s t : State} (h : s.Refilters t) (g : GaugeId) : (t.gauge g).st = (s.gauge g).st := by
  rcases h.gauge with ⟨-, hg⟩ | hg
  · rw [hg]
  · rw [hg, GaugeSlot.recomputed_st]

/-- The supervisor after a sample is filtered and counted for dwell (R112, R114, R119, R120). -/
def Supervisor.filtered (p : Supervisor) (r : SupplyRec) (v : Nat) : Supervisor :=
  { p with vf := some (filterStep p.vf v), rise := p.countRise r (filterStep p.vf v),
           fall := p.countFall r (filterStep p.vf v) }

section
variable (s : State) (v : Nat)

/-- The filtering in its two cases: a Vf that stands, and a new one. -/
theorem State.filterSample_eq : s.filterSample v =
    (if s.sup.vf = some (filterStep s.sup.vf v) then s.setSup { s.sup with vf := some (filterStep s.sup.vf v) }
      else (s.setSup { s.sup with vf := some (filterStep s.sup.vf v) }).gaugesRecompute).setSup
        (s.sup.filtered s.cfg.supply v) := by
  unfold State.filterSample
  dsimp only
  split
  · rfl
  · have hsup : (s.setSup { s.sup with vf := some (filterStep s.sup.vf v) }).gaugesRecompute.sup =
        { s.sup with vf := some (filterStep s.sup.vf v) } := by simp
    have hcfg : (s.setSup { s.sup with vf := some (filterStep s.sup.vf v) }).gaugesRecompute.cfg = s.cfg := by simp
    rw [hsup, hcfg]
    rfl

theorem State.filterSample_sup : (s.filterSample v).sup = s.sup.filtered s.cfg.supply v := by
  rw [State.filterSample_eq]
  rfl

theorem State.filterSample_stands (h : s.sup.vf = some (filterStep s.sup.vf v)) :
    s.filterSample v = s.setSup (s.sup.filtered s.cfg.supply v) := by
  rw [State.filterSample_eq, if_pos h]
  rfl

theorem State.filterSample_refilters : s.Refilters (s.filterSample v) := by
  by_cases h : s.sup.vf = some (filterStep s.sup.vf v)
  · rw [State.filterSample_stands s v h]
    exact .of_same rfl rfl rfl rfl rfl h.symm
  · have hacts := (s.setSup { s.sup with vf := some (filterStep s.sup.vf v) }).gaugesRecompute_acts
    have hapart : (s.setSup { s.sup with vf := some (filterStep s.sup.vf v) }).LeavesApart
        (s.setSup { s.sup with vf := some (filterStep s.sup.vf v) }).gaugesRecompute :=
      .foldl State.LeavesApart.gaugeRecompute _
    rw [State.filterSample_eq, if_neg h]
    generalize (s.setSup { s.sup with vf := some (filterStep s.sup.vf v) }).gaugesRecompute = t at hacts hapart
    have hgauge := hacts.gauge
    have hset : s.LeavesApart (s.setSup { s.sup with vf := some (filterStep s.sup.vf v) }) := .of_eq rfl rfl rfl
    have hcount : t.LeavesApart (t.setSup (s.sup.filtered s.cfg.supply v)) := .of_eq rfl rfl rfl
    have hevent := hacts.event.congr (exists_congr fun g => by rw [← hgauge g])
    exact ⟨(hset.trans hapart).trans hcount, .inr hgauge, hevent.raised, hevent.quiet⟩

end

end Sys2Proof.Machine
end

section
/-! SUPPORT. The entry to CRANK and the return to NORMAL (R115, R116, R118, R143, R165). -/

namespace Sys2Proof.Machine
open Sys2Proof

/-! ### When the crank state moves -/

theorem State.crankEntryDue_iff (s : State) : s.crankEntryDue = true ↔
    s.running = true ∧ s.sup.crank = .normal ∧ (2 ≤ s.sup.crankIn ∨ (s.input .start).filtered = some true) := by
  simp [State.crankEntryDue, State.cranking_false_iff, State.startActive, State.filtered, and_assoc]

theorem State.cranking_iff (s : State) : s.cranking = true ↔ s.sup.crank = .crank := by simp [State.cranking]

theorem State.crankExitDue_iff (s : State) : s.crankExitDue = true ↔
    s.running = true ∧ s.sup.crank = .crank ∧ 20 ≤ s.sup.crankOut ∧ (s.input .start).filtered ≠ some true := by
  simp [State.crankExitDue, State.cranking_iff, State.startActive, State.filtered, and_assoc]

theorem State.exec_crankEntry (s : State) : exec .crankEntry s = .next (if s.crankEntryDue then s.crankEnter else s) := rfl

theorem State.exec_crankExit (s : State) : exec .crankExit s = .next (if s.crankExitDue then s.crankLeave else s) := rfl

theorem State.exec_shedRise (s : State) :
    exec .shedRise s = .next (if s.shedRiseDue then s.setShed (s.sup.shed + 1) else s) := rfl

theorem State.exec_shedFall (s : State) :
    exec .shedFall s = .next (if s.shedFallDue then s.setShed (s.sup.shed - 1) else s) := rfl

/-! ### The fan unit -/

theorem State.fanCrankEntry_fan (s : State) : s.fanCrankEntry.fan =
    if s.fan.st = .starting ∨ s.fan.st = .kick ∨ s.fan.st = .ramp ∨ s.fan.st = .running then
      { s.fan with st := .suspended, ramp := 0, stallRun := 0 } else s.fan := by
  unfold State.fanCrankEntry
  cases hst : s.fan.st <;> simp [State.fanSuspend]

/-- In CRANK the fan channel's demand is 0, as it is where the fan did not drive it before (R165, R167). -/
theorem State.fanCrankEntry_demand {s : State} {c : Channel} (hc : s.fanChannel = some c) (hk : s.sup.crank = .crank)
    (hidle : s.fan.st = .stopped ∨ s.fan.st = .suspended → (s.chan c).demand = 0 ∧ (s.chan c).source = .steady) :
    (s.fanCrankEntry.chan c).demand = 0 ∧ (s.fanCrankEntry.chan c).source = .steady := by
  have hwrote (v : Fan) (n : Nat) (hn : n = 0) :
      (((s.setFan v).fanWrite n).chan c).demand = 0 ∧ (((s.setFan v).fanWrite n).chan c).source = .steady := by
    rw [State.setFan_fanWrite_own hc]
    exact ⟨hn, rfl⟩
  have hfault : s.faultedDemand = 0 := by
    rw [State.faultedDemand_crank, if_neg]
    rw [hk]
    simp
  unfold State.fanCrankEntry
  cases hst : s.fan.st with
  | stopped => exact hidle (.inl hst)
  | suspended => exact hidle (.inr hst)
  | starting => exact hwrote _ 0 rfl
  | kick => exact hwrote _ 0 rfl
  | ramp => exact hwrote _ 0 rfl
  | running => exact hwrote _ 0 rfl
  | faulted => exact hwrote s.fan _ hfault

theorem State.fanCrankExit_fan {s : State} (h : s.fan.st ≠ .suspended) : s.fanCrankExit.fan = s.fan := by
  unfold State.fanCrankExit
  cases hst : s.fan.st with
  | suspended => exact absurd hst h
  | faulted => exact State.setFan_fanWrite_fan s s.fan _
  | stopped => rfl
  | starting => rfl
  | kick => rfl
  | ramp => rfl
  | running => rfl

/-- The state of a fan that starts with its channel in a state (R160). -/
def ChState.fanStarts : ChState → FanState
  | .off | .waiting => .starting
  | .inrush => .kick
  | .run => .ramp
  | .cooling | .latched => .faulted

/-- A fan that starts in NORMAL enters the state that matches its channel's, and writes what that state writes (R160,
R167; log 44). -/
theorem State.fanStart_enters {s : State} {c : Channel} (hc : s.fanChannel = some c) (h0 : s.fan.target ≠ 0)
    (hk : s.sup.crank = .normal) :
    s.fanStart.fan.st = (s.chan c).st.fanStarts ∧ (s.fanStart.chan c).demand =
      if (s.chan c).st = .run then moveToward (s.chan c).applied s.fan.target s.cfg.fan.rampRate
      else s.cfg.fan.kickDuty := by
  have hwrote (v : Fan) (n : Nat) :
      ((s.setFan v).fanWrite n).fan.st = v.st ∧ (((s.setFan v).fanWrite n).chan c).demand = n := by
    rw [State.setFan_fanWrite_own hc, State.setFan_fanWrite_fan]
    exact ⟨rfl, rfl⟩
  have hfault (v : Fan) (hv : v.target = s.fan.target) : (s.setFan v).faultedDemand = s.cfg.fan.kickDuty := by
    rw [State.faultedDemand_crank]
    exact if_pos ⟨by simpa [hv] using h0, hk⟩
  unfold State.fanStart
  rw [hc]
  dsimp only
  cases hst : (s.chan c).st with
  | off => exact hwrote _ _
  | waiting => exact hwrote _ _
  | inrush => exact hwrote _ _
  | run => exact hwrote _ _
  | cooling =>
    obtain ⟨hfan, hdemand⟩ := hwrote { s.fan with st := .faulted, ramp := 0, stallRun := 0 } _
    exact ⟨hfan, hdemand.trans (hfault _ rfl)⟩
  | latched =>
    obtain ⟨hfan, hdemand⟩ := hwrote { s.fan with st := .faulted, ramp := 0, stallRun := 0 } _
    exact ⟨hfan, hdemand.trans (hfault _ rfl)⟩

end Sys2Proof.Machine
end

section
/-! SUPPORT. The two moves of the crank state in their parts (R115, R116, R118). -/

namespace Sys2Proof.Machine
open Sys2Proof

theorem State.gauge_congr {s t : State} (h : t.gauges = s.gauges) (g : GaugeId) : t.gauge g = s.gauge g :=
  congrArg (fun x : PerGauge GaugeSlot => x.get g) h

theorem State.gaugeRec_congr {s t : State} (h : t.cfg = s.cfg) (g : GaugeId) : t.gaugeRec g = s.gaugeRec g :=
  congrArg (fun x : Working => x.gauges.get g) h

theorem State.fanCrankEntry_gauge (s : State) (g : GaugeId) : s.fanCrankEntry.gauge g = s.gauge g :=
  State.gauge_congr (by simp only [State.fanCrankEntry_frame]) g

theorem State.fanCrankExit_gauge (s : State) (g : GaugeId) : s.fanCrankExit.gauge g = s.gauge g :=
  State.gauge_congr (by simp only [State.fanCrankExit_frame]) g

theorem State.endTick_gauge (s : State) (g : GaugeId) : s.endTick.gauge g = s.gauge g := rfl

/-- The crank state written, both counters 0, and CRANK raised (R118). -/
def State.crankState (s : State) (k : CrankState) : State :=
  (s.setSup { s.sup with crank := k, crankIn := 0, crankOut := 0, inHand := none }).raise .crank

section
variable (s : State) (k : CrankState)

theorem State.crankState_sup :
    (s.crankState k).sup = { s.sup with crank := k, crankIn := 0, crankOut := 0, inHand := none } := by
  simp [State.crankState]

theorem State.crankState_cfg : (s.crankState k).cfg = s.cfg := by simp [State.crankState]

theorem State.crankState_flash : (s.crankState k).flash = s.flash := by simp [State.crankState]

theorem State.crankState_fan : (s.crankState k).fan = s.fan := by simp [State.crankState]

theorem State.crankState_chan (c : Channel) : (s.crankState k).chan c = s.chan c := State.chan_congr (by simp [State.crankState]) c

theorem State.crankState_slot (m : SlotId) : (s.crankState k).slot m = s.raisedTo .crank m := State.raise_slot _ _ m

theorem State.crankState_gauge (g : GaugeId) : (s.crankState k).gauge g = s.gauge g := State.raise_gauge _ _ g

end

/-! ### The entry to CRANK -/

/-- What readings already handled have brought the slots comes before an entry (R144; log 26). -/
def State.finishedReadings (s : State) : State := allGauges.foldl State.gaugeFinishReading s

theorem State.crankEnter_eq (s : State) : s.crankEnter =
    (allGauges.foldl State.gaugeHold (s.finishedReadings.crankState .crank).fanCrankEntry).endTick := by
  unfold State.crankEnter State.finishedReadings State.crankState
  rfl

section
variable (s : State)

/-- The slots are held, and nothing else is written by it (R143). -/
theorem State.gaugesHold_frame {β : Type} (rd : State → β) (h : ∀ (t : State) (v : PerGauge GaugeSlot),
    rd { t with gauges := v } = rd t) : rd (allGauges.foldl State.gaugeHold s) = rd s :=
  foldl_keep rd _ (fun t g => State.gaugeHold_keep rd h t g) _ s

theorem State.finishedReadings_moves : s.GaugeMoves s.finishedReadings := .foldl State.GaugeMoves.gaugeFinishReading _

theorem State.crankEnter_sup : s.crankEnter.sup = { s.sup with crank := .crank, crankIn := 0, crankOut := 0, inHand := none } := by
  rw [State.crankEnter_eq]
  simp only [State.endTick_frame, State.gaugesHold_frame _ (·.sup) fun _ _ => rfl, State.fanCrankEntry_frame,
    State.crankState_sup, s.finishedReadings_moves.sup]

theorem State.crankEnter_flash : s.crankEnter.flash = { s.flash with tick := none, tone := false } := by
  have hflash : (allGauges.foldl State.gaugeHold (s.finishedReadings.crankState .crank).fanCrankEntry).flash = s.flash := by
    simp only [State.gaugesHold_frame _ (·.flash) fun _ _ => rfl, State.fanCrankEntry_frame, State.crankState_flash,
      s.finishedReadings_moves.flash]
  rw [State.crankEnter_eq, State.endTick, hflash]
  rfl

theorem State.crankEnter_gauge (g : GaugeId) : s.crankEnter.gauge g = (s.finishedSlot g).heldInCrank := by
  have hslot : (s.finishedReadings.crankState .crank).fanCrankEntry.gauge g = s.finishedSlot g := by
    rw [State.fanCrankEntry_gauge, State.crankState_gauge]
    exact s.gaugesFinishReading_act.gauge g
  rw [State.crankEnter_eq, State.endTick_gauge, (State.gaugesHold_act _).gauge, hslot]

theorem State.crankEnter_slot_eq (m : SlotId) : s.crankEnter.slot m = s.finishedReadings.raisedTo .crank m := by
  have hslots : s.crankEnter.slots = (s.finishedReadings.crankState .crank).slots := by
    rw [State.crankEnter_eq]
    simp only [State.endTick_frame, State.gaugesHold_frame _ (·.slots) fun _ _ => rfl, State.fanCrankEntry_frame]
  rw [State.slot_congr hslots, State.crankState_slot]

/-- CRANK is raised, and GAUGE with it where readings already handled have brought a slot something (R118, R153). -/
theorem State.crankEnter_slot (m : SlotId) :
    ((∃ g : GaugeId, s.readingDue g) → s.crankEnter.slot m = s.raisedBoth .crank .gauge m) ∧
    ((¬ ∃ g : GaugeId, s.readingDue g) → s.crankEnter.slot m = s.raisedTo .crank m) := by
  have hevent := s.gaugesFinishReading_act.event
  rw [State.crankEnter_slot_eq]
  refine ⟨fun hdue => ?_, fun hno => State.raisedTo_same s.finishedReadings_moves.cfg (hevent.quiet hno)⟩
  rw [State.raisedBoth_comm]
  exact State.raisedTo_other s.finishedReadings_moves.cfg (hevent.raised hdue m)

theorem State.pending_raised {p b k m : EventSet} (hb : b &&& k = k) (hm : m &&& k = k) : (p ||| (b &&& m)) &&& k = k := by
  ext i hi
  have hbi := congrArg (·[i]) hb
  have hmi := congrArg (·[i]) hm
  simp only [BitVec.getElem_and, BitVec.getElem_or] at hbi hmi ⊢
  cases hk : k[i] <;> simp_all

/-- CRANK is pending where the mask lets it, and the rest of a slot stands. -/
theorem State.crankEnter_crank (m : SlotId) :
    ((s.slotRec m).mask &&& EventKind.crank.bit = EventKind.crank.bit →
      (s.crankEnter.slot m).pending &&& EventKind.crank.bit = EventKind.crank.bit) ∧
    (s.crankEnter.slot m).st = (s.slot m).st ∧ (s.crankEnter.slot m).timer = (s.slot m).timer := by
  obtain ⟨hboth, hone⟩ := s.crankEnter_slot m
  by_cases hdue : ∃ g : GaugeId, s.readingDue g
  · rw [hboth hdue]
    exact ⟨State.pending_raised (by decide), rfl, rfl⟩
  · rw [hone hdue]
    exact ⟨State.pending_raised (by decide), rfl, rfl⟩

theorem State.crankEnter_of_entry {β : Type} (rd : State → β) (hg : ∀ (t : State) (v : PerGauge GaugeSlot),
    rd { t with gauges := v } = rd t) (hf : ∀ (t : State) (v : Flash), rd { t with flash := v } = rd t) :
    rd s.crankEnter = rd (s.finishedReadings.crankState .crank).fanCrankEntry :=
  (State.endTick_keep rd hf _).trans (State.gaugesHold_frame _ rd hg)

/-- The fan is suspended where it drove its channel, whose demand is then 0 (R165, R167). -/
theorem State.crankEnter_fan {s : State} (hw : s.Wired) (hfan : s.FanFollowsChannel) :
    s.crankEnter.fan = (if s.fan.st = .starting ∨ s.fan.st = .kick ∨ s.fan.st = .ramp ∨ s.fan.st = .running then
      { s.fan with st := .suspended, ramp := 0, stallRun := 0 } else s.fan) ∧
    ∀ c : Channel, s.fanChannel = some c → (s.crankEnter.chan c).demand = 0 ∧ (s.crankEnter.chan c).source = .steady := by
  obtain ⟨hstand, hchan⟩ := s.finishedReadings_moves.rest hw
  have hfan' : (s.finishedReadings.crankState .crank).fan = s.fan := (State.crankState_fan _ _).trans hstand
  refine ⟨?_, fun c hc => ?_⟩
  · rw [s.crankEnter_of_entry (·.fan) (fun _ _ => rfl) (fun _ _ => rfl), State.fanCrankEntry_fan, hfan']
  · obtain ⟨hdemand, hsource, -⟩ := hfan.2 c hc
    have hch : (s.finishedReadings.crankState .crank).chan c = s.chan c := by
      refine (State.crankState_chan _ _ c).trans ((hchan c).1 ?_)
      rw [hw.map.fan_motor hc]
      decide
    have hcfg : (s.finishedReadings.crankState .crank).cfg = s.cfg :=
      (State.crankState_cfg _ _).trans s.finishedReadings_moves.cfg
    rw [s.crankEnter_of_entry (·.chan c) (fun _ _ => rfl) (fun _ _ => rfl)]
    refine State.fanCrankEntry_demand (by rwa [State.fanChannel_congr hcfg]) (by rw [State.crankState_sup]) fun hidle => ?_
    rw [hfan'] at hidle
    rw [hch, hdemand]
    refine ⟨?_, hsource⟩
    rcases hidle with h | h <;> rw [State.fanDemand, h]

/-- An entry leaves everything else as it was. -/
theorem State.crankEnter_only : s.crankEnter = { s with
    slots := s.crankEnter.slots, chans := s.crankEnter.chans, flash := s.crankEnter.flash, sup := s.crankEnter.sup,
    gauges := s.crankEnter.gauges, fan := s.crankEnter.fan } := by
  obtain ⟨t, ht⟩ : ∃ t, s.crankEnter = t := ⟨_, rfl⟩
  have hkeep := s.crankEnter_keep (fun x => { x with
    slots := t.slots, chans := t.chans, flash := t.flash, sup := t.sup, gauges := t.gauges, fan := t.fan })
    (fun _ _ => rfl) (fun _ _ => rfl) (fun _ _ => rfl) (fun _ _ => rfl) (fun _ _ => rfl) (fun _ _ => rfl)
  rw [ht] at hkeep ⊢
  exact hkeep

end

/-! ### What an entry makes of a slot -/

section
variable {s : State} {g : GaugeId} (hrun : s.running = true)
include hrun

theorem State.faultEntryDue_iff : s.faultEntryDue g = true ↔ (s.gauge g).st = .active ∧ 4 ≤ (s.gauge g).faultRun := by
  simp [State.faultEntryDue, hrun]

variable (hcrank : s.sup.crank = .normal)
include hcrank

theorem State.recoveryDue_iff : s.recoveryDue g = true ↔
    ((s.gauge g).st = .faultHold ∨ (s.gauge g).st = .faultRest) ∧ 4 ≤ (s.gauge g).recoveryRun := by
  simp [State.recoveryDue, GaugeState.isFault, hrun, State.cranking, hcrank]

theorem State.readingDue_iff : s.readingDue g ↔ (s.gauge g).st = .active ∧ 4 ≤ (s.gauge g).faultRun ∨
    ((s.gauge g).st = .faultHold ∨ (s.gauge g).st = .faultRest) ∧ 4 ≤ (s.gauge g).recoveryRun := by
  rw [State.readingDue, State.faultEntryDue_iff hrun, State.recoveryDue_iff hrun hcrank]

end

theorem State.finishedSlot_stands {s : State} {g : GaugeId} (h : ¬ s.readingDue g) : s.finishedSlot g = s.gauge g := by
  obtain ⟨hf, hr⟩ := not_or.mp h
  rw [State.finishedSlot, if_neg hf, if_neg hr]

namespace GaugeSlot

theorem heldInCrank_active {x : GaugeSlot} (h : x.st = .active) : x.heldInCrank = { x with st := .held } := if_pos h

theorem heldInCrank_other {x : GaugeSlot} (h : x.st ≠ .active) : x.heldInCrank = x := if_neg h

theorem faulted_st (r : GaugeRec) (x : GaugeSlot) :
    (x.faulted r).st = if r.faultHold = 0 then .faultRest else .faultHold := by
  unfold faulted
  dsimp only
  split <;> rfl

theorem recovered_held (r : GaugeRec) (v vf : Option Nat) (x : GaugeSlot) :
    ((x.readmitted v).recomputed r vf).heldInCrank.st = .held := by
  rw [heldInCrank_active]
  exact recomputed_st r vf _

end GaugeSlot

/-- The slots at an entry (R143, R144, R146, R147). -/
theorem State.crankEnter_gauges {s : State} (hrun : s.running = true) (hcrank : s.sup.crank = .normal) (g : GaugeId) :
    ((s.gauge g).st = .off ∨ (s.gauge g).st = .held → s.crankEnter.gauge g = s.gauge g) ∧
    ((s.gauge g).st = .active → (s.gauge g).faultRun < 4 → s.crankEnter.gauge g = { s.gauge g with st := .held }) ∧
    ((s.gauge g).st = .active → 4 ≤ (s.gauge g).faultRun →
      (s.crankEnter.gauge g).st = if (s.gaugeRec g).faultHold = 0 then .faultRest else .faultHold) ∧
    ((s.gauge g).st = .faultHold ∨ (s.gauge g).st = .faultRest → (s.gauge g).recoveryRun < 4 →
      s.crankEnter.gauge g = s.gauge g) ∧
    ((s.gauge g).st = .faultHold ∨ (s.gauge g).st = .faultRest → 4 ≤ (s.gauge g).recoveryRun →
      (s.crankEnter.gauge g).st = .held) := by
  have hdue := State.readingDue_iff (g := g) hrun hcrank
  have hfault := State.faultEntryDue_iff (g := g) hrun
  have hrecovery := State.recoveryDue_iff (g := g) hrun hcrank
  rw [State.crankEnter_gauge]
  refine ⟨fun hst => ?_, fun hst hlt => ?_, fun hst hle => ?_, fun hst hlt => ?_, fun hst hle => ?_⟩
  · have hno : ¬ s.readingDue g := by rw [hdue]; rcases hst with h | h <;> simp [h]
    rw [State.finishedSlot_stands hno, GaugeSlot.heldInCrank_other]
    rcases hst with h | h <;> simp [h]
  · have hno : ¬ s.readingDue g := by rw [hdue]; simp [hst]; omega
    rw [State.finishedSlot_stands hno, GaugeSlot.heldInCrank_active hst]
  · have hst' := (s.gauge g).faulted_st (s.gaugeRec g)
    rw [State.finishedSlot, if_pos (hfault.mpr ⟨hst, hle⟩), GaugeSlot.heldInCrank_other, hst']
    rw [hst']
    split <;> simp
  · have hno : ¬ s.readingDue g := by
      rw [hdue]
      rcases hst with h | h <;> (simp [h]; omega)
    rw [State.finishedSlot_stands hno, GaugeSlot.heldInCrank_other]
    rcases hst with h | h <;> simp [h]
  · have hno : ¬ s.faultEntryDue g = true := by rw [hfault]; rcases hst with h | h <;> simp [h]
    rw [State.finishedSlot, if_neg hno, if_pos (hrecovery.mpr ⟨hst, hle⟩), GaugeSlot.recovered_held]

/-! ### The return to NORMAL -/

/-- A return before the sample in hand is filtered: the fan restarted and the slots released (R143, R165). -/
def State.crankReleased (s : State) : State := allGauges.foldl State.gaugeRelease (s.crankState .normal).fanCrankExit

section
variable (s : State)

theorem State.crankLeave_none {s : State} (h : s.sup.inHand = none) : s.crankLeave = s.crankReleased := by
  unfold State.crankLeave
  rw [h]
  rfl

theorem State.crankLeave_some {s : State} {v : Nat} (h : s.sup.inHand = some v) :
    s.crankLeave = s.crankReleased.filterSample v := by
  unfold State.crankLeave
  rw [h]
  rfl

theorem State.fanExit_sup : (s.crankState .normal).fanCrankExit.sup =
    { s.sup with crank := .normal, crankIn := 0, crankOut := 0, inHand := none } := by
  simp only [State.fanCrankExit_frame, State.crankState_sup]

theorem State.fanExit_cfg : (s.crankState .normal).fanCrankExit.cfg = s.cfg := by
  simp only [State.fanCrankExit_frame, State.crankState_cfg]

theorem State.crankReleased_act : (s.crankState .normal).fanCrankExit.GaugesAct s.crankReleased
    (fun g => (s.gauge g).released (s.gaugeRec g) s.sup.vf)
    fun g => ((s.gauge g).released (s.gaugeRec g) s.sup.vf).under ≠ (s.gauge g).under := by
  have hact := (s.crankState .normal).fanCrankExit.gaugesRelease_act
  have hgauge (g : GaugeId) : (s.crankState .normal).fanCrankExit.gauge g = s.gauge g :=
    (State.fanCrankExit_gauge _ g).trans (State.crankState_gauge _ _ g)
  have hrec (g : GaugeId) : (s.crankState .normal).fanCrankExit.gaugeRec g = s.gaugeRec g :=
    State.gaugeRec_congr s.fanExit_cfg g
  simp only [hgauge, hrec, s.fanExit_sup] at hact
  exact hact

theorem State.crankReleased_sup :
    s.crankReleased.sup = { s.sup with crank := .normal, crankIn := 0, crankOut := 0, inHand := none } :=
  (State.sup_of_reads s.crankReleased_act.reads).trans s.fanExit_sup

theorem State.crankReleased_cfg : s.crankReleased.cfg = s.cfg :=
  (State.cfg_of_reads s.crankReleased_act.reads).trans s.fanExit_cfg

theorem State.crankReleased_gauge (g : GaugeId) :
    s.crankReleased.gauge g = (s.gauge g).released (s.gaugeRec g) s.sup.vf := s.crankReleased_act.gauge g

/-- The sample in hand is then filtered and counted, and nothing is where there is none (R116). -/
theorem State.crankLeave_refilters : s.crankReleased.Refilters s.crankLeave := by
  cases h : s.sup.inHand with
  | none =>
    rw [State.crankLeave_none h]
    exact .of_same rfl rfl rfl rfl rfl rfl
  | some v =>
    rw [State.crankLeave_some h]
    exact State.filterSample_refilters _ v

theorem State.crankLeave_sup_none {s : State} (h : s.sup.inHand = none) :
    s.crankLeave.sup = { s.sup with crank := .normal, crankIn := 0, crankOut := 0 } := by
  rw [State.crankLeave_none h, State.crankReleased_sup, ← h]

theorem State.crankLeave_sup_some {s : State} {v : Nat} (h : s.sup.inHand = some v) :
    s.crankLeave.sup = Supervisor.filtered
      { s.sup with crank := .normal, crankIn := 0, crankOut := 0, inHand := none } s.cfg.supply v := by
  rw [State.crankLeave_some h, State.filterSample_sup, State.crankReleased_sup, State.crankReleased_cfg]

/-- Both of what a return does to the slots: GAUGE is raised where the release, or the sample, changes an UNDERDRIVE. -/
theorem State.crankLeave_event : (s.crankState .normal).RaisesGauge s.crankLeave
    ((∃ g : GaugeId, (s.crankReleased.gauge g).under ≠ (s.gauge g).under) ∨
      ∃ g : GaugeId, (s.crankLeave.gauge g).under ≠ (s.crankReleased.gauge g).under) := by
  have hslots : (s.crankState .normal).fanCrankExit.slots = (s.crankState .normal).slots := by
    simp only [State.fanCrankExit_frame]
  have hexit : (s.crankState .normal).RaisesGauge (s.crankState .normal).fanCrankExit False := .of_slots hslots id
  have hrelease := (hexit.trans (s.fanExit_cfg.trans (s.crankState_cfg _).symm) s.crankReleased_act.event).congr (by rw [false_or])
  have hall := hrelease.trans (s.crankReleased_cfg.trans (s.crankState_cfg _).symm) s.crankLeave_refilters.event
  simpa only [State.crankReleased_gauge] using hall

theorem State.crankLeave_slot (m : SlotId) :
    ((∃ g : GaugeId, (s.crankReleased.gauge g).under ≠ (s.gauge g).under ∨
        (s.crankLeave.gauge g).under ≠ (s.crankReleased.gauge g).under) →
      s.crankLeave.slot m = s.raisedBoth .crank .gauge m) ∧
    ((∀ g : GaugeId, (s.crankReleased.gauge g).under = (s.gauge g).under ∧
        (s.crankLeave.gauge g).under = (s.crankReleased.gauge g).under) →
      s.crankLeave.slot m = s.raisedTo .crank m) := by
  refine ⟨fun ⟨g, hg⟩ => ?_, fun hsame => ?_⟩
  · rw [s.crankLeave_event.raised (hg.imp (⟨g, ·⟩) (⟨g, ·⟩)) m]
    exact State.raisedTo_other (s.crankState_cfg _) (s.crankState_slot _ m)
  · rw [State.slot_congr (s.crankLeave_event.quiet _), State.crankState_slot]
    rintro (⟨g, hg⟩ | ⟨g, hg⟩)
    · exact hg (hsame g).1
    · exact hg (hsame g).2

/-- With the fan channel no GAUGE channel, the fan and its channel are what the fan unit makes of them. -/
theorem State.crankLeave_fanExit {s : State} (ha : s.FanApart) :
    s.crankLeave.fan = (s.crankState .normal).fanCrankExit.fan ∧ ∀ c : Channel, (s.chRec c).kind ≠ .gauge →
      s.crankLeave.chan c = (s.crankState .normal).fanCrankExit.chan c := by
  have hrelease : (s.crankState .normal).fanCrankExit.LeavesApart s.crankReleased :=
    .foldl State.LeavesApart.gaugeRelease _
  have hall := (hrelease.trans s.crankLeave_refilters.apart).rest (ha.congr s.fanExit_cfg)
  exact ⟨hall.1, fun c hc => hall.2 c (by rwa [State.chRec_congr s.fanExit_cfg])⟩

/-- A suspended fan with T above 0 enters the state that matches its channel's (R160, R165; log 44). -/
theorem State.crankLeave_restart {s : State} {c : Channel} (hb : s.BoundAreGauges) (hc : s.fanChannel = some c)
    (hst : s.fan.st = .suspended) (h0 : s.fan.target ≠ 0) (hm : (s.chRec c).kind = .motor) :
    s.crankLeave.fan.st = (s.chan c).st.fanStarts ∧ (s.crankLeave.chan c).demand =
      if (s.chan c).st = .run then moveToward (s.chan c).applied s.fan.target s.cfg.fan.rampRate
      else s.cfg.fan.kickDuty := by
  have hmotor : (s.chRec c).kind ≠ .gauge := by rw [hm]; decide
  have ha : s.FanApart := ⟨hb, fun d hd => by
    rw [Option.some.inj (hd.symm.trans hc)]
    exact hmotor⟩
  obtain ⟨hfan, hchan⟩ := State.crankLeave_fanExit ha
  have hexit : (s.crankState .normal).fanCrankExit = (s.crankState .normal).fanStart := by
    unfold State.fanCrankExit
    rw [State.crankState_fan, hst]
    exact if_neg h0
  have hstart := State.fanStart_enters (s := s.crankState .normal) (c := c)
    (by rwa [State.fanChannel_congr (s.crankState_cfg _)]) (by rwa [State.crankState_fan]) (by rw [State.crankState_sup])
  rw [State.crankState_chan, State.crankState_fan, State.crankState_cfg] at hstart
  rw [hfan, hchan c hmotor, hexit]
  exact hstart

theorem State.crankLeave_fan {s : State} (hw : s.Wired) (h : s.fan.st ≠ .suspended) : s.crankLeave.fan = s.fan := by
  rw [(State.crankLeave_fanExit hw.fanApart).1, State.fanCrankExit_fan (by rwa [State.crankState_fan]),
    State.crankState_fan]

/-- A return leaves everything else as it was. -/
theorem State.crankLeave_only : s.crankLeave = { s with
    slots := s.crankLeave.slots, chans := s.crankLeave.chans, sup := s.crankLeave.sup, gauges := s.crankLeave.gauges,
    fan := s.crankLeave.fan } := by
  obtain ⟨t, ht⟩ : ∃ t, s.crankLeave = t := ⟨_, rfl⟩
  have hkeep := s.crankLeave_keep (fun x => { x with
    slots := t.slots, chans := t.chans, sup := t.sup, gauges := t.gauges, fan := t.fan })
    (fun _ _ => rfl) (fun _ _ => rfl) (fun _ _ => rfl) (fun _ _ => rfl) (fun _ _ => rfl)
  rw [ht] at hkeep ⊢
  exact hkeep

end

/-- What is due of the supervisor is taken in the order return, entry, level (log 2). -/
theorem State.settleSupply_of_moves {s a b t : State} (ha : exec .crankExit s = .next a)
    (hb : exec .crankEntry a = .next b)
    (ht : if b.running = true ∧ b.sup.crank = .normal ∧ b.sup.shed < 3 ∧ ∃ n ∈ b.sup.rise, b.cfg.supply.dwell ≤ n then
      exec .shedRise b = .next t else exec .shedFall b = .next t) : s.settleSupply = t := by
  rw [State.exec_crankExit] at ha
  rw [State.exec_crankEntry] at hb
  rw [State.exec_shedRise, State.exec_shedFall] at ht
  have hcrank : s.settleCrank = b := by
    rw [← Host.Outcome.next.inj hb, ← Host.Outcome.next.inj ha]
    rfl
  rw [State.settleSupply, hcrank, State.finishShed]
  split at ht
  · rename_i hdue
    have hrise : b.shedRiseDue = true := b.shedRiseDue_iff.mpr (and_assoc.mpr hdue)
    rw [if_pos hrise] at ht ⊢
    exact Host.Outcome.next.inj ht
  · rename_i hno
    have hrise : ¬ b.shedRiseDue = true := fun h => hno (and_assoc.mp (b.shedRiseDue_iff.mp h))
    rw [if_neg hrise]
    exact Host.Outcome.next.inj ht

/-! ### What a return makes of a slot -/

namespace GaugeSlot

variable {r : GaugeRec} {vf : Option Nat} {x : GaugeSlot}

theorem released_held (h : x.st = .held) : x.released r vf = recomputed r vf { x with st := .active } := if_pos h

theorem released_other (h : x.st ≠ .held) : x.released r vf = x := if_neg h

theorem released_under {vt n : Nat} (h : x.st = .held) (ht : r.targetOf x.average = some vt) :
    (x.released r (some n)).under = gaugeUnder vt n := by
  rw [released_held h, recomputed_active (x := { x with st := .active }) rfl ht]

theorem released_under_stands (h : x.st ≠ .held ∨ r.targetOf x.average = none ∨ vf = none) :
    (x.released r vf).under = x.under := by
  by_cases hst : x.st = .held
  · rw [released_held hst, recomputed_none (x := { x with st := .active }) (h.resolve_left (not_not.mpr hst))]
  · rw [released_other hst]

theorem released_st (r : GaugeRec) (vf : Option Nat) (x : GaugeSlot) :
    (x.released r vf).st = if x.st = .held then .active else x.st := by
  unfold released
  split
  · exact recomputed_st r vf _
  · rfl

end GaugeSlot

/-- The slots at a return (R143, R150, R151). -/
theorem State.crankLeave_gauges (s : State) (g : GaugeId) :
    (s.crankLeave.gauge g).st = (if (s.gauge g).st = .held then .active else (s.gauge g).st) ∧
    ((s.gauge g).st ≠ .held → s.sup.inHand = none → s.crankLeave.gauge g = s.gauge g) ∧
    ((s.gauge g).st = .held → (s.gaugeTarget g = none ∨ s.sup.vf = none) → s.sup.inHand = none →
      s.crankLeave.gauge g = { s.gauge g with st := .active }) ∧
    ∀ vt vf : Nat, (s.gauge g).st = .held → s.gaugeTarget g = some vt → s.crankLeave.sup.vf = some vf →
      s.crankLeave.gauge g = { s.gauge g with
        st := .active, vt := some vt, under := gaugeUnder vt vf, duty := gaugeDuty vt vf } := by
  have hrefilters := s.crankLeave_refilters
  refine ⟨?_, fun hst hno => ?_, fun hst hnone hno => ?_, fun vt vf hst ht hvf => ?_⟩
  · rw [hrefilters.st, State.crankReleased_gauge, GaugeSlot.released_st]
  · rw [State.crankLeave_none hno, State.crankReleased_gauge, GaugeSlot.released_other hst]
  · rw [State.crankLeave_none hno, State.crankReleased_gauge, GaugeSlot.released_held hst,
      GaugeSlot.recomputed_none]
    exact hnone
  · have hreleased := s.crankReleased_gauge g
    have hactive := GaugeSlot.recomputed_active (x := { s.gauge g with st := .active }) (n := vf) rfl ht
    rw [GaugeSlot.released_held hst] at hreleased
    rcases hrefilters.gauge with ⟨hsame, hgauge⟩ | hgauge
    · have hsup : s.sup.vf = some vf := by rw [← hvf, hsame, State.crankReleased_sup]
      rw [hgauge, hreleased, hsup, hactive]
    · have hrec : s.crankReleased.gaugeRec g = s.gaugeRec g := State.gaugeRec_congr s.crankReleased_cfg g
      rw [hgauge, hreleased, hrec, hvf,
        GaugeSlot.recomputed_again (x := { s.gauge g with st := .active }) _ _ rfl ht, hactive]

end Sys2Proof.Machine

open Sys2Proof Sys2Proof.Machine

/-- Settles O33: an entry is taken apart into the readings finished before it, the crank state written, the fan
suspended and the slots held; a return into the crank state written, the fan restarted, the slots released and the
sample in hand filtered. -/
theorem crankStateMoves : Obligations.CrankStateMoves := by
  unfold Obligations.CrankStateMoves
  refine ⟨?entry, fun s a b t ha hb ht => State.settleSupply_of_moves ha hb ht, ?exit⟩
  case entry =>
    intro s due read
    refine ⟨fun hno => ?_, fun hdue => ⟨s.crankEnter, ?_, ?_⟩⟩
    · rw [State.exec_crankEntry, if_neg (mt s.crankEntryDue_iff.mp hno)]
    · rw [State.exec_crankEntry, if_pos (s.crankEntryDue_iff.mpr hdue)]
    · obtain ⟨hrun, hcrank, -⟩ := hdue
      have hread : read ↔ ∃ g : GaugeId, s.readingDue g := exists_congr fun g => (State.readingDue_iff hrun hcrank).symm
      exact ⟨s.crankEnter_sup, s.crankEnter_crank, fun hno m => (s.crankEnter_slot m).2 (mt hread.mpr hno),
        fun hr m => (s.crankEnter_slot m).1 (hread.mp hr), State.crankEnter_gauges hrun hcrank,
        fun hb hm _ hf => State.crankEnter_fan ⟨hb, hm⟩ hf, s.crankEnter_flash, s.crankEnter_only⟩
  case exit =>
    intro s due threshold rise fall released
    have hreleased (g : GaugeId) : released g = (s.crankReleased.gauge g).under := by
      rw [State.crankReleased_gauge]
      dsimp only [released]
      split
      · rename_i hst ht hvf
        rw [hvf, GaugeSlot.released_under hst ht]
        rfl
      · rename_i hno
        rw [GaugeSlot.released_under_stands]
        by_contra hall
        simp only [not_or, not_not] at hall
        obtain ⟨hst, ht, hvf⟩ := hall
        obtain ⟨vt, ht⟩ := Option.ne_none_iff_exists'.mp ht
        obtain ⟨vf, hvf⟩ := Option.ne_none_iff_exists'.mp hvf
        exact hno vt vf hst ht hvf
    refine ⟨fun hno => ?_, fun hdue => ⟨s.crankLeave, ?_, fun hb =>
      ⟨State.crankLeave_sup_none, fun v hv => ?_, fun hu m => ?_, fun hu m => ?_, s.crankLeave_gauges,
        fun c hc hst h0 hm => ?_, fun hmap => State.crankLeave_fan ⟨hb, hmap⟩, s.crankLeave_only⟩⟩⟩
    · rw [State.exec_crankExit, if_neg (mt s.crankExitDue_iff.mp hno)]
    · rw [State.exec_crankExit, if_pos (s.crankExitDue_iff.mpr hdue)]
    · rw [State.crankLeave_sup_some hv, Supervisor.filtered, Supervisor.countRise_eq, Supervisor.countFall_eq]
    · simp only [hreleased] at hu
      exact (s.crankLeave_slot m).1 hu
    · simp only [hreleased] at hu
      exact (s.crankLeave_slot m).2 hu
    · obtain ⟨hfan, hdemand⟩ := State.crankLeave_restart hb hc hst h0 hm
      exact ⟨hfan.trans (by cases (s.chan c).st <;> rfl), hdemand⟩
end

section
/-! SUPPORT. The service of the bus's request commutes with what the supervisor makes at once: none of it reads the bus's
own part of the sequencer (R112, R115, R116, R121, R131; log 26). -/

namespace Sys2Proof.Machine
open Sys2Proof

/-- The bus's request is served at step `n` with a reading `v`: the request leaves the list, the converter is busy for
the step and the source has the reading, FRESH (R131, R133). -/
def Sequencer.busServed (q : Sequencer) (n v : Nat) : Sequencer :=
  { q with requests := q.requests.filter (fun r => r.src != .bus), served := some n,
           values := q.values.set 0 ⟨some v, .fresh⟩ }

def State.busServed (s : State) (n v : Nat) : State := s.setSeq (s.seq.busServed n v)

theorem State.serve_bus (s : State) (v : Nat) : s.serve .bus v = s.busServed s.stepNow v := rfl

namespace State

variable (s : State) (n v : Nat)

/-! ### What a service leaves, and the plain writes -/

theorem busServed_reads : (s.busServed n v).cfg = s.cfg ∧ (s.busServed n v).chans = s.chans ∧
    (s.busServed n v).fan = s.fan ∧ (s.busServed n v).sup = s.sup ∧ (s.busServed n v).flash = s.flash ∧
    (s.busServed n v).queue = s.queue ∧ (s.busServed n v).window = s.window ∧ (s.busServed n v).clock = s.clock ∧
    (s.busServed n v).gates = s.gates ∧ (∀ c, (s.busServed n v).chan c = s.chan c) ∧
    (∀ c, (s.busServed n v).chRec c = s.chRec c) ∧ (∀ g, (s.busServed n v).gauge g = s.gauge g) ∧
    (∀ g, (s.busServed n v).gaugeRec g = s.gaugeRec g) ∧ (∀ g, (s.busServed n v).gaugeTarget g = s.gaugeTarget g) ∧
    (∀ f, (s.busServed n v).result f = s.result f) ∧ (∀ f, (s.busServed n v).evaluated f = s.evaluated f) ∧
    (s.busServed n v).fanChannel = s.fanChannel ∧ (∀ c, (s.busServed n v).isFan c = s.isFan c) ∧
    (s.busServed n v).cranking = s.cranking ∧ (s.busServed n v).faultedDemand = s.faultedDemand ∧
    (s.busServed n v).capDuty = s.capDuty ∧ (s.busServed n v).flashDemand = s.flashDemand ∧
    (s.busServed n v).leftSide = s.leftSide ∧ (s.busServed n v).rightSide = s.rightSide ∧
    (∀ c, (s.busServed n v).inrushTime c = s.inrushTime c) ∧ (∀ c, (s.busServed n v).admissible c = s.admissible c) ∧
    (∀ c, (s.busServed n v).releasable c = s.releasable c) ∧ (∀ c, (s.busServed n v).composed c = s.composed c) ∧
    (∀ c, (s.busServed n v).stopActive c = s.stopActive c) ∧ (∀ c, (s.busServed n v).anyActive c = s.anyActive c) ∧
    (∀ c, (s.busServed n v).gaugeBound c = s.gaugeBound c) ∧ (∀ c f, (s.busServed n v).carries c f = s.carries c f) ∧
    (∀ c, (s.busServed n v).carriesTurnFlash c = s.carriesTurnFlash c) ∧
    (s.busServed n v).follows = s.follows ∧
    (∀ g, (s.busServed n v).faultEntryDue g = s.faultEntryDue g) ∧
    (∀ g, (s.busServed n v).recoveryDue g = s.recoveryDue g) ∧
    (s.busServed n v).crankExitDue = s.crankExitDue ∧ (s.busServed n v).crankEntryDue = s.crankEntryDue ∧
    (s.busServed n v).shedRiseDue = s.shedRiseDue ∧ (s.busServed n v).shedFallDue = s.shedFallDue := by
  and_intros <;> intros <;> rfl

theorem busServed_writes : (∀ x, (s.busServed n v).setFan x = (s.setFan x).busServed n v) ∧
    (∀ x, (s.busServed n v).setSup x = (s.setSup x).busServed n v) ∧
    (∀ x, (s.busServed n v).setFlash x = (s.setFlash x).busServed n v) ∧
    (∀ c f, (s.busServed n v).modChan c f = (s.modChan c f).busServed n v) ∧
    (∀ g x, (s.busServed n v).setGauge g x = (s.setGauge g x).busServed n v) ∧
    (∀ x, (s.busServed n v).setQueue x = (s.setQueue x).busServed n v) ∧
    (∀ f x, (s.busServed n v).setResult f x = (s.setResult f x).busServed n v) ∧
    (∀ c, (s.busServed n v).dequeue c = (s.dequeue c).busServed n v) ∧
    (∀ c, (s.busServed n v).joinWindow c = (s.joinWindow c).busServed n v) ∧
    (∀ c, (s.busServed n v).negateGate c = (s.negateGate c).busServed n v) ∧
    (∀ c d src, (s.busServed n v).writeDemand c d src = (s.writeDemand c d src).busServed n v) ∧
    (∀ k, (s.busServed n v).raise k = (s.raise k).busServed n v) ∧
    (s.busServed n v).endTick = s.endTick.busServed n v := by
  and_intros <;> intros <;> rfl

theorem busServed_ite (p : Prop) [Decidable p] (a b : State) :
    (if p then a else b).busServed n v = if p then a.busServed n v else b.busServed n v :=
  apply_ite (fun t : State => t.busServed n v) p a b

theorem busServed_foldl {α : Type} {f : State → α → State}
    (hf : ∀ (t : State) (a : α), f (t.busServed n v) a = (f t a).busServed n v) (l : List α) :
    l.foldl f (s.busServed n v) = (l.foldl f s).busServed n v := by
  induction l generalizing s with
  | nil => rfl
  | cons a l ih => rw [List.foldl_cons, hf, ih, List.foldl_cons]

/-! ### The fan unit -/

theorem busServed_fanWrite (d : Nat) : (s.busServed n v).fanWrite d = (s.fanWrite d).busServed n v := by
  simp only [State.fanWrite, busServed_reads]
  cases s.fanChannel <;> rfl

theorem busServed_fanStop : (s.busServed n v).fanStop = s.fanStop.busServed n v := by
  simp only [State.fanStop, busServed_reads, busServed_writes, busServed_fanWrite]

theorem busServed_fanSuspend : (s.busServed n v).fanSuspend = s.fanSuspend.busServed n v := by
  simp only [State.fanSuspend, busServed_reads, busServed_writes, busServed_fanWrite]

theorem busServed_fanStarting : (s.busServed n v).fanStarting = s.fanStarting.busServed n v := by
  simp only [State.fanStarting, busServed_reads, busServed_writes, busServed_fanWrite]

theorem busServed_fanKick : (s.busServed n v).fanKick = s.fanKick.busServed n v := by
  simp only [State.fanKick, busServed_reads, busServed_writes, busServed_fanWrite]

theorem busServed_fanRamp (d : Nat) : (s.busServed n v).fanRamp d = (s.fanRamp d).busServed n v := by
  simp only [State.fanRamp, busServed_reads, busServed_writes, busServed_fanWrite]

theorem busServed_fanFault : (s.busServed n v).fanFault = s.fanFault.busServed n v := by
  simp only [State.fanFault, busServed_reads, busServed_writes, busServed_fanWrite]

theorem busServed_fanStart : (s.busServed n v).fanStart = s.fanStart.busServed n v := by
  simp only [State.fanStart, busServed_reads]
  cases s.fanChannel with
  | none => rfl
  | some c =>
    dsimp only
    cases (s.chan c).st with
    | off => exact busServed_fanStarting s n v
    | waiting => exact busServed_fanStarting s n v
    | inrush => exact busServed_fanKick s n v
    | run => exact busServed_fanRamp s n v _
    | cooling => exact busServed_fanFault s n v
    | latched => exact busServed_fanFault s n v

theorem busServed_fanStartOrSuspend : (s.busServed n v).fanStartOrSuspend = s.fanStartOrSuspend.busServed n v := by
  simp only [State.fanStartOrSuspend, busServed_reads, busServed_ite, busServed_fanSuspend, busServed_fanStart]

theorem busServed_fanRetarget : (s.busServed n v).fanRetarget = s.fanRetarget.busServed n v := by
  simp only [State.fanRetarget, busServed_reads, busServed_writes]
  cases s.fanChannel with
  | none => rfl
  | some c =>
    dsimp only
    cases s.fan.st with
    | stopped => simp only [busServed_ite, busServed_fanStartOrSuspend]
    | starting => simp only [busServed_ite, busServed_fanStop]
    | kick => simp only [busServed_ite, busServed_fanStop]
    | ramp => simp only [busServed_ite, busServed_fanStop]
    | suspended => simp only [busServed_ite, busServed_fanStop]
    | running => simp only [busServed_ite, busServed_fanStop]
    | faulted => simp only [busServed_fanWrite]

theorem busServed_fanSawInrush : (s.busServed n v).fanSawInrush = s.fanSawInrush.busServed n v := by
  simp only [State.fanSawInrush, busServed_reads, busServed_ite, busServed_fanKick]

theorem busServed_fanSawRun : (s.busServed n v).fanSawRun = s.fanSawRun.busServed n v := by
  simp only [State.fanSawRun, busServed_reads, busServed_ite, busServed_fanRamp]

theorem busServed_fanSawRelease : (s.busServed n v).fanSawRelease = s.fanSawRelease.busServed n v := by
  simp only [State.fanSawRelease, busServed_reads, busServed_ite, busServed_fanStop, busServed_fanSuspend,
    busServed_fanStarting]

theorem busServed_fanCrankEntry : (s.busServed n v).fanCrankEntry = s.fanCrankEntry.busServed n v := by
  simp only [State.fanCrankEntry, busServed_reads]
  cases s.fan.st <;> simp only [busServed_fanSuspend, busServed_fanWrite]

theorem busServed_fanCrankExit : (s.busServed n v).fanCrankExit = s.fanCrankExit.busServed n v := by
  simp only [State.fanCrankExit, busServed_reads]
  cases s.fan.st <;> simp only [busServed_ite, busServed_fanStart, busServed_fanWrite]

theorem busServed_ifFan {f : State → State} (hf : ∀ t : State, f (t.busServed n v) = (f t).busServed n v) (c : Channel) :
    (s.busServed n v).ifFan c f = (s.ifFan c f).busServed n v := by
  simp only [State.ifFan, busServed_reads, busServed_ite, hf]

/-! ### The output stage -/

theorem busServed_admitOne (c : Channel) : (s.busServed n v).admitOne c = (s.admitOne c).busServed n v := by
  simp only [State.admitOne, busServed_reads, busServed_writes, busServed_ite,
    busServed_ifFan _ n v (fun t => busServed_fanSawRun t n v), busServed_ifFan _ n v (fun t => busServed_fanSawInrush t n v)]

theorem busServed_admitLoop (k : Nat) : admitLoop k (s.busServed n v) = (admitLoop k s).busServed n v := by
  induction k generalizing s with
  | zero => rfl
  | succ k ih =>
    simp only [admitLoop, busServed_reads]
    split
    · rfl
    · simp only [busServed_ite, busServed_admitOne, ih]

theorem busServed_admitHeads : (s.busServed n v).admitHeads = s.admitHeads.busServed n v := busServed_admitLoop s n v _

theorem busServed_admitIfNewHead (x : Option (Channel × Urgency)) :
    (s.busServed n v).admitIfNewHead x = (s.admitIfNewHead x).busServed n v := by
  simp only [State.admitIfNewHead, busServed_reads, busServed_ite, busServed_admitHeads]

theorem busServed_promote (c : Channel) : (s.busServed n v).promote c = (s.promote c).busServed n v := by
  simp only [State.promote, busServed_reads, busServed_writes, busServed_ite, busServed_admitIfNewHead]

theorem busServed_release (c : Channel) : (s.busServed n v).release c = (s.release c).busServed n v := by
  simp only [State.release, busServed_writes, busServed_ifFan _ n v fun t => busServed_fanSawRelease t n v]

theorem busServed_releaseIfDue (c : Channel) : (s.busServed n v).releaseIfDue c = (s.releaseIfDue c).busServed n v := by
  simp only [State.releaseIfDue, busServed_reads, busServed_ite, busServed_release]

/-- The values of the other sources stand (R131). -/
theorem busServed_value {x : Source} (h : (0 : Nat) ≠ x.number) : (s.busServed n v).value x = s.value x :=
  Vector.getElem_set_ne (by decide) x.number.isLt h

/-- The requests of the other sources stand (R131). -/
theorem busServed_request {x : Source} (h : x ≠ .bus) : (s.busServed n v).request? x = s.request? x := by
  refine (List.find?_filter ..).trans (congrArg (fun p => s.seq.requests.find? p) (funext fun r => ?_))
  by_cases hr : r.src = x
  · simp [hr, h]
  · simp [hr]

/-- A channel's request and value are no part of the bus's. -/
theorem busServed_abandon (c : Channel) :
    (s.busServed n v).abandon (.channel c) = (s.abandon (.channel c)).busServed n v := by
  have hnumber : (0 : Nat) ≠ (Source.channel c).number := (Nat.succ_ne_zero c.val).symm
  have hlist : (s.busServed n v).seq.requests.filter (fun r => r.src != .channel c) =
      (s.seq.requests.filter fun r => r.src != .channel c).filter fun r => r.src != .bus := by
    refine (List.filter_filter ..).trans (Eq.trans ?_ (List.filter_filter ..).symm)
    simp only [Bool.and_comm]
  have hvalues (x : SourceValue) : (s.busServed n v).seq.values.set (Source.channel c).number x =
      (s.seq.values.set (Source.channel c).number x).set 0 ⟨some v, .fresh⟩ := Vector.set_comm _ _ hnumber
  simp only [State.abandon, busServed_request s n v (x := .channel c) nofun, busServed_value s n v hnumber, hlist,
    hvalues, busServed_ite]
  rfl

theorem busServed_cut (c : Channel) : (s.busServed n v).cut c = (s.cut c).busServed n v := by
  simp only [State.cut, busServed_writes, busServed_abandon]

theorem busServed_fanShed (d : Nat) : (s.busServed n v).fanShed d = (s.fanShed d).busServed n v := by
  simp only [State.fanShed, busServed_fanRetarget, busServed_reads]
  cases s.fanRetarget.fanChannel with
  | none => rfl
  | some c => simp only [busServed_ite, busServed_cut, busServed_reads, busServed_fanStop, busServed_fanStarting]

/-! ### The composer, the flash generator and the claim arbiter -/

theorem busServed_writeMarks (c : Channel) (stop present : Bool) :
    (s.busServed n v).writeMarks c stop present = (s.writeMarks c stop present).busServed n v := by
  simp only [State.writeMarks, busServed_reads, busServed_writes, busServed_promote, ← busServed_ite,
    busServed_releaseIfDue]

theorem busServed_recompute (c : Channel) : (s.busServed n v).recompute c = (s.recompute c).busServed n v := by
  simp only [State.recompute, busServed_reads, busServed_ite, busServed_writeMarks]
  cases (s.chRec c).kind <;> simp only [busServed_writes, ← busServed_ite, busServed_writeMarks]

theorem busServed_recomputeWhere (p : Channel → Bool) :
    (s.busServed n v).recomputeWhere p = (s.recomputeWhere p).busServed n v :=
  busServed_foldl s n v (fun t c => busServed_recompute t n v c) _

theorem busServed_composeFor (f : Fn) (b : Bool) :
    (s.busServed n v).composeFor f b = (s.composeFor f b).busServed n v := by
  simp only [State.composeFor, busServed_reads, busServed_recomputeWhere]

theorem busServed_composeFollowers : (s.busServed n v).composeFollowers = s.composeFollowers.busServed n v :=
  busServed_recomputeWhere s n v _

theorem busServed_flashTest : (s.busServed n v).flashTest = s.flashTest.busServed n v := by
  simp only [State.flashTest, busServed_reads, busServed_writes, busServed_composeFollowers, busServed_ite]
  split <;> split <;> rfl

theorem busServed_handOn (f : Fn) (b : Bool) : (s.busServed n v).handOn f b = (s.handOn f b).busServed n v := by
  simp only [State.handOn, busServed_fanRetarget, ← busServed_ite, busServed_composeFor, busServed_flashTest]

theorem busServed_reevaluate (f : Fn) : (s.busServed n v).reevaluate f = (s.reevaluate f).busServed n v := by
  simp only [State.reevaluate, busServed_reads, busServed_writes, busServed_handOn, busServed_ite]

theorem busServed_reevaluateAll (fs : List Fn) :
    (s.busServed n v).reevaluateAll fs = (s.reevaluateAll fs).busServed n v :=
  busServed_foldl s n v (fun t f => busServed_reevaluate t n v f) fs

/-! ### The gauge unit -/

theorem busServed_gaugeWrite (g : GaugeId) (d : Nat) :
    (s.busServed n v).gaugeWrite g d = (s.gaugeWrite g d).busServed n v := by
  simp only [State.gaugeWrite, busServed_reads, busServed_writes]
  cases (s.gaugeRec g).bound with
  | none => rfl
  | some c => exact busServed_releaseIfDue _ n v c

theorem busServed_gaugeRecompute (g : GaugeId) :
    (s.busServed n v).gaugeRecompute g = (s.gaugeRecompute g).busServed n v := by
  simp only [State.gaugeRecompute, busServed_reads, busServed_writes, busServed_gaugeWrite]
  split
  · simp only [busServed_ite]
  · rfl

theorem busServed_gaugesRecompute : (s.busServed n v).gaugesRecompute = s.gaugesRecompute.busServed n v :=
  busServed_foldl s n v (fun t g => busServed_gaugeRecompute t n v g) _

theorem busServed_gaugeRest (g : GaugeId) : (s.busServed n v).gaugeRest g = (s.gaugeRest g).busServed n v := by
  simp only [State.gaugeRest, busServed_reads, busServed_writes, busServed_gaugeWrite]

theorem busServed_gaugeFault (g : GaugeId) : (s.busServed n v).gaugeFault g = (s.gaugeFault g).busServed n v := by
  simp only [State.gaugeFault, busServed_reads, busServed_writes, busServed_gaugeRest, busServed_ite]

/-- A sender's value is no part of the bus's. -/
theorem busServed_gaugeRecover (g : GaugeId) : (s.busServed n v).gaugeRecover g = (s.gaugeRecover g).busServed n v := by
  have hvalue (x : Sender) : (s.busServed n v).value (.sender x) = s.value (.sender x) :=
    busServed_value s n v (by cases x <;> decide)
  simp only [State.gaugeRecover, hvalue, busServed_reads, busServed_writes, busServed_gaugeRecompute]

theorem busServed_gaugeFinishReading (g : GaugeId) :
    (s.busServed n v).gaugeFinishReading g = (s.gaugeFinishReading g).busServed n v := by
  simp only [State.gaugeFinishReading, busServed_reads, busServed_gaugeFault, busServed_gaugeRecover, busServed_ite]

theorem busServed_gaugeHold (g : GaugeId) : (s.busServed n v).gaugeHold g = (s.gaugeHold g).busServed n v := by
  simp only [State.gaugeHold, busServed_reads, busServed_writes, busServed_ite]

theorem busServed_gaugeRelease (g : GaugeId) : (s.busServed n v).gaugeRelease g = (s.gaugeRelease g).busServed n v := by
  simp only [State.gaugeRelease, busServed_reads, busServed_writes, busServed_gaugeRecompute, busServed_ite]

/-! ### The supervisor -/

theorem busServed_filterSample (x : Nat) :
    (s.busServed n v).filterSample x = (s.filterSample x).busServed n v := by
  simp only [State.filterSample, busServed_reads, busServed_writes, busServed_gaugesRecompute, ← busServed_ite]

theorem busServed_crankState (k : CrankState) : (s.busServed n v).crankState k = (s.crankState k).busServed n v := by
  simp only [State.crankState, busServed_reads, busServed_writes]

theorem busServed_crankEnter : (s.busServed n v).crankEnter = s.crankEnter.busServed n v := by
  have hreadings : (s.busServed n v).finishedReadings = s.finishedReadings.busServed n v :=
    busServed_foldl s n v (fun t g => busServed_gaugeFinishReading t n v g) _
  simp only [crankEnter_eq, hreadings, busServed_crankState, busServed_fanCrankEntry,
    busServed_foldl _ n v fun t g => busServed_gaugeHold t n v g, busServed_writes]

theorem busServed_crankLeave : (s.busServed n v).crankLeave = s.crankLeave.busServed n v := by
  have hreleased : (s.busServed n v).crankReleased = s.crankReleased.busServed n v := by
    rw [crankReleased, crankReleased, busServed_crankState, busServed_fanCrankExit,
      busServed_foldl _ n v (fun t g => busServed_gaugeRelease t n v g)]
  cases h : s.sup.inHand with
  | none => rw [crankLeave_none (s := s.busServed n v) h, crankLeave_none h, hreleased]
  | some x => rw [crankLeave_some (s := s.busServed n v) h, crankLeave_some h, hreleased, busServed_filterSample]

theorem busServed_whenDue {f : State → State} (hf : f (s.busServed n v) = (f s).busServed n v) (due : Bool) :
    (s.busServed n v).whenDue due f = (s.whenDue due f).busServed n v := by
  simp only [State.whenDue, hf, busServed_ite]

theorem busServed_settleCrank : (s.busServed n v).settleCrank = s.settleCrank.busServed n v := by
  have hleave := busServed_whenDue s n v (busServed_crankLeave s n v) s.crankExitDue
  simp only [State.settleCrank, busServed_reads, hleave]
  exact busServed_whenDue _ n v (busServed_crankEnter _ n v) _

theorem busServed_setShed (k : Nat) : (s.busServed n v).setShed k = (s.setShed k).busServed n v := by
  simp only [State.setShed, busServed_reads, busServed_writes, busServed_reevaluateAll, busServed_fanShed]

theorem busServed_finishShed : (s.busServed n v).finishShed = s.finishShed.busServed n v := by
  simp only [State.finishShed, busServed_reads, busServed_setShed, busServed_ite]

theorem busServed_settleSupply : (s.busServed n v).settleSupply = s.settleSupply.busServed n v := by
  rw [State.settleSupply, busServed_settleCrank, busServed_finishShed, State.settleSupply]

end State

end Sys2Proof.Machine
end

section
/-! SUPPORT. The handling of a bus sample (R112), case by case: what is settled before it, what the sample counts, and
what it then brings. -/

namespace Sys2Proof.Machine
open Sys2Proof

namespace State

/-! ### What is due after a settlement, and what is not -/

theorem finishShed_crank {s : State} (h : s.sup.crank = .crank) : s.finishShed = s := by
  have hrise : ¬ s.shedRiseDue = true := by simp [shedRiseDue_iff, h]
  have hfall : ¬ s.shedFallDue = true := by simp [shedFallDue_iff, h]
  rw [finishShed, if_neg hrise, if_neg hfall]

/-- A shed level that moves leaves the crank state and its counters. -/
theorem finishShed_sup (s : State) :
    s.finishShed.sup.crank = s.sup.crank ∧ s.finishShed.sup.crankIn = s.sup.crankIn := by
  unfold finishShed
  split
  · rw [setShed_sup]
    exact ⟨rfl, rfl⟩
  · split
    · rw [setShed_sup]
      exact ⟨rfl, rfl⟩
    · exact ⟨rfl, rfl⟩

theorem crankEntryDue_of_crank {s : State} (h : s.sup.crank = .crank) : s.crankEntryDue = false := by
  rw [← Bool.not_eq_true, crankEntryDue_iff]
  simp [h]

theorem settleCrank_entered (s : State) : s.settleCrank.crankEntryDue = false := by
  unfold settleCrank
  dsimp only [whenDue]
  generalize (if s.crankExitDue = true then s.crankLeave else s) = t
  split
  · exact crankEntryDue_of_crank (by rw [crankEnter_sup])
  · rename_i h
    exact Bool.not_eq_true _ |>.mp h

/-- With everything due taken, no entry to CRANK is due (R115). -/
theorem settleSupply_entered (s : State) : s.settleSupply.crankEntryDue = false := by
  obtain ⟨hcrank, hcount⟩ := s.settleCrank.finishShed_sup
  have h := s.settleCrank_entered
  rw [← Bool.not_eq_true, crankEntryDue_iff] at h ⊢
  rw [settleSupply, hcrank, hcount]
  simpa only [running, input, finishShed_frame] using h

/-- In NORMAL, START is then inactive. -/
theorem settleSupply_start {s : State} (hrun : s.running = true) (h : s.settleSupply.sup.crank = .normal) :
    (s.settleSupply.input .start).filtered ≠ some true := fun hstart => by
  have hdue := s.settleSupply_entered
  rw [← Bool.not_eq_true, crankEntryDue_iff] at hdue
  refine hdue ⟨?_, h, .inr hstart⟩
  simpa only [running, settleSupply_frame] using hrun

theorem settleSupply_running (s : State) : s.settleSupply.running = s.running := by
  simp only [running, settleSupply_frame]

/-- With no move of the crank state due, the shed level alone is left. -/
theorem settleSupply_level {s : State} (hexit : ¬ s.crankExitDue = true) (hentry : ¬ s.crankEntryDue = true) :
    s.settleSupply = s.finishShed := by
  rw [settleSupply, settleCrank, whenDue, whenDue, if_neg hexit, if_neg hentry]

/-- An entry that is due is all that is made: the shed level does not move in CRANK (R117). -/
theorem settleSupply_entry {s : State} (hentry : s.crankEntryDue = true) : s.settleSupply = s.crankEnter := by
  have hexit : ¬ s.crankExitDue = true := by simp [crankExitDue_iff, (s.crankEntryDue_iff.mp hentry).2.1]
  have hcrank : s.settleCrank = s.crankEnter := by rw [settleCrank, whenDue, whenDue, if_neg hexit, if_pos hentry]
  rw [settleSupply, hcrank, finishShed_crank (by rw [crankEnter_sup])]

/-- A return that is due is made, and the shed level may move after it. -/
theorem settleSupply_exit {s : State} (hexit : s.crankExitDue = true) :
    s.settleSupply = s.crankLeave.finishShed := by
  obtain ⟨-, -, -, hstart⟩ := s.crankExitDue_iff.mp hexit
  have hcount : s.crankLeave.sup.crankIn = 0 := by
    cases h : s.sup.inHand with
    | none => rw [crankLeave_sup_none h]
    | some v => rw [crankLeave_sup_some h]; rfl
  have hinput : (s.crankLeave.input .start).filtered = (s.input .start).filtered := by
    simp only [input, crankLeave_frame]
  have hentry : ¬ s.crankLeave.crankEntryDue = true := by simp [crankEntryDue_iff, hcount, hinput, hstart]
  rw [settleSupply, settleCrank, whenDue, whenDue, if_pos hexit, if_neg hentry]

theorem exec_crankEntry_settles {s : State} (hentry : s.crankEntryDue = true) :
    exec .crankEntry s = .next s.settleSupply := by
  rw [exec_crankEntry, if_pos hentry, settleSupply_entry hentry]

/-- In CRANK with no return due, nothing moves (R116, R117). -/
theorem settleSupply_stays {s : State} (hcrank : s.sup.crank = .crank) (hexit : ¬ s.crankExitDue = true) :
    s.settleSupply = s := by
  have hentry : ¬ s.crankEntryDue = true := by rw [crankEntryDue_of_crank hcrank]; decide
  rw [settleSupply_level hexit hentry, finishShed_crank hcrank]

theorem crankLeave_normal (s : State) : s.crankLeave.sup.crank = .normal := by
  cases h : s.sup.inHand with
  | none => rw [crankLeave_sup_none h]
  | some v => rw [crankLeave_sup_some h]; rfl

/-- The moves of the shed level as its two commands make them (R119 to R121). -/
theorem finishShed_moves {s : State} (hrun : s.running = true) (hcrank : s.sup.crank = .normal) :
    if s.sup.shed < 3 ∧ ∃ k ∈ s.sup.rise, s.cfg.supply.dwell ≤ k then exec .shedRise s = .next s.finishShed
    else if 0 < s.sup.shed ∧ ∃ k ∈ s.sup.fall, s.cfg.supply.dwell ≤ k then exec .shedFall s = .next s.finishShed
    else s.finishShed = s := by
  have hrise := s.shedRiseDue_iff.trans (and_iff_right ⟨hrun, hcrank⟩)
  have hfall := s.shedFallDue_iff.trans (and_iff_right ⟨hrun, hcrank⟩)
  rw [finishShed]
  split
  · rename_i h
    rw [exec_shedRise, if_pos (hrise.mpr h), if_pos (hrise.mpr h)]
  · rename_i hr
    rw [if_neg (mt hrise.mp hr)]
    split
    · rename_i h
      rw [exec_shedFall, if_pos (hfall.mpr h)]
    · rename_i h
      rw [if_neg (mt hfall.mp h)]

/-! ### The cases of a sample -/

theorem servesNow_running {s : State} {r : Request} (h : s.servesNow r = true) : s.running = true := by
  unfold servesNow at h
  split at h
  · cases h
  · cases h
  · simp only [Bool.and_eq_true, and_assoc] at h
    exact h.1

/-- A sample that is no brown-out is counted with the bus's request served, on what is settled before it (log 26). -/
theorem busSample_served {s : State} {n v : Nat} (hn : s.stepNow = n) (hv : 3600 ≤ v) :
    (s.serve .bus v).busSample v = ((s.settleSupply.busServed n v).countSample v).settleSupply := by
  rw [serve_bus, hn, busSample, if_neg (Nat.not_lt.mpr hv), busServed_settleSupply]

/-- A filtering leaves everything else as it was. -/
theorem filterSample_only (s : State) (v : Nat) : s.filterSample v = { s with
    slots := (s.filterSample v).slots, chans := (s.filterSample v).chans, gauges := (s.filterSample v).gauges,
    fan := (s.filterSample v).fan, sup := s.sup.filtered s.cfg.supply v } := by
  have hsup := s.filterSample_sup v
  obtain ⟨t, ht⟩ : ∃ t, s.filterSample v = t := ⟨_, rfl⟩
  have hkeep := s.filterSample_keep (fun x => { x with
    slots := t.slots, chans := t.chans, sup := t.sup, gauges := t.gauges, fan := t.fan })
    (fun _ _ => rfl) (fun _ _ => rfl) (fun _ _ => rfl) (fun _ _ => rfl) (fun _ _ => rfl) v
  rw [ht] at hkeep hsup ⊢
  rw [← hsup]
  exact hkeep

/-- A slot that recomputes on a new Vf (R150, R151), and one out of ACTIVE. -/
theorem filterSample_gauge (s : State) (v : Nat) (g : GaugeId) :
    ((s.gauge g).st ≠ .active → (s.filterSample v).gauge g = s.gauge g) ∧
    ∀ vt : Nat, s.sup.vf ≠ some (filterStep s.sup.vf v) → (s.gauge g).st = .active → s.gaugeTarget g = some vt →
      (s.filterSample v).gauge g = { s.gauge g with
        vt := some vt, under := gaugeUnder vt (filterStep s.sup.vf v),
        duty := gaugeDuty vt (filterStep s.sup.vf v) } := by
  have hvf : (s.filterSample v).sup.vf = some (filterStep s.sup.vf v) := by rw [filterSample_sup]; rfl
  have hgauge := (s.filterSample_refilters v).gauge
  rw [hvf] at hgauge
  refine ⟨fun hst => ?_, fun vt hnew hst ht => ?_⟩
  · rcases hgauge with ⟨-, hg⟩ | hg
    · exact hg g
    · rw [hg, GaugeSlot.recomputed_inactive hst]
  · rcases hgauge with ⟨hsame, -⟩ | hg
    · exact absurd hsame.symm hnew
    · rw [hg, GaugeSlot.recomputed_active hst ht]

/-- A sample in NORMAL that is filtered brings no move of the crank state: its entry counter is not at 2. -/
theorem settleSupply_filtered {s : State} {v : Nat} (hcrank : s.sup.crank = .normal) (hcount : s.sup.crankIn < 2)
    (hstart : (s.input .start).filtered ≠ some true) :
    (s.filterSample v).settleSupply = (s.filterSample v).finishShed := by
  have hsup := s.filterSample_sup v
  have hinput : (s.filterSample v).input .start = s.input .start := by simp only [input, filterSample_frame]
  have hcrank' : (s.filterSample v).sup.crank = .normal := by rw [hsup]; exact hcrank
  have hcount' : (s.filterSample v).sup.crankIn < 2 := by rw [hsup]; exact hcount
  refine settleSupply_level (by simp [crankExitDue_iff, hcrank']) ?_
  rw [crankEntryDue_iff, hinput]
  rintro ⟨-, -, hle | hactive⟩
  · omega
  · exact hstart hactive

end State

end Sys2Proof.Machine

open Sys2Proof Sys2Proof.Machine

/-- Settles O29: what START had made due is settled first, on which the service of the bus's request has no effect; then
the sample is counted, in NORMAL or in CRANK, and what it brings is settled. -/
theorem busConversion : Obligations.BusConversion := by
  unfold Obligations.BusConversion
  intro quantity n r s u hr hclock hnow hq hu v low threshold rise fall seq levelMoves
  have hv : 3600 ≤ v := le_min (by decide) hq
  have hstep : s.stepNow = n := by rw [State.stepNow, hclock]
  have hrun : u.running = true := by rw [hu, State.settleSupply_running, State.servesNow_running hnow]
  have hserved : u.busServed n v = { u with seq := seq } := rfl
  refine ⟨((u.busServed n v).countSample v).settleSupply, ?_, fun hcrank hlow => ?normal, fun hcrank hlow hcount => ?second,
    fun hcrank => ?crank⟩
  · rw [State.exec_busConversion hr hnow, State.busSample_served hstep hv, hu]
  case normal =>
    have hstart : (u.input .start).filtered ≠ some true := by
      rw [hu] at hcrank ⊢
      exact State.settleSupply_start (State.servesNow_running hnow) hcrank
    obtain ⟨x, hx⟩ : ∃ x : State, x = (u.busServed n v).setSup
      { u.sup with crankIn := if v < u.cfg.supply.crankThreshold then 1 else 0 } := ⟨_, rfl⟩
    have hcounted : (u.busServed n v).countSample v = x.filterSample v := by
      rw [hx]
      exact State.countSample_normal v hcrank hlow
    have hxcrank : x.sup.crank = .normal := by rw [hx]; exact hcrank
    have hxcount : x.sup.crankIn < 2 := by rw [hx, State.setSup_sup]; dsimp only; split <;> decide
    have hxstart : (x.input .start).filtered ≠ some true := by rw [hx]; exact hstart
    have hsettled := State.settleSupply_filtered (v := v) hxcrank hxcount hxstart
    have hwrun : (x.filterSample v).running = true := by
      simp only [State.running, State.filterSample_frame]
      rw [hx]
      exact hrun
    have hwsup := x.filterSample_sup v
    have hwcrank : (x.filterSample v).sup.crank = .normal := by rw [hwsup]; exact hxcrank
    have honly := x.filterSample_only v
    have hstands := x.filterSample_stands v
    have hevent := (x.filterSample_refilters v).event
    have hgauge := x.filterSample_gauge v
    rw [hcounted, hsettled]
    subst hx
    refine ⟨_, State.finishShed_moves hwrun hwcrank, honly.trans ?_, fun hvf => (hstands hvf).trans ?_, hevent.raised,
      fun hsame => hevent.quiet fun ⟨g, hg⟩ => hg (hsame g), fun g => (hgauge g).1, fun g => (hgauge g).2⟩
    · rw [Supervisor.filtered, Supervisor.countRise_eq, Supervisor.countFall_eq]
      rfl
    · rw [hwsup]
      rfl
  case second =>
    rw [State.countSample_low (s := u.busServed n v) v hcrank hlow hcount]
    have hdue : ((u.busServed n v).setSup { u.sup with crankIn := 2 }).crankEntryDue = true :=
      (State.crankEntryDue_iff _).mpr ⟨hrun, hcrank, .inl le_rfl⟩
    exact State.exec_crankEntry_settles hdue
  case crank =>
    intro out returns
    have hcounted : (u.busServed n v).countSample v = (u.busServed n v).setSup { u.sup with
        crankOut := out, inHand := if out = 20 ∧ u.startActive = false then some v else none } :=
      State.countSample_crank v hcrank
    have hmax : out ≤ 20 := by dsimp only [out]; split <;> omega
    have hstart : u.startActive = false ↔ (u.input .start).filtered ≠ some true := by
      simp [State.startActive, State.filtered]
    rw [hcounted]
    refine ⟨fun hno => ?_, fun hret => ?_⟩
    · rw [if_neg (by rwa [hstart])]
      refine State.settleSupply_stays hcrank fun hexit => hno ?_
      obtain ⟨-, -, hout, hinactive⟩ := (State.crankExitDue_iff _).mp hexit
      exact ⟨hmax.antisymm hout, hinactive⟩
    · rw [if_pos (by rwa [hstart]), hret.1]
      have hexit : ((u.busServed n v).setSup { u.sup with crankOut := 20, inHand := some v }).crankExitDue = true :=
        (State.crankExitDue_iff _).mpr ⟨hrun, hcrank, le_rfl, hret.2⟩
      rw [State.settleSupply_exit hexit]
      refine ⟨_, (State.exec_crankExit _).trans (congrArg _ (if_pos hexit)), State.finishShed_moves ?_ ?_⟩
      · simp only [State.running, State.crankLeave_frame]
        exact hrun
      · exact State.crankLeave_normal _
end
